-- ==== Sys2Proof/Word.lean ====
section
/-! DEFINITION. The word types of the device: bytes of its memories and the 32-bit registers of R3. -/
namespace Sys2Proof

/-- One byte of a memory or of a frame. -/
abbrev Byte := BitVec 8

/-- One register of R3: 32 bits, bit 0 the least significant. -/
abbrev Word := BitVec 32

end Sys2Proof
end

