-- ==== Sys2Proof/Config.lean ====
section
/-! DEFINITION. The values that the spec leaves open, as constants without a body: nothing can evaluate them, so a
statement holds whatever they are. Each is named in a row of notes/assumptions. -/
namespace Sys2Proof

/-- The direction of a rounding to an integer whose rule the spec does not state: up where true. -/
opaque Config.roundsUp : Rat → Bool

/-- A quotient whose divisor is 0, for which the spec states no result. -/
opaque Config.quotientByZero : Rat → Rat

/-- The divider ratio of a monitor for DIV = 3, which R195 does not give. -/
opaque Config.monRatio : Nat

/-- The jerks of a plan of R164 whose whole ticks no set of jerks within the stated bounds brings to its end conditions. -/
opaque Config.planJerks : Rat → Rat → Rat → Rat → List Nat → Nat → Rat

/-- A loop reference in µV converted to the raw code of its slot (R146): divider, GAIN and OFFSET of the converter. -/
opaque Config.rawReference : Nat → Nat → Int → Rat → Int

/-- The value, in the unit of its channel, that a raw code stands for: channel, GAIN and OFFSET of the converter, raw code (R132,
R173). -/
opaque Config.rawValue : Nat → Nat → Int → Nat → Rat

/-- A calibrated value under a GAIN and an OFFSET other than those of reset (R186): GAIN, OFFSET, channel, the value without
correction. -/
opaque Config.corrected : Nat → Int → Nat → Int → Int

/-- The field that a refusal at check 6 names for a channel (R377): channel. -/
opaque Config.channelField : Nat → Nat

/-- What a refusal of the checker names where no slot entry stands for what is missing (R177). -/
opaque Config.noSlotCode : Nat

/-- A bandgap difference in ppm beyond its 16-bit field (R187). -/
opaque Config.refPpm : Rat → Int

/-- OFFSET of R186 from the round means of the AGND and the 0.900 × REF inputs. -/
opaque Config.calOffset : Rat → Rat → Int

/-- GAIN of R186 from the same means. -/
opaque Config.calGain : Rat → Rat → Nat

/-- Column `i` of the check matrix of R318 for data bit `i`; the spec gives no matrix. -/
opaque Config.hsiaoColumn : Nat → Nat

/-- The same of the (39,32) code of the engine stores. -/
opaque Config.engineColumn : Nat → Nat

/-- What a state word of an engine without a stated format reads as with the data bits of a mask wrong: word, mask, value written. -/
opaque Config.engineData : Nat → Nat → Rat → Rat

/-- The bytes of the Keeper ROM, by offset. -/
opaque Config.romByte : Nat → Nat

/-- The SRAM addresses that are Keeper's (R366). -/
opaque Config.keeperSram : Nat → Bool

/-- The ROM word addresses listed as patchable (R361). -/
opaque Config.romPatchable : Nat → Bool

/-- An ECDSA P-256 signature (64 bytes) verified under a key (64 bytes) over a message. -/
opaque Config.ecdsaOk : List Nat → List Nat → List Nat → Bool

/-- The words of the FACTORY region as shipped: serial number, trims, vendor firmware key. -/
opaque Config.factoryWord : Nat → Nat

/-- Where the FACTORY region holds the vendor firmware key, and where the serial number: byte offsets. -/
opaque Config.vendorKeyAt : Nat
opaque Config.serialAt : Nat

/-- The SRAM row, and the flash block, that holds an address (R384). -/
opaque Config.sramRow : Nat → Nat
opaque Config.flashBlock : Nat → Nat

/-- Bytes of the device's random-number generator, in order of use (R272). -/
opaque Config.randomByte : Nat → Nat

/-- Proportional and integral gains of the charger's voltage loop (`0`) and current loop (`1`) by L_SEL (R252). -/
opaque Config.chgKp : Nat → Nat → Rat
opaque Config.chgKi : Nat → Nat → Rat

/-- Bytes the spec leaves undefined, in order of use: Bivouac RAM after a domain reset (R277). -/
opaque Config.freeByte : Nat → Nat

/-- BIV cycles that have passed when a commit comes, in order of use: no command tells the time between two seconds (R281, R284). -/
opaque Config.freeCycles : Nat → Nat

/-- The payload of a LINK frame of R412, by tick and ring side: echo stamps whose form the spec does not give. -/
opaque Config.linkStamps : Nat → Nat → List Nat

/-- The source ID of a FAULT frame (table Frame types) by the CAUSE of the groups it stops. -/
opaque Config.bcastSource : Nat → Nat

end Sys2Proof
end

