-- ==== Sys2Proof/Machine/Bits.lean ====
section
/-! DEFINITION. Bit fields, two's complement, byte order, clamps and sparse tables: the helpers every block uses. -/
namespace Sys2Proof.Machine

/-- Bits `lo + w - 1 : lo` of a number. -/
def bits (v lo w : Nat) : Nat := v / 2 ^ lo % 2 ^ w

/-- Bit `i` of a number. -/
def bit (v i : Nat) : Bool := v / 2 ^ i % 2 == 1

/-- `v` with bit `i` set. -/
def setBit (v i : Nat) : Nat := if bit v i then v else v + 2 ^ i

/-- `v` with bit `i` cleared. -/
def clrBit (v i : Nat) : Nat := if bit v i then v - 2 ^ i else v

/-- One bit as a number. -/
def b2n (p : Bool) : Nat := if p then 1 else 0

/-- A `w`-bit pattern read as a signed number. -/
def sx (w v : Nat) : Int := if v % 2 ^ w < 2 ^ (w - 1) then (v % 2 ^ w : Nat) else (v % 2 ^ w : Nat) - (2 : Int) ^ w

/-- A number as a `w`-bit two's-complement pattern. -/
def ux (w : Nat) (i : Int) : Nat := (i % (2 : Int) ^ w).toNat

/-- `min(max(x, lo), hi)`, the clamp of R146. -/
def clampI (lo hi x : Int) : Int := min (max x lo) hi

/-- The same clamp on exact rationals. -/
def clampQ (lo hi x : Rat) : Rat := min (max x lo) hi

/-- The same clamp on naturals: the nearest end of a range. -/
def clampN (lo hi x : Nat) : Nat := min (max x lo) hi

/-- A field that takes a 0 as 1. -/
def atLeast1 (x : Nat) : Nat := if x = 0 then 1 else x

/-- An increment that stops at its limit. -/
def satInc (lim x : Nat) : Nat := if x < lim then x + 1 else lim

/-- Rounding towards zero to an integer. -/
def truncQ (x : Rat) : Int := if 0 ≤ x then x.floor else -((-x).floor)

/-- Rounding to the nearest integer, halves towards plus infinity: the `rnd` of R146. -/
def roundHalfUp (x : Rat) : Int := (x + 1/2).floor

/-- The square of an integer, as a natural. -/
def sqI (x : Int) : Nat := x.natAbs * x.natAbs

/-- `n` bytes of a number, least significant first (R3). -/
def leBytes : Nat → Nat → List Nat
  | 0, _ => []
  | n + 1, v => v % 256 :: leBytes n (v / 256)

/-- The number a list of bytes spells, least significant first (R3). -/
def leNat : List Nat → Nat
  | [] => 0
  | x :: r => x + 256 * leNat r

/-- A signed number as `n` bytes, least significant first (R3). -/
def leInt (n : Nat) (i : Int) : List Nat := leBytes n (ux (8 * n) i)

/-- `n` bytes from position `i` of a list, missing ones absent. -/
def slice (l : List Nat) (i n : Nat) : List Nat := (l.drop i).take n

/-- The little-endian number in `n` bytes from position `i`. -/
def leAt (l : List Nat) (i n : Nat) : Nat := leNat (slice l i n)

/-- The little-endian signed number in `n` bytes from position `i`. -/
def leIntAt (l : List Nat) (i n : Nat) : Int := sx (8 * n) (leAt l i n)

/-- A list padded with zeros to length `n`. -/
def padTo (n : Nat) (l : List Nat) : List Nat := l ++ List.replicate (n - l.length) 0

/-- A list of bytes cut into little-endian 32-bit words. -/
def leWords (l : List Nat) (n : Nat) : List Nat := (List.range n).map fun i => leAt l (4 * i) 4

/-- The bits of a number set at the positions of a list. -/
def maskOf : List Nat → Nat
  | [] => 0
  | i :: r => setBit (maskOf r) i

/-- The positions below `n` of the bits set in a number. -/
def bitsSet (n v : Nat) : List Nat := (List.range n).filter fun i => bit v i

/-- The median of three values. -/
def med3 (a b c : Int) : Int := max (min a b) (min (max a b) c)

/-- A sparse table: pairs of key and value, strictly rising keys, every other key at a default. -/
abbrev Tab (α : Type) := List (Nat × α)

/-- The value at a key, or the default. -/
def Tab.get {α : Type} (t : Tab α) (d : α) (k : Nat) : α :=
  match t with
  | [] => d
  | (a, x) :: r => if a = k then x else Tab.get r d k

/-- A pair put at its place by key. -/
def Tab.ins {α : Type} (k : Nat) (v : α) (t : Tab α) : Tab α :=
  match t with
  | [] => [(k, v)]
  | (a, x) :: r => if k < a then (k, v) :: (a, x) :: r else (a, x) :: Tab.ins k v r

/-- Every entry of a key removed. -/
def Tab.del {α : Type} (t : Tab α) (k : Nat) : Tab α := t.filter fun p => p.1 != k

/-- The table with a value at a key; a value equal to the default is not listed. -/
def Tab.put {α : Type} [DecidableEq α] (t : Tab α) (d : α) (k : Nat) (v : α) : Tab α :=
  if v = d then Tab.del t k else Tab.ins k v (Tab.del t k)

/-- The canonical form: strictly rising keys and no entry equal to the default of its key. -/
def Tab.wf {α : Type} [DecidableEq α] (d : Nat → α) (t : Tab α) : Bool :=
  match t with
  | [] => true
  | (a, x) :: r => (r.all fun p => decide (a < p.1)) && decide (x ≠ d a) && Tab.wf d r

/-- An element of a list replaced; outside the list nothing changes. -/
def setAt {α : Type} (l : List α) (i : Nat) (x : α) : List α :=
  match l, i with
  | [], _ => []
  | _ :: r, 0 => x :: r
  | y :: r, i + 1 => y :: setAt r i x

/-- A fold over the instance numbers below `n`, in ascending order. -/
def forAll {β : Type} (n : Nat) (b : β) (f : Nat → β → β) : β := (List.range n).foldl (fun s i => f i s) b

/-- `l.foldl f c`, with the accumulator evaluated before each step. -/
def foldNat (f : Nat → Nat → Nat) : List Nat → Nat → Nat
  | [], c => c
  | x :: l, 0 => foldNat f l (f 0 x)
  | x :: l, k + 1 => foldNat f l (f (k + 1) x)

/-- `n` steps of a CRC of width `w` and a polynomial, most significant bit first. -/
def crcBits (w poly : Nat) : Nat → Nat → Nat
  | 0, c => c
  | n + 1, c => crcBits w poly n (if bit c (w - 1) then (c * 2 % 2 ^ w) ^^^ poly else c * 2)

/-- A CRC of width `w` over bytes, most significant bit first. -/
def crcMsb (w poly init : Nat) (l : List Nat) : Nat := foldNat (fun c x => crcBits w poly 8 (c ^^^ (x * 2 ^ (w - 8)))) l init

/-- CRC-8, polynomial 0x07, initial value 0. -/
def crc8 (l : List Nat) : Nat := crcMsb 8 0x07 0 l

/-- CRC-16, polynomial 0x1021, initial value 0xFFFF. -/
def crc16 (l : List Nat) : Nat := crcMsb 16 0x1021 0xFFFF l

/-- `n` steps of the reflected CRC-32. -/
def crc32Bits : Nat → Nat → Nat
  | 0, c => c
  | n + 1, c => crc32Bits n (if c % 2 = 1 then (c / 2) ^^^ 0xEDB88320 else c / 2)

/-- CRC-32 of the IEEE 802.3 polynomial. -/
def crc32 (l : List Nat) : Nat := (foldNat (fun c x => crc32Bits 8 (c ^^^ x)) l 0xFFFFFFFF) ^^^ 0xFFFFFFFF

/-- The bitwise majority of three numbers. -/
def maj3 (a b c : Nat) : Nat := (a &&& b) ||| (a &&& c) ||| (b &&& c)

end Sys2Proof.Machine
end

