-- ==== Sys2Proof/Machine/Profile.lean ====
section
/-! DEFINITION. The profile generator of spec/06_control_engines.md (R162 to R167, R461, R462): planning in whole
ticks and the advance by constant jerk. Positions are in 2^-24 µV (µA for the charger), velocities per tick. -/
namespace Sys2Proof.Machine

/-- A segment of a plan: ticks left and jerk per tick³. -/
structure Seg where
  n : Nat
  j : Rat
  deriving DecidableEq, Repr

/-- A profile instance: position, velocity and acceleration per tick, target, the plan in force, whether that plan is the shortest stop
of case 2 of R165, after which a move from rest follows, and the span of R166: the least and the greatest of the position at which the
running moves began, the targets given since and the positions of the replans; `rem`: what the exact position, velocity and acceleration of
the plan have beyond their rounded values, so that no rounding adds up over a plan (R164). -/
structure Prof where
  x : Int := 0
  v : Int := 0
  a : Int := 0
  tgt : Int := 0
  segs : List Seg := []
  stop : Bool := false
  lo : Int := 0
  hi : Int := 0
  rem : Rat × Rat × Rat := (0, 0, 0)
  deriving DecidableEq, Repr

/-- Velocity, acceleration and jerk limits in internal units per tick. -/
structure Lim where
  v : Rat
  a : Rat
  j : Rat
  deriving DecidableEq, Repr

/-- The scale of the internal position: 2^24 per µV. -/
def lsb : Int := 16777216

/-- Rounding to an integer where the spec states no rule: floor or ceiling, as `Config.roundsUp` says. -/
def toInt (q : Rat) : Int := if q.den = 1 then q.num else if Config.roundsUp q then q.floor + 1 else q.floor

/-- A quotient; a divisor of 0 gives the free value of the quotient. -/
def quot (x y : Rat) : Rat := if y = 0 then Config.quotientByZero x else x / y

/-- Limits from the register fields (mV/ms, mV/ms², mV/ms³); a 0 is taken as 1 under R462. -/
def limOf (vmax amax jmax : Nat) : Lim :=
  ⟨(atLeast1 vmax : Nat) * (lsb : Rat) / 2, (atLeast1 amax : Nat) * (lsb : Rat) / 4000,
   (atLeast1 jmax : Nat) * (lsb : Rat) / 8000000⟩

/-- The least number from `lo` to `lo + 2^k` at which a rising condition holds. -/
def bisect (p : Nat → Bool) : Nat → Nat → Nat
  | 0, lo => if p lo then lo else lo + 1
  | k + 1, lo => if p (lo + 2 ^ k - 1) then bisect p k lo else bisect p k (lo + 2 ^ k)

/-- The least whole number of ticks not below a time. -/
def ceilN (q : Rat) : Nat := q.ceil.toNat

/-- A square root rounded up to a multiple of 2^-32; exact where the root is such a multiple. -/
def sqrtQ (x : Rat) : Rat :=
  let m := ceilN (x * 4 ^ 32)
  (bisect (fun n => decide (m ≤ n * n)) 96 0 : Nat) / 2 ^ 32

/-- Whole ticks of the segments of a move of length `d > 0` from rest to rest: jerk phase, constant acceleration,
cruise (R163, each rounded up under R164). -/
def restTicks (L : Lim) (d : Rat) : Nat × Nat × Nat :=
  if L.a * L.a ≤ L.v * L.j then
    if L.v * (L.v / L.a + L.a / L.j) ≤ d then
      (ceilN (L.a / L.j), ceilN (L.v / L.a - L.a / L.j), ceilN ((d - L.v * (L.v / L.a + L.a / L.j)) / L.v))
    else if 2 * L.a * L.a * L.a < d * L.j * L.j then
      (ceilN (L.a / L.j),
       bisect (fun n => decide (d ≤ L.a * ((n : Rat) + L.a / L.j) * ((n : Rat) + 2 * L.a / L.j))) 48 0, 0)
    else (bisect (fun n => decide (d ≤ 2 * L.j * (n : Rat) * (n : Rat) * (n : Rat))) 48 0, 0, 0)
  else
    let n1 := bisect (fun n => decide (L.v ≤ L.j * (n : Rat) * (n : Rat))) 48 0
    if 4 * L.v * L.v * L.v ≤ d * d * L.j then
      (n1, 0, bisect (fun n => decide (d / L.v ≤ n ∨ (d / L.v - n) * (d / L.v - n) * L.j ≤ 4 * L.v)) 48 0)
    else (bisect (fun n => decide (d ≤ 2 * L.j * (n : Rat) * (n : Rat) * (n : Rat))) 48 0, 0, 0)

/-- The plan of a move of signed length `d` from rest to rest: one common factor lowers the jerk so that the rounded
segments end at the target (R164). -/
def restPlan (L : Lim) (d : Rat) : List Seg :=
  if d = 0 then [] else
    let (n1, n2, n3) := restTicks L (if d < 0 then -d else d)
    let j := d / ((n1 : Rat) * (n1 + n2) * (2 * n1 + n2 + n3))
    [⟨n1, j⟩, ⟨n2, 0⟩, ⟨n1, -j⟩, ⟨n3, 0⟩, ⟨n1, -j⟩, ⟨n2, 0⟩, ⟨n1, j⟩].filter fun s => s.n != 0

/-- A change of velocity `-w` that ends with zero acceleration: durations and jerks before rounding. -/
structure Change where
  t1 : Rat
  j1 : Rat
  t2 : Rat
  t3 : Rat
  j3 : Rat
  deriving DecidableEq, Repr

/-- The shortest jerk-limited change from relative velocity `w` and acceleration `a` to zero of both, keeping the
acceleration within AMAX (R165, R461). -/
def change (L : Lim) (w a : Rat) : Change :=
  let w0 := w + a * (if a < 0 then -a else a) / (2 * L.j)
  let s : Rat := if w0 < 0 then -1 else 1
  let w := s * w
  let a := s * a
  let X := L.j * w + a * a / 2
  if a + L.a < 0 then ⟨-(a + L.a) / L.j, s * L.j, (w - a * a / (2 * L.j)) / L.a, L.a / L.j, s * L.j⟩
  else if X ≤ L.a * L.a then
    let ap := sqrtQ X
    ⟨max 0 ((a + ap) / L.j), -(s * L.j), 0, ap / L.j, s * L.j⟩
  else ⟨(a + L.a) / L.j, -(s * L.j), (w + a * a / (2 * L.j) - L.a * L.a / L.j) / L.a, L.a / L.j, s * L.j⟩

/-- Velocity and distance after a segment of `t` ticks at jerk `j`. -/
def moved (v a j t : Rat) : Rat × Rat × Rat :=
  (v * t + a * t * t / 2 + j * t * t * t / 6, v + a * t + j * t * t / 2, a + j * t)

/-- The distance a change of velocity covers from `v` and `a`. -/
def Change.dist (c : Change) (v a : Rat) : Rat :=
  let (d1, v1, a1) := moved v a c.j1 c.t1
  let (d2, v2, a2) := moved v1 a1 0 c.t2
  let (d3, _, _) := moved v2 a2 c.j3 c.t3
  d1 + d2 + d3

/-- The distance of the shortest stop from `v` and `a`. -/
def stopDist (L : Lim) (v a : Rat) : Rat := (change L v a).dist v a

/-- What a unit of jerk in a segment of `n` ticks with `r` ticks after it adds to acceleration, velocity, position. -/
def weight (n r : Nat) : Rat × Rat × Rat :=
  ((n : Rat), (n : Rat) * n / 2 + n * r, (n : Rat) * n * n / 6 + (n : Rat) * n * r / 2 + (n : Rat) * r * r / 2)

/-- A bound on jerks: a linear form in them and the largest value it may have. -/
abbrev Bound := List Rat × Rat

/-- The value of a linear form. -/
def linForm (g js : List Rat) : Rat := ((g.zip js).map fun p => p.1 * p.2).sum

/-- The sign of each jerk kept, and none beyond JMAX (R164). -/
def jerkBounds (L : Lim) (j0 : List Rat) : List Bound :=
  (List.range j0.length).flatMap fun i =>
    let unit (s : Rat) : List Rat := (List.range j0.length).map fun k => if k = i then s else 0
    let j := j0.getD i 0
    [(unit 1, if 0 < j then L.j else 0), (unit (-1), if j < 0 then L.j else 0)]

/-- Every bound holds of the jerks. -/
def within (bs : List Bound) (js : List Rat) : Bool := bs.all fun g => decide (linForm g.1 js ≤ g.2)

/-- The shortest stop in whole ticks: the two jerks that bring v and a to zero, signs kept, none beyond JMAX, |a| within AMAX (R164,
R165); the free value where no such pair exists. -/
def stopPlan (L : Lim) (v a : Rat) : List Seg :=
  if v = 0 ∧ a = 0 then [] else
    let c := change L v a
    let n1 := ceilN c.t1
    let n2 := ceilN c.t2
    let n3 := ceilN c.t3
    let (p1, q1, _) := weight n1 (n2 + n3)
    let (p3, q3, _) := weight n3 0
    let ea := -a
    let ev := -(v + a * ((n1 + n2 + n3 : Nat) : Rat))
    let det := p1 * q3 - p3 * q1
    let js : List Rat :=
      if det ≠ 0 then [(ea * q3 - p3 * ev) / det, (p1 * ev - q1 * ea) / det]
      else if n1 = 0 ∧ p3 ≠ 0 then [c.j1, ea / p3] else [c.j1, c.j3]
    let ok := p1 * js.getD 0 0 + p3 * js.getD 1 0 == ea && q1 * js.getD 0 0 + q3 * js.getD 1 0 == ev
    let bs := jerkBounds L [c.j1, c.j3] ++ [([(n1 : Rat), 0], L.a - a), ([-(n1 : Rat), 0], L.a + a)]
    let js := if ok ∧ within bs js then js else (List.range 2).map (Config.planJerks v a 0 L.j [n1, n2, n3])
    [⟨n1, js.getD 0 0⟩, ⟨n2, 0⟩, ⟨n3, js.getD 1 0⟩].filter fun s => s.n != 0

/-- The determinant of three columns. -/
def det3 (a b c : Rat × Rat × Rat) : Rat :=
  a.1 * (b.2.1 * c.2.2 - b.2.2 * c.2.1) - b.1 * (a.2.1 * c.2.2 - a.2.2 * c.2.1) + c.1 * (a.2.1 * b.2.2 - a.2.2 * b.2.1)

/-- The scalar product of two columns. -/
def dot3 (a b : Rat × Rat × Rat) : Rat := a.1 * b.1 + a.2.1 * b.2.1 + a.2.2 * b.2.2

/-- The change of four jerks that leaves three end conditions as they are: the direction left free by the columns of their weights. -/
def nullJerks (cols : List (Rat × Rat × Rat)) : List Rat :=
  match cols with
  | [p, q, r, s] => [det3 q r s, -det3 p r s, det3 p q s, -det3 p q r]
  | _ => []

/-- The step `s` nearest to 0 for which `js + s d` keeps every bound; none where no step does. -/
def lineStep (bs : List Bound) (js d : List Rat) : Option Rat :=
  let go (acc : Option Rat × Option Rat × Bool) (g : Bound) : Option Rat × Option Rat × Bool :=
    let (lo, hi, ok) := acc
    let k := linForm g.1 d
    let room := g.2 - linForm g.1 js
    if k = 0 then (lo, hi, ok && decide (0 ≤ room))
    else if 0 < k then (lo, some (match hi with
      | some x => min x (room / k)
      | none => room / k), ok)
    else (some (match lo with
      | some x => max x (room / k)
      | none => room / k), hi, ok)
  let (lo, hi, ok) := bs.foldl go (none, none, true)
  let s := match lo with
    | some x => max 0 x
    | none => 0
  let s := match hi with
    | some x => min s x
    | none => s
  let inLo := match lo with
    | some x => decide (x ≤ s)
    | none => true
  if ok && inLo then some s else none

/-- The jerks that meet the three end conditions where at most two segments have ticks: those of the other segments do not matter. -/
def fewJerks (cols : List (Rat × Rat × Rat)) (j0 : List Rat) (c : Rat × Rat × Rat) : List Rat :=
  let live := (List.range cols.length).filter fun i => (cols.getD i (0, 0, 0)).1 != 0
  match live with
  | [i] =>
    let u := cols.getD i (0, 0, 0)
    j0.set i (dot3 u c / dot3 u u)
  | [i, k] =>
    let u := cols.getD i (0, 0, 0)
    let w := cols.getD k (0, 0, 0)
    let det := dot3 u u * dot3 w w - dot3 u w * dot3 u w
    if det = 0 then j0
    else (j0.set i ((dot3 u c * dot3 w w - dot3 u w * dot3 w c) / det)).set k ((dot3 u u * dot3 w c - dot3 u w * dot3 u c) / det)
  | _ => j0

/-- The four jerks that meet the three end conditions with the least sum of squared changes from `j0` under the bounds (R164): of
the line of jerks that meet them, the point nearest to `j0` that keeps the bounds; none where no point does. -/
def leastJerks (bs : List Bound) (cols : List (Rat × Rat × Rat)) (j0 : List Rat) (c : Rat × Rat × Rat) : Option (List Rat) :=
  let row (f : Rat × Rat × Rat → Rat) (g : Rat × Rat × Rat → Rat) : Rat := (cols.map fun w => f w * g w).sum
  let col (g : Rat × Rat × Rat → Rat) : Rat × Rat × Rat := (row (·.1) g, row (·.2.1) g, row (·.2.2) g)
  let m1 := col (·.1)
  let m2 := col (·.2.1)
  let m3 := col (·.2.2)
  let s : Rat × Rat × Rat := (cols.zip j0).foldl
    (fun s p => (s.1 + p.1.1 * p.2, s.2.1 + p.1.2.1 * p.2, s.2.2 + p.1.2.2 * p.2)) (0, 0, 0)
  let e : Rat × Rat × Rat := (c.1 - s.1, c.2.1 - s.2.1, c.2.2 - s.2.2)
  let det := det3 m1 m2 m3
  if det = 0 then
    let js := fewJerks cols j0 c
    let total (f : Rat × Rat × Rat → Rat) : Rat := ((cols.zip js).map fun p => f p.1 * p.2).sum
    if (total (·.1), total (·.2.1), total (·.2.2)) = c ∧ within bs js then some js else none
  else
    let l : Rat × Rat × Rat := (det3 e m2 m3 / det, det3 m1 e m3 / det, det3 m1 m2 e / det)
    let js := (cols.zip j0).map fun p => p.2 + dot3 p.1 l
    let d := nullJerks cols
    (lineStep bs js d).map fun s => (js.zip d).map fun p => p.1 + s * p.2

/-- The cruise velocity of R461 over a distance: the largest up to VMAX, in units of the velocity's resolution, for which parts 1 and 3
cover no more (R461). From the velocity `w` at which a direct return of the acceleration to zero would end, the cover rises with the cruise
velocity; below it the cover has a hump, so that where `w` covers too much the largest velocity lies before the hump. -/
def cruiseVelocity (L : Lim) (d v a : Rat) (cover : Nat → Rat) : Nat :=
  let cap := L.v.floor.toNat
  let w := min cap (ceilN (v + a * (if a < 0 then -a else a) / (2 * L.j)))
  if cover cap ≤ d then cap
  else if cover w ≤ d then w + (bisect (fun n => decide (d < cover (w + n))) 48 0 - 1)
  else bisect (fun n => decide (w ≤ n) || decide (d < cover n)) 48 0 - 1

/-- The plan of R461 over the distance `d > 0` ahead, from `v` and `a` in the direction of motion. -/
def movingPlan (L : Lim) (d v a : Rat) : List Seg :=
  let cover (vp : Nat) : Rat := (change L (v - vp) a).dist v a + stopDist L vp 0
  let vp : Nat := cruiseVelocity L d v a cover
  let c1 := change L (v - vp) a
  let c3 := change L vp 0
  let n1 := ceilN c1.t1
  let n2 := ceilN c1.t2
  let n3 := ceilN c1.t3
  let n4 := if vp = 0 then 0 else ceilN ((d - cover vp) / vp)
  let n5 := ceilN c3.t1
  let n6 := ceilN c3.t2
  let n7 := ceilN c3.t3
  let r := n5 + n6 + n7
  let T : Rat := ((n1 + n2 + n3 + n4 + r : Nat) : Rat)
  let cols := [weight n1 (n2 + n3 + n4 + r), weight n3 (n4 + r), weight n5 (n6 + n7), weight n7 0]
  let j0 := [c1.j1, c1.j3, c3.j1, c3.j3]
  -- |a| within AMAX after each jerk; v within VMAX where the plan may have its greatest velocity: where the first jerk ends a rise, and
  -- in the ticks about the two ends of the cruise
  let f (n : Nat) : Rat := n
  let aEnd (g : List Rat) : List Bound := [(g, L.a - a), (g.map (-·), L.a + a)]
  let vAt (u : Nat) : Bound :=
    let by_ (start n : Nat) : Rat := (weight (min n (u - start)) (u - start - n)).2.1
    ([by_ 0 n1, by_ (n1 + n2) n3, by_ (n1 + n2 + n3 + n4) n5, 0], L.v - v - a * u)
  let e1 := n1 + n2 + n3
  let top : List Bound :=
    if 0 < a ∧ c1.j1 < 0 ∧ v + a * a / (2 * L.j) ≤ L.v ∧ v < L.v then [([1, 0, 0, 0], -(a * a / (2 * (L.v - v))))] else []
  let bs := jerkBounds L j0 ++ aEnd [f n1, 0, 0, 0] ++ aEnd [f n1, f n3, 0, 0] ++ aEnd [f n1, f n3, f n5, 0] ++ top ++
    [vAt e1, vAt (e1 + n4)] ++ ((if 2 < n3 then [e1 - 1, e1 - 2] else []) ++ if 2 < n5 then [e1 + n4 + 1, e1 + n4 + 2] else []).map vAt
  let js := (leastJerks bs cols j0 (-a, -(v + a * T), d - (v * T + a * T * T / 2))).getD
    ((List.range 4).map (Config.planJerks v a d L.j [n1, n2, n3, n4, n5, n6, n7]))
  [⟨n1, js.getD 0 0⟩, ⟨n2, 0⟩, ⟨n3, js.getD 1 0⟩, ⟨n4, 0⟩, ⟨n5, js.getD 2 0⟩, ⟨n6, 0⟩, ⟨n7, js.getD 3 0⟩].filter
    fun s => s.n != 0

/-- The completion of R167. -/
def Prof.complete (p : Prof) : Bool := p.x == p.tgt && p.v == 0 && p.a == 0 && p.segs.isEmpty

/-- The span of R166 with a new target: a profile that is complete begins a new sequence of moves. -/
def Prof.spanned (p : Prof) (tgt : Int) : Prof :=
  let q := if p.complete then { p with lo := p.x, hi := p.x } else p
  { q with lo := min q.lo (min p.x tgt), hi := max q.hi (max p.x tgt) }

/-- The plan of R165 to a new target from the present position, velocity and acceleration. -/
def Prof.plan (L : Lim) (p : Prof) (tgt : Int) : Prof :=
  let p := { p.spanned tgt with rem := (0, 0, 0) }
  if p.v = 0 ∧ p.a = 0 then
    let segs := restPlan L ((tgt - p.x : Int) : Rat)
    { p with tgt := tgt, segs := segs, stop := false }
  else
    let dir : Int := if p.v < 0 ∨ (p.v = 0 ∧ p.a < 0) then -1 else 1
    let d : Rat := ((dir * (tgt - p.x) : Int) : Rat)
    let v : Rat := ((dir * p.v : Int) : Rat)
    let a : Rat := ((dir * p.a : Int) : Rat)
    if 0 < d ∧ stopDist L v a ≤ d then
      { p with tgt := tgt, segs := (movingPlan L d v a).map fun s => ⟨s.n, dir * s.j⟩, stop := false }
    else { p with tgt := tgt, segs := stopPlan L p.v p.a, stop := true }

/-- The end of a plan: a stop is followed by the move from rest to the target, any other plan ends at its target. -/
def Prof.finish (L : Lim) (p : Prof) : Prof :=
  if p.stop then
    { p with v := 0, a := 0, segs := restPlan L ((p.tgt - p.x : Int) : Rat), stop := false, rem := (0, 0, 0) }
  else { p with x := p.tgt, v := 0, a := 0, segs := [], rem := (0, 0, 0) }

/-- One tick of constant jerk (R162), the position within the span of R166; the plan goes on from the exact values (R164). -/
def Prof.advance (L : Lim) (p : Prof) : Prof :=
  match p.segs with
  | [] => if p.stop then p.finish L else p
  | s :: r =>
    let x0 : Rat := p.x + p.rem.1
    let v0 : Rat := p.v + p.rem.2.1
    let a0 : Rat := p.a + p.rem.2.2
    let x1 := x0 + v0 + a0 / 2 + s.j / 6
    let v1 := v0 + a0 + s.j / 2
    let a1 := a0 + s.j
    let x := clampI p.lo p.hi (toInt x1)
    let q : Prof := { p with
      x := x, v := toInt v1, a := toInt a1, rem := (x1 - x, v1 - toInt v1, a1 - toInt a1) }
    if s.n ≤ 1 then (if r = [] then { q with segs := [] }.finish L else { q with segs := r })
    else { q with segs := ⟨s.n - 1, s.j⟩ :: r }

/-- A profile at rest at a position. -/
def Prof.rest (x : Int) : Prof := { x := x, tgt := x, lo := x, hi := x }

end Sys2Proof.Machine
end

