-- ==== Sys2Proof/Machine/RegMap.lean ====
section
/-! DEFINITION. The register map: every register field of the chapters' field tables, with its address, place,
access code (R4) and reset value, and the list of all registers. Addresses are those of R31; LEGACY_ADC_DATA and
LEGACY_ADC_CTL exist only in the direct windows (R388) and stand here under 0x5000_0040 and 0x5000_0044, which no
register access can reach. -/
namespace Sys2Proof.Machine

/-- The access codes of R4. -/
inductive Acc where
  | rw | ro | wo | w1c | w1s | rc | ko
  deriving DecidableEq, Repr

/-- One field of a register, or of every instance of a register: the address of instance 0, the distance of the
instances, its lowest bit, its width, its access code and its reset value (`rsts` where the instances differ). -/
structure Fld where
  base : Nat
  stride : Nat
  lo : Nat
  w : Nat
  acc : Acc
  rst : Nat
  rsts : List Nat
  deriving DecidableEq, Repr

/-- One register, or `count` instances of it, with its fields. -/
structure RegD where
  base : Nat
  stride : Nat
  count : Nat
  flds : List Fld
  deriving DecidableEq, Repr

/-- The key under which the register file holds a field of instance `i`: its bit address. -/
def Fld.key (F : Fld) (i : Nat) : Nat := (F.base + F.stride * i) * 8 + F.lo

/-- The reset value of a field of instance `i`. -/
def Fld.rstAt (F : Fld) (i : Nat) : Nat := F.rsts.getD i F.rst

/-! Registers of spec/01_tick_and_hierarchies.md -/

-- SYS_TICK_LO (0x4000_0000)
def SYS_TICK_LO.TICK_LO : Fld := ⟨0x40000000, 0, 0, 32, .ro, 0, []⟩
-- SYS_TICK_HI (0x4000_0004)
def SYS_TICK_HI.TICK_HI : Fld := ⟨0x40000004, 0, 0, 32, .ro, 0, []⟩
-- CLK_STATUS (0x4000_0010)
def CLK_STATUS.TICK_SRC : Fld := ⟨0x40000010, 0, 14, 1, .ro, 0, []⟩
def CLK_STATUS.PLL_SEL : Fld := ⟨0x40000010, 0, 13, 1, .ro, 0, []⟩
def CLK_STATUS.HRPLL_LOCK : Fld := ⟨0x40000010, 0, 12, 1, .ro, 0, []⟩
def CLK_STATUS.XIN_OK : Fld := ⟨0x40000010, 0, 11, 1, .ro, 0, []⟩
def CLK_STATUS.DOM_OK : Fld := ⟨0x40000010, 0, 0, 11, .ro, 0, []⟩
-- CLK_FAULT (0x4000_0014)
def CLK_FAULT.XIN_LOST : Fld := ⟨0x40000014, 0, 11, 1, .w1c, 0, []⟩
def CLK_FAULT.DOM_FAIL : Fld := ⟨0x40000014, 0, 0, 11, .w1c, 0, []⟩
-- ENG_STATUS (0x4000_0020)
def ENG_STATUS.LE4_ROLE : Fld := ⟨0x40000020, 0, 4, 3, .ro, 0, []⟩
def ENG_STATUS.LE4_SHADOW : Fld := ⟨0x40000020, 0, 0, 4, .ro, 0, []⟩
-- ENG_OVR_FLAGS (0x4000_0024)
def ENG_OVR_FLAGS.OVR : Fld := ⟨0x40000024, 0, 0, 6, .w1c, 0, []⟩
-- ENG_OVR_COUNT (0x4000_0028)
def ENG_OVR_COUNT.COUNT : Fld := ⟨0x40000028, 0, 0, 16, .rc, 0, []⟩
-- ENG_LOAD_LE0 to ENG_LOAD_ME (0x4000_0030 to 0x4000_0040)
def ENG_LOAD.MAX_FINISH : Fld := ⟨0x40000030, 4, 16, 8, .rc, 0, []⟩
def ENG_LOAD.LAST_FINISH : Fld := ⟨0x40000030, 4, 8, 8, .ro, 0, []⟩
def ENG_LOAD.BUDGET : Fld := ⟨0x40000030, 4, 0, 8, .ro, 0, []⟩
-- RING_TICK_OFFSET_LO (0x4000_0050) and RING_TICK_OFFSET_HI (0x4000_0054)
def RING_TICK_OFFSET_LO.OFFSET : Fld := ⟨0x40000050, 0, 0, 32, .ro, 0, []⟩
-- RING_TICK_OFFSET_LO (0x4000_0050) and RING_TICK_OFFSET_HI (0x4000_0054)
def RING_TICK_OFFSET_HI.OFFSET : Fld := ⟨0x40000054, 0, 0, 32, .ro, 0, []⟩
-- ALIGN_STATUS (0x4000_0058)
def ALIGN_STATUS.ALIGN_LOCKED : Fld := ⟨0x40000058, 0, 31, 1, .ro, 0, []⟩
def ALIGN_STATUS.IS_MASTER : Fld := ⟨0x40000058, 0, 30, 1, .ro, 0, []⟩
def ALIGN_STATUS.MASTER_ID : Fld := ⟨0x40000058, 0, 16, 12, .ro, 0, []⟩
def ALIGN_STATUS.PHASE_ERR : Fld := ⟨0x40000058, 0, 0, 16, .ro, 0, []⟩

/-! Registers of spec/02_berths_switching.md -/

-- BERTH_nn_CFG (0x4001_0000 + nn × 0x100 + 0x00)
def BERTH_CFG.SOA_REF : Fld := ⟨0x40010000, 256, 8, 4, .rw, 0, []⟩
def BERTH_CFG.SAFE_HELD : Fld := ⟨0x40010000, 256, 7, 1, .rw, 0, []⟩
def BERTH_CFG.EARLY : Fld := ⟨0x40010000, 256, 6, 1, .rw, 0, []⟩
def BERTH_CFG.CLASS : Fld := ⟨0x40010000, 256, 4, 2, .rw, 3, []⟩
def BERTH_CFG.GAIN : Fld := ⟨0x40010000, 256, 3, 1, .rw, 0, []⟩
def BERTH_CFG.MODE : Fld := ⟨0x40010000, 256, 0, 1, .rw, 0, []⟩
-- BERTH_nn_CTL (+0x04)
def BERTH_CTL.ON : Fld := ⟨0x40010004, 256, 0, 1, .rw, 0, []⟩
-- BERTH_nn_STATE (+0x08)
def BERTH_STATE.CFG_REJ : Fld := ⟨0x40010008, 256, 16, 1, .w1c, 0, []⟩
def BERTH_STATE.CAUSE : Fld := ⟨0x40010008, 256, 12, 4, .ro, 0, []⟩
def BERTH_STATE.TOKEN : Fld := ⟨0x40010008, 256, 8, 3, .ro, 7, []⟩
def BERTH_STATE.STATE : Fld := ⟨0x40010008, 256, 0, 3, .ro, 0, []⟩
-- BERTH_nn_PROF_V (+0x0C)
def BERTH_PROF_V.VMAX : Fld := ⟨0x4001000C, 256, 0, 16, .rw, 0, []⟩
-- BERTH_nn_PROF_AJ (+0x10)
def BERTH_PROF_AJ.JMAX : Fld := ⟨0x40010010, 256, 16, 16, .rw, 0, []⟩
def BERTH_PROF_AJ.AMAX : Fld := ⟨0x40010010, 256, 0, 16, .rw, 0, []⟩
-- BERTH_nn_GATE (+0x14)
def BERTH_GATE.IGATE_MAX : Fld := ⟨0x40010014, 256, 0, 10, .rw, 20, []⟩
-- BERTH_nn_GLOOP (+0x18)
def BERTH_GLOOP.KI : Fld := ⟨0x40010018, 256, 16, 16, .rw, 0, []⟩
def BERTH_GLOOP.KP : Fld := ⟨0x40010018, 256, 0, 16, .rw, 256, []⟩
-- BERTH_nn_INRUSH_T (+0x1C)
def BERTH_INRUSH_T.DONE_MV : Fld := ⟨0x4001001C, 256, 16, 16, .rw, 200, []⟩
def BERTH_INRUSH_T.TMAX : Fld := ⟨0x4001001C, 256, 0, 16, .rw, 100, []⟩
-- BERTH_nn_SOA_R1 to BERTH_nn_SOA_R3 (+0x20, +0x24, +0x28)
def BERTH_SOA_R.RTH (k : Nat) : Fld := ⟨0x40010020 + 4 * k, 256, 0, 16, .rw, 0, []⟩
-- BERTH_nn_SOA_B1 to BERTH_nn_SOA_B3 (+0x2C, +0x30, +0x34)
def BERTH_SOA_B.BETA (k : Nat) : Fld := ⟨0x4001002C + 4 * k, 256, 0, 32, .rw, 0, []⟩
-- BERTH_nn_SOA_RD1 to BERTH_nn_SOA_RD3 (+0x38, +0x3C, +0x40)
def BERTH_SOA_RD.ROUND_DECAY (k : Nat) : Fld := ⟨0x40010038 + 4 * k, 256, 0, 32, .rw, 0, []⟩
-- BERTH_nn_SOA_LIM (+0x44)
def BERTH_SOA_LIM.TJ_LIM : Fld := ⟨0x40010044, 256, 0, 16, .rw, 1400, []⟩
-- BERTH_nn_SOA_TJ (+0x48)
def BERTH_SOA_TJ.TJ_PEAK : Fld := ⟨0x40010048, 256, 16, 16, .rc, 0, []⟩
def BERTH_SOA_TJ.TJ_PRED : Fld := ⟨0x40010048, 256, 0, 16, .ro, 0, []⟩
-- BERTH_nn_SOA_T1 to BERTH_nn_SOA_T3 (+0x4C, +0x50, +0x54)
def BERTH_SOA_T.TERM (k : Nat) : Fld := ⟨0x4001004C + 4 * k, 256, 0, 32, .ro, 0, []⟩
-- BERTH_nn_SOA_HOLD (+0x58)
def BERTH_SOA_HOLD.HOLD : Fld := ⟨0x40010058, 256, 0, 16, .rw, 0, []⟩
-- BERTH_TOKENS (0x4003_0800)
def BERTH_TOKENS.FREE : Fld := ⟨0x40030800, 0, 16, 8, .ro, 63, []⟩
def BERTH_TOKENS.IN_USE : Fld := ⟨0x40030800, 0, 8, 3, .ro, 6, []⟩
def BERTH_TOKENS.TOK_LIMIT : Fld := ⟨0x40030800, 0, 4, 3, .ko, 6, []⟩
def BERTH_TOKENS.TOK_CFG : Fld := ⟨0x40030800, 0, 0, 3, .rw, 6, []⟩
-- BERTH_LIM (0x4003_0804)
def BERTH_LIM.TJ_LIM_MAX : Fld := ⟨0x40030804, 0, 0, 16, .ko, 1500, []⟩
-- BERTH_PENDING (0x4003_0808), BERTH_INRUSH (0x4003_080C), BERTH_ONMAP (0x4003_0810)
def BERTH_PENDING.MAP : Fld := ⟨0x40030808, 0, 0, 32, .ro, 0, []⟩
-- BERTH_PENDING (0x4003_0808), BERTH_INRUSH (0x4003_080C), BERTH_ONMAP (0x4003_0810)
def BERTH_INRUSH.MAP : Fld := ⟨0x4003080C, 0, 0, 32, .ro, 0, []⟩
-- BERTH_PENDING (0x4003_0808), BERTH_INRUSH (0x4003_080C), BERTH_ONMAP (0x4003_0810)
def BERTH_ONMAP.MAP : Fld := ⟨0x40030810, 0, 0, 32, .ro, 0, []⟩
-- BERTH_TOKEN_OWNER_LO (0x4003_0818) and BERTH_TOKEN_OWNER_HI (0x4003_081C)
def BERTH_TOKEN_OWNER_LO.OWNER : Fld := ⟨0x40030818, 0, 0, 32, .ro, 0, []⟩
-- BERTH_TOKEN_OWNER_LO (0x4003_0818) and BERTH_TOKEN_OWNER_HI (0x4003_081C)
def BERTH_TOKEN_OWNER_HI.OWNER : Fld := ⟨0x4003081C, 0, 0, 32, .ro, 0, []⟩
-- FEED_n_CFG (+0x00)
def FEED_CFG.REARM_MV : Fld := ⟨0x40030000, 256, 16, 9, .rw, 100, []⟩
def FEED_CFG.REV_MV : Fld := ⟨0x40030000, 256, 8, 5, .rw, 5, []⟩
def FEED_CFG.FWD_MV : Fld := ⟨0x40030000, 256, 0, 6, .rw, 20, []⟩
-- FEED_n_CTL (+0x04)
def FEED_CTL.FORCE_OFF : Fld := ⟨0x40030004, 256, 0, 1, .rw, 0, []⟩
-- FEED_n_STATUS (+0x08)
def FEED_STATUS.REV_COUNT : Fld := ⟨0x40030008, 256, 16, 16, .rc, 0, []⟩
def FEED_STATUS.STATE : Fld := ⟨0x40030008, 256, 0, 2, .ro, 0, []⟩
-- FEED_VNET_WIN (0x4003_0200)
def FEED_VNET_WIN.QUAL : Fld := ⟨0x40030200, 0, 24, 8, .rw, 16, []⟩
def FEED_VNET_WIN.OV_MV : Fld := ⟨0x40030200, 0, 12, 12, .rw, 600, []⟩
def FEED_VNET_WIN.UV_MV : Fld := ⟨0x40030200, 0, 0, 12, .rw, 120, []⟩

/-! Registers of spec/03_berths_protection.md -/

-- BERTH_nn_FT (+0x80)
def BERTH_FT.REV_EN : Fld := ⟨0x40010080, 256, 16, 1, .rw, 0, []⟩
def BERTH_FT.FT_HELD : Fld := ⟨0x40010080, 256, 8, 8, .rw, 40, []⟩
def BERTH_FT.FT_CODE : Fld := ⟨0x40010080, 256, 0, 8, .rw, 80, []⟩
-- BERTH_nn_FT_STAT (+0x84)
def BERTH_FT_STAT.FT_COUNT : Fld := ⟨0x40010084, 256, 16, 16, .rc, 0, []⟩
def BERTH_FT_STAT.TRIP_I : Fld := ⟨0x40010084, 256, 0, 16, .ro, 0, []⟩
-- BERTH_nn_TW_R (+0x88)
def BERTH_TW_R.ALPHA : Fld := ⟨0x40010088, 256, 16, 16, .rw, 3930, []⟩
def BERTH_TW_R.R20 : Fld := ⟨0x40010088, 256, 0, 16, .rw, 0, []⟩
-- BERTH_nn_TW_RTH (+0x8C)
def BERTH_TW_RTH.RBA : Fld := ⟨0x4001008C, 256, 16, 16, .rw, 0, []⟩
def BERTH_TW_RTH.RCB : Fld := ⟨0x4001008C, 256, 0, 16, .rw, 0, []⟩
-- BERTH_nn_TW_C (+0x90)
def BERTH_TW_C.CB : Fld := ⟨0x40010090, 256, 16, 16, .rw, 0, []⟩
def BERTH_TW_C.CC : Fld := ⟨0x40010090, 256, 0, 16, .rw, 0, []⟩
-- BERTH_nn_TW_AMB (+0x94)
def BERTH_TW_AMB.MARGIN : Fld := ⟨0x40010094, 256, 8, 12, .rw, 200, []⟩
def BERTH_TW_AMB.AMB_SRC : Fld := ⟨0x40010094, 256, 0, 4, .rw, 0, []⟩
-- BERTH_nn_TW_LIM (+0x98)
def BERTH_TW_LIM.TRIP : Fld := ⟨0x40010098, 256, 16, 16, .rw, 1250, []⟩
def BERTH_TW_LIM.WARN : Fld := ⟨0x40010098, 256, 0, 16, .rw, 1150, []⟩
-- BERTH_nn_TW_REARM (+0x9C)
def BERTH_TW_REARM.REARM : Fld := ⟨0x4001009C, 256, 0, 16, .rw, 1000, []⟩
-- BERTH_nn_TW_TC (+0xA0), BERTH_nn_TW_TB (+0xA4), BERTH_nn_TW_TA (+0xA8)
def BERTH_TW_TC.TEMP : Fld := ⟨0x400100A0, 256, 0, 32, .ro, 0, []⟩
-- BERTH_nn_TW_TC (+0xA0), BERTH_nn_TW_TB (+0xA4), BERTH_nn_TW_TA (+0xA8)
def BERTH_TW_TB.TEMP : Fld := ⟨0x400100A4, 256, 0, 32, .ro, 0, []⟩
-- BERTH_nn_TW_TC (+0xA0), BERTH_nn_TW_TB (+0xA4), BERTH_nn_TW_TA (+0xA8)
def BERTH_TW_TA.TEMP : Fld := ⟨0x400100A8, 256, 0, 32, .ro, 0, []⟩
-- BERTH_nn_PSTAT (+0xAC)
def BERTH_PSTAT.RESTORE : Fld := ⟨0x400100AC, 256, 30, 2, .ro, 0, []⟩
def BERTH_PSTAT.AMB_SUBST : Fld := ⟨0x400100AC, 256, 26, 1, .ro, 0, []⟩
def BERTH_PSTAT.TWIN_HOT : Fld := ⟨0x400100AC, 256, 25, 1, .ro, 0, []⟩
def BERTH_PSTAT.WARN : Fld := ⟨0x400100AC, 256, 24, 1, .ro, 0, []⟩
def BERTH_PSTAT.RETRY_CNT : Fld := ⟨0x400100AC, 256, 16, 4, .ro, 0, []⟩
def BERTH_PSTAT.REJ_REASON : Fld := ⟨0x400100AC, 256, 8, 3, .ro, 0, []⟩
def BERTH_PSTAT.FT_LATCH : Fld := ⟨0x400100AC, 256, 0, 1, .ro, 0, []⟩
-- BERTH_nn_PLIM (+0xB0)
def BERTH_PLIM.RETRY_WIN : Fld := ⟨0x400100B0, 256, 16, 16, .ko, 600, []⟩
def BERTH_PLIM.RETRY_MAX : Fld := ⟨0x400100B0, 256, 8, 4, .ko, 3, []⟩
def BERTH_PLIM.FT_MAX : Fld := ⟨0x400100B0, 256, 0, 8, .ko, 200, []⟩
-- BERTH_nn_TLIM (+0xB4)
def BERTH_TLIM.RGAP_MIN : Fld := ⟨0x400100B4, 256, 16, 16, .ko, 100, []⟩
def BERTH_TLIM.TRIP_MAX : Fld := ⟨0x400100B4, 256, 0, 16, .ko, 1500, []⟩
-- BERTH_nn_TRIP_TICK_LO (+0xB8) and BERTH_nn_TRIP_TICK_HI (+0xBC)
def BERTH_TRIP_TICK_LO.TICK : Fld := ⟨0x400100B8, 256, 0, 32, .ro, 0, []⟩
-- BERTH_nn_TRIP_TICK_LO (+0xB8) and BERTH_nn_TRIP_TICK_HI (+0xBC)
def BERTH_TRIP_TICK_HI.TICK : Fld := ⟨0x400100BC, 256, 0, 32, .ro, 0, []⟩

/-! Registers of spec/04_multiphase_loops.md -/

-- LOOP_n_CFG (+0x00)
def LOOP_CFG.VSEL2 : Fld := ⟨0x40040000, 1024, 24, 4, .rw, 15, []⟩
def LOOP_CFG.VSEL1 : Fld := ⟨0x40040000, 1024, 20, 4, .rw, 15, []⟩
def LOOP_CFG.VSEL0 : Fld := ⟨0x40040000, 1024, 16, 4, .rw, 15, []⟩
def LOOP_CFG.VSEL_QUAL : Fld := ⟨0x40040000, 1024, 8, 4, .rw, 3, []⟩
def LOOP_CFG.IREF_SEL : Fld := ⟨0x40040000, 1024, 5, 1, .rw, 0, []⟩
def LOOP_CFG.STOP_MODE : Fld := ⟨0x40040000, 1024, 4, 1, .rw, 0, []⟩
def LOOP_CFG.PREBIAS : Fld := ⟨0x40040000, 1024, 3, 1, .rw, 0, []⟩
def LOOP_CFG.KBUS_SRC : Fld := ⟨0x40040000, 1024, 2, 1, .rw, 0, []⟩
def LOOP_CFG.BURST_EN : Fld := ⟨0x40040000, 1024, 1, 1, .rw, 0, []⟩
def LOOP_CFG.SCALE : Fld := ⟨0x40040000, 1024, 0, 1, .rw, 0, []⟩
-- LOOP_n_CTL (+0x04)
def LOOP_CTL.FORCE_EN : Fld := ⟨0x40040004, 1024, 11, 1, .rw, 0, []⟩
def LOOP_CTL.FORCE_IDX : Fld := ⟨0x40040004, 1024, 8, 3, .rw, 0, []⟩
def LOOP_CTL.EN : Fld := ⟨0x40040004, 1024, 0, 1, .rw, 0, []⟩
-- LOOP_n_STATE (+0x08)
def LOOP_STATE.CFG_REJ : Fld := ⟨0x40040008, 1024, 28, 1, .w1c, 0, []⟩
def LOOP_STATE.ILIM_ACT : Fld := ⟨0x40040008, 1024, 27, 1, .ro, 0, []⟩
def LOOP_STATE.MOVING : Fld := ⟨0x40040008, 1024, 26, 1, .ro, 0, []⟩
def LOOP_STATE.IDX : Fld := ⟨0x40040008, 1024, 21, 3, .ro, 0, []⟩
def LOOP_STATE.RAW_IDX : Fld := ⟨0x40040008, 1024, 18, 3, .ro, 0, []⟩
def LOOP_STATE.N_ACT : Fld := ⟨0x40040008, 1024, 13, 5, .ro, 0, []⟩
def LOOP_STATE.CAUSE : Fld := ⟨0x40040008, 1024, 8, 4, .ro, 0, []⟩
def LOOP_STATE.STATE : Fld := ⟨0x40040008, 1024, 0, 3, .ro, 0, []⟩
-- LOOP_n_PER (+0x0C)
def LOOP_PER.LOOP_OFS : Fld := ⟨0x4004000C, 1024, 16, 13, .rw, 0, []⟩
def LOOP_PER.PER : Fld := ⟨0x4004000C, 1024, 0, 13, .rw, 3200, []⟩
-- LOOP_n_TON (+0x10)
def LOOP_TON.TOFF_MIN : Fld := ⟨0x40040010, 1024, 8, 8, .rw, 40, []⟩
def LOOP_TON.TON_MIN : Fld := ⟨0x40040010, 1024, 0, 8, .rw, 30, []⟩
-- LOOP_n_VSET_0 to LOOP_n_VSET_7 (+0x20 to +0x3C)
def LOOP_VSET.CODE (k : Nat) : Fld := ⟨0x40040020 + 4 * k, 1024, 0, 16, .rw, 1500, []⟩
-- LOOP_n_PROF_V (+0x40) and LOOP_n_PROF_AJ (+0x44)
def LOOP_PROF_V.VMAX : Fld := ⟨0x40040040, 1024, 0, 16, .rw, 0, []⟩
-- LOOP_n_PROF_V (+0x40) and LOOP_n_PROF_AJ (+0x44)
def LOOP_PROF_AJ.JMAX : Fld := ⟨0x40040044, 1024, 16, 16, .rw, 0, []⟩
def LOOP_PROF_AJ.AMAX : Fld := ⟨0x40040044, 1024, 0, 16, .rw, 0, []⟩
-- LOOP_n_WIN (+0x48)
def LOOP_WIN.QUAL : Fld := ⟨0x40040048, 1024, 24, 8, .rw, 4, []⟩
def LOOP_WIN.OV_MV : Fld := ⟨0x40040048, 1024, 12, 12, .rw, 100, []⟩
def LOOP_WIN.UV_MV : Fld := ⟨0x40040048, 1024, 0, 12, .rw, 100, []⟩
-- LOOP_n_CMPWIN (+0x4C)
def LOOP_CMPWIN.HI_MV : Fld := ⟨0x4004004C, 1024, 16, 16, .rw, 50, []⟩
def LOOP_CMPWIN.LO_MV : Fld := ⟨0x4004004C, 1024, 0, 16, .rw, 50, []⟩
-- LOOP_n_ILIM (+0x50)
def LOOP_ILIM.IOC : Fld := ⟨0x40040050, 1024, 16, 16, .rw, 65535, []⟩
def LOOP_ILIM.ILIM : Fld := ⟨0x40040050, 1024, 0, 16, .rw, 65534, []⟩
-- LOOP_n_ILIM2 (+0x54)
def LOOP_ILIM2.OC_QUAL : Fld := ⟨0x40040054, 1024, 24, 8, .rw, 8, []⟩
def LOOP_ILIM2.ILIM_STEP : Fld := ⟨0x40040054, 1024, 16, 8, .rw, 16, []⟩
def LOOP_ILIM2.IPH_LIM : Fld := ⟨0x40040054, 1024, 0, 12, .rw, 4095, []⟩
-- LOOP_n_SHARE (+0x58)
def LOOP_SHARE.TRIM_MAX : Fld := ⟨0x40040058, 1024, 16, 16, .rw, 512, []⟩
def LOOP_SHARE.KSHARE : Fld := ⟨0x40040058, 1024, 0, 16, .rw, 256, []⟩
-- LOOP_n_SHED (+0x5C)
def LOOP_SHED.ADD_A : Fld := ⟨0x4004005C, 1024, 16, 16, .rw, 0, []⟩
def LOOP_SHED.SHED_A : Fld := ⟨0x4004005C, 1024, 0, 16, .rw, 0, []⟩
-- LOOP_n_SHED_N (+0x60)
def LOOP_SHED_N.NMIN : Fld := ⟨0x40040060, 1024, 24, 5, .rw, 1, []⟩
def LOOP_SHED_N.SHED_BEATS : Fld := ⟨0x40040060, 1024, 16, 8, .rw, 16, []⟩
def LOOP_SHED_N.BURST_A : Fld := ⟨0x40040060, 1024, 0, 16, .rw, 0, []⟩
-- LOOP_n_BURST (+0x64)
def LOOP_BURST.BURST_N : Fld := ⟨0x40040064, 1024, 16, 6, .rw, 3, []⟩
def LOOP_BURST.SLEEP_MIN : Fld := ⟨0x40040064, 1024, 0, 16, .rw, 100, []⟩
-- LOOP_n_PRE (+0x68)
def LOOP_PRE.PRE_V : Fld := ⟨0x40040068, 1024, 16, 16, .ro, 0, []⟩
def LOOP_PRE.PRE_RISE : Fld := ⟨0x40040068, 1024, 0, 16, .rw, 1000, []⟩
-- LOOP_n_VSP (+0x6C), LOOP_n_ITOT (+0x70), LOOP_n_VSET_NOW (+0x74)
def LOOP_VSP.VALUE : Fld := ⟨0x4004006C, 1024, 0, 32, .ro, 0, []⟩
-- LOOP_n_VSP (+0x6C), LOOP_n_ITOT (+0x70), LOOP_n_VSET_NOW (+0x74)
def LOOP_ITOT.VALUE : Fld := ⟨0x40040070, 1024, 0, 32, .ro, 0, []⟩
-- LOOP_n_VSP (+0x6C), LOOP_n_ITOT (+0x70), LOOP_n_VSET_NOW (+0x74)
def LOOP_VSET_NOW.VALUE : Fld := ⟨0x40040074, 1024, 0, 32, .ro, 0, []⟩
-- LOOP_n_COUNT (+0x78)
def LOOP_COUNT.SKIP_COUNT : Fld := ⟨0x40040078, 1024, 16, 16, .rc, 0, []⟩
def LOOP_COUNT.BURSTS : Fld := ⟨0x40040078, 1024, 0, 16, .rc, 0, []⟩
-- LOOP_n_KLIM (+0x7C)
def LOOP_KLIM.IOC_MAX : Fld := ⟨0x4004007C, 1024, 16, 16, .ko, 65535, []⟩
def LOOP_KLIM.VSET_CEIL : Fld := ⟨0x4004007C, 1024, 0, 16, .ko, 11000, []⟩
-- PHASE_pp_CFG (0x4004_2000 + pp × 0x10)
def PHASE_CFG.IMON_GAIN : Fld := ⟨0x40042000, 16, 16, 16, .rw, 5000, []⟩
def PHASE_CFG.SHED_RANK : Fld := ⟨0x40042000, 16, 8, 4, .rw, 0, []⟩
def PHASE_CFG.LOOP : Fld := ⟨0x40042000, 16, 0, 4, .rw, 15, []⟩
-- PHASE_pp_STAT (+0x04) and PHASE_pp_TRIM (+0x08)
def PHASE_STAT.I_AVG : Fld := ⟨0x40042004, 16, 16, 16, .ro, 0, []⟩
def PHASE_STAT.ACTIVE : Fld := ⟨0x40042004, 16, 0, 1, .ro, 0, []⟩
-- PHASE_pp_STAT (+0x04) and PHASE_pp_TRIM (+0x08)
def PHASE_TRIM.TRIM : Fld := ⟨0x40042008, 16, 0, 16, .ro, 0, []⟩
-- LOOP_VSEL_PINS (0x4004_3000)
def LOOP_VSEL_PINS.LEVEL : Fld := ⟨0x40043000, 0, 0, 12, .ro, 0, []⟩

/-! Registers of spec/05_integrated_rails.md -/

-- IB_n_CFG (+0x00)
def IB_CFG.DISCH : Fld := ⟨0x40060000, 64, 7, 1, .rw, 0, []⟩
def IB_CFG.FCCM : Fld := ⟨0x40060000, 64, 6, 1, .rw, 0, []⟩
def IB_CFG.L_SEL : Fld := ⟨0x40060000, 64, 3, 3, .rw, 1, []⟩
def IB_CFG.PHASE : Fld := ⟨0x40060000, 64, 0, 3, .rw, 0, []⟩
-- IB_n_CTL (+0x04)
def IB_CTL.EN : Fld := ⟨0x40060004, 64, 0, 1, .rw, 0, []⟩
-- IB_n_STATE (+0x08)
def IB_STATE.CFG_REJ : Fld := ⟨0x40060008, 64, 9, 1, .w1c, 0, []⟩
def IB_STATE.ILIM_ACT : Fld := ⟨0x40060008, 64, 8, 1, .ro, 0, []⟩
def IB_STATE.CAUSE : Fld := ⟨0x40060008, 64, 4, 4, .ro, 0, []⟩
def IB_STATE.STATE : Fld := ⟨0x40060008, 64, 0, 3, .ro, 0, []⟩
-- IB_n_VSET (+0x0C)
def IB_VSET.CODE : Fld := ⟨0x4006000C, 64, 0, 12, .rw, 1320, []⟩
-- IB_n_RAMP (+0x10)
def IB_RAMP.SS_TMAX : Fld := ⟨0x40060010, 64, 16, 16, .rw, 10, []⟩
def IB_RAMP.SS_RATE : Fld := ⟨0x40060010, 64, 0, 16, .rw, 500, []⟩
-- IB_n_PI (+0x14)
def IB_PI.KI : Fld := ⟨0x40060014, 64, 16, 16, .rw, 1024, []⟩
def IB_PI.KP : Fld := ⟨0x40060014, 64, 0, 16, .rw, 1024, []⟩
-- IB_n_WIN (+0x18)
def IB_WIN.QUAL : Fld := ⟨0x40060018, 64, 24, 8, .rw, 4, []⟩
def IB_WIN.OV_MV : Fld := ⟨0x40060018, 64, 12, 12, .rw, 100, []⟩
def IB_WIN.UV_MV : Fld := ⟨0x40060018, 64, 0, 12, .rw, 100, []⟩
-- IB_n_ILIM (+0x1C)
def IB_ILIM.OC_QUAL : Fld := ⟨0x4006001C, 64, 24, 8, .rw, 64, []⟩
def IB_ILIM.ILIM : Fld := ⟨0x4006001C, 64, 0, 13, .rw, 3500, [3500, 3500, 3500, 3500, 1750, 1750, 1750, 1750]⟩
-- IB_n_KLIM (+0x20)
def IB_KLIM.ILIM_MAX : Fld := ⟨0x40060020, 64, 16, 16, .ko, 2250, [4500, 4500, 4500, 4500, 2250, 2250, 2250, 2250]⟩
def IB_KLIM.VSET_CEIL : Fld := ⟨0x40060020, 64, 0, 12, .ko, 2200, []⟩
-- IB_n_VOUT (+0x24) and IB_n_ICMD (+0x28)
def IB_VOUT.VALUE : Fld := ⟨0x40060024, 64, 0, 32, .ro, 0, []⟩
-- IB_n_VOUT (+0x24) and IB_n_ICMD (+0x28)
def IB_ICMD.VALUE : Fld := ⟨0x40060028, 64, 0, 32, .ro, 0, []⟩
-- LDO_n_CFG (+0x00)
def LDO_CFG.SS_RATE : Fld := ⟨0x40061000, 32, 8, 16, .rw, 500, []⟩
def LDO_CFG.DISCH : Fld := ⟨0x40061000, 32, 7, 1, .rw, 0, []⟩
-- LDO_n_CTL (+0x04)
def LDO_CTL.CODE : Fld := ⟨0x40061004, 32, 8, 8, .rw, 100, []⟩
def LDO_CTL.EN : Fld := ⟨0x40061004, 32, 0, 1, .rw, 0, []⟩
-- LDO_n_STATE (+0x08)
def LDO_STATE.CFG_REJ : Fld := ⟨0x40061008, 32, 8, 1, .w1c, 0, []⟩
def LDO_STATE.CAUSE : Fld := ⟨0x40061008, 32, 4, 4, .ro, 0, []⟩
def LDO_STATE.STATE : Fld := ⟨0x40061008, 32, 0, 3, .ro, 0, []⟩
-- LDO_n_KLIM (+0x0C)
def LDO_KLIM.CODE_CEIL : Fld := ⟨0x4006100C, 32, 0, 8, .ko, 168, []⟩
-- IREG_PG (0x4006_2000)
def IREG_PG.LDO_PG : Fld := ⟨0x40062000, 0, 8, 6, .ro, 0, []⟩
def IREG_PG.IB_PG : Fld := ⟨0x40062000, 0, 0, 8, .ro, 0, []⟩

/-! Registers of spec/06_control_engines.md -/

-- ENG_LOOP_n_CFG (+0x00)
def ENG_LOOP_CFG.LIVE_TUNE : Fld := ⟨0x40070000, 256, 31, 1, .ro, 0, []⟩
def ENG_LOOP_CFG.ENGINE : Fld := ⟨0x40070000, 256, 8, 3, .ro, 0, []⟩
def ENG_LOOP_CFG.SLOT : Fld := ⟨0x40070000, 256, 0, 6, .ro, 0, []⟩
-- ENG_LOOP_n_CTL (+0x04)
def ENG_LOOP_CTL.OPEN_REQ : Fld := ⟨0x40070004, 256, 0, 1, .rw, 0, []⟩
-- ENG_LOOP_n_STAT (+0x08)
def ENG_LOOP_STAT.OPEN_TICKS : Fld := ⟨0x40070008, 256, 16, 16, .ro, 0, []⟩
def ENG_LOOP_STAT.POISON : Fld := ⟨0x40070008, 256, 8, 8, .ro, 0, []⟩
def ENG_LOOP_STAT.COEF_PEND : Fld := ⟨0x40070008, 256, 7, 1, .ro, 0, []⟩
def ENG_LOOP_STAT.GUARD : Fld := ⟨0x40070008, 256, 6, 1, .ro, 0, []⟩
def ENG_LOOP_STAT.OPEN_SRC : Fld := ⟨0x40070008, 256, 4, 2, .ro, 0, []⟩
-- ENG_LOOP_n_CNT (+0x0C)
def ENG_LOOP_CNT.GUARD_COUNT : Fld := ⟨0x4007000C, 256, 16, 16, .rc, 0, []⟩
def ENG_LOOP_CNT.COEF_WRITES : Fld := ⟨0x4007000C, 256, 0, 16, .rc, 0, []⟩
-- ENG_LOOP_n_B0 to ENG_LOOP_n_B3 (+0x10, +0x14, +0x18, +0x1C)
def ENG_LOOP_B.COEF (k : Nat) : Fld := ⟨0x40070010 + 4 * k, 256, 0, 32, .rw, 0, []⟩
-- ENG_LOOP_n_A1 to ENG_LOOP_n_A3 (+0x20, +0x24, +0x28)
def ENG_LOOP_A.COEF (k : Nat) : Fld := ⟨0x40070020 + 4 * k, 256, 0, 32, .rw, 0, []⟩
-- ENG_LOOP_n_DCLAMP (+0x2C)
def ENG_LOOP_DCLAMP.DMAX : Fld := ⟨0x4007002C, 256, 16, 16, .rw, 0, []⟩
def ENG_LOOP_DCLAMP.DMIN : Fld := ⟨0x4007002C, 256, 0, 16, .rw, 0, []⟩
-- ENG_LOOP_n_VIN (+0x30)
def ENG_LOOP_VIN.VIN_REF : Fld := ⟨0x40070030, 256, 0, 16, .rw, 13500, []⟩
-- ENG_LOOP_n_S1_LO to ENG_LOOP_n_S3_HI (+0x40 to +0x54)
def ENG_LOOP_S_LO.STATE (k : Nat) : Fld := ⟨0x40070040 + 8 * k, 256, 0, 32, .ro, 0, []⟩
-- ENG_LOOP_n_S1_LO to ENG_LOOP_n_S3_HI (+0x40 to +0x54)
def ENG_LOOP_S_HI.STATE (k : Nat) : Fld := ⟨0x40070044 + 8 * k, 256, 0, 8, .ro, 0, []⟩
-- ENG_LOOP_n_ERR (+0x58) and ENG_LOOP_n_DUTY (+0x5C)
def ENG_LOOP_ERR.E : Fld := ⟨0x40070058, 256, 0, 16, .ro, 0, []⟩
-- ENG_LOOP_n_ERR (+0x58) and ENG_LOOP_n_DUTY (+0x5C)
def ENG_LOOP_DUTY.D : Fld := ⟨0x4007005C, 256, 0, 24, .ro, 0, []⟩
-- ENG_LOOP_n_PVEL (+0x60) and ENG_LOOP_n_PACC (+0x64)
def ENG_LOOP_PVEL.VALUE : Fld := ⟨0x40070060, 256, 0, 32, .ro, 0, []⟩
-- ENG_LOOP_n_PVEL (+0x60) and ENG_LOOP_n_PACC (+0x64)
def ENG_LOOP_PACC.VALUE : Fld := ⟨0x40070064, 256, 0, 32, .ro, 0, []⟩
-- ENG_LIVE_MAP (0x4007_1000)
def ENG_LIVE_MAP.MAP : Fld := ⟨0x40071000, 0, 0, 8, .ro, 0, []⟩
-- ENG_SHADOW (0x4007_1004)
def ENG_SHADOW.PASSES : Fld := ⟨0x40071004, 0, 16, 16, .rc, 0, []⟩
def ENG_SHADOW.MISMATCHES : Fld := ⟨0x40071004, 0, 8, 8, .ro, 0, []⟩
def ENG_SHADOW.LAST_ENG : Fld := ⟨0x40071004, 0, 0, 3, .ro, 7, []⟩
-- ENG_SHADOW_TICK_LO (0x4007_1008) and ENG_SHADOW_TICK_HI (0x4007_100C)
def ENG_SHADOW_TICK_LO.TICK : Fld := ⟨0x40071008, 0, 0, 32, .ro, 0, []⟩
-- ENG_SHADOW_TICK_LO (0x4007_1008) and ENG_SHADOW_TICK_HI (0x4007_100C)
def ENG_SHADOW_TICK_HI.TICK : Fld := ⟨0x4007100C, 0, 0, 32, .ro, 0, []⟩
-- ENG_OFFLINE (0x4007_1010)
def ENG_OFFLINE.RESULT : Fld := ⟨0x40071010, 0, 4, 2, .ro, 0, []⟩
def ENG_OFFLINE.ENGINE : Fld := ⟨0x40071010, 0, 0, 3, .ro, 7, []⟩

/-! Registers of spec/07_measurement.md -/

-- ADC_CFG (0x4009_0000)
def ADC_CFG.SHD_TOL : Fld := ⟨0x40090000, 0, 16, 16, .rw, 24, []⟩
def ADC_CFG.CHK_TOL : Fld := ⟨0x40090000, 0, 4, 12, .rw, 24, []⟩
def ADC_CFG.CHK_LEN : Fld := ⟨0x40090000, 0, 0, 4, .rw, 7, []⟩
-- ADC_STATUS (0x4009_0004)
def ADC_STATUS.LP : Fld := ⟨0x40090004, 0, 31, 1, .ro, 1, []⟩
def ADC_STATUS.SUBST : Fld := ⟨0x40090004, 0, 29, 2, .ro, 0, []⟩
def ADC_STATUS.SHADOW : Fld := ⟨0x40090004, 0, 27, 2, .ro, 0, []⟩
def ADC_STATUS.DISPUTE : Fld := ⟨0x40090004, 0, 26, 1, .ro, 0, []⟩
def ADC_STATUS.REF_ACT : Fld := ⟨0x40090004, 0, 24, 2, .ro, 0, []⟩
def ADC_STATUS.REF_IDLE : Fld := ⟨0x40090004, 0, 22, 2, .ro, 1, []⟩
def ADC_STATUS.REF_SPARE_USED : Fld := ⟨0x40090004, 0, 21, 1, .ro, 0, []⟩
def ADC_STATUS.DISP_CH : Fld := ⟨0x40090004, 0, 0, 10, .ro, 1023, []⟩
-- ADC_COUNTS (0x4009_0008)
def ADC_COUNTS.CHK_TRANSIENT : Fld := ⟨0x40090008, 0, 16, 16, .rc, 0, []⟩
def ADC_COUNTS.SHD_TRANSIENT : Fld := ⟨0x40090008, 0, 0, 16, .rc, 0, []⟩
-- ADC_DISP_TICK_LO (0x4009_000C) and ADC_DISP_TICK_HI (0x4009_0010)
def ADC_DISP_TICK_LO.TICK : Fld := ⟨0x4009000C, 0, 0, 32, .ro, 0, []⟩
-- ADC_DISP_TICK_LO (0x4009_000C) and ADC_DISP_TICK_HI (0x4009_0010)
def ADC_DISP_TICK_HI.TICK : Fld := ⟨0x40090010, 0, 0, 32, .ro, 0, []⟩
-- ADC_CAL_A (0x4009_0020), ADC_CAL_B (0x4009_0024), ADC_CAL_S (0x4009_0028)
def ADC_CAL.GAIN : Fld := ⟨0x40090020, 4, 16, 16, .ro, 32768, []⟩
def ADC_CAL.OFFSET : Fld := ⟨0x40090020, 4, 0, 16, .ro, 0, []⟩
-- ADC_REF_DIFF (0x4009_002C)
def ADC_REF_DIFF.SPARE : Fld := ⟨0x4009002C, 0, 16, 16, .ro, 0, []⟩
def ADC_REF_DIFF.IDLE : Fld := ⟨0x4009002C, 0, 0, 16, .ro, 0, []⟩
-- ADC_SLOT_A_k (0x4009_0100 + k × 4) and ADC_SLOT_B_k (0x4009_0200 + k × 4), k = 0 to 47
def ADC_SLOT_A.CLAIM : Fld := ⟨0x40090100, 4, 31, 1, .ro, 0, []⟩
def ADC_SLOT_A.MODE : Fld := ⟨0x40090100, 4, 28, 3, .rw, 6, []⟩
def ADC_SLOT_A.CH2 : Fld := ⟨0x40090100, 4, 16, 10, .rw, 1023, []⟩
def ADC_SLOT_A.CH : Fld := ⟨0x40090100, 4, 0, 10, .rw, 1023, []⟩
-- ADC_SLOT_A_k (0x4009_0100 + k × 4) and ADC_SLOT_B_k (0x4009_0200 + k × 4), k = 0 to 47
def ADC_SLOT_B.CLAIM : Fld := ⟨0x40090200, 4, 31, 1, .ro, 0, []⟩
def ADC_SLOT_B.MODE : Fld := ⟨0x40090200, 4, 28, 3, .rw, 6, []⟩
def ADC_SLOT_B.CH2 : Fld := ⟨0x40090200, 4, 16, 10, .rw, 1023, []⟩
def ADC_SLOT_B.CH : Fld := ⟨0x40090200, 4, 0, 10, .rw, 1023, []⟩
-- ADC_HK_k (0x4009_0400 + k × 4) and ADC_HK_RES_k (0x4009_0800 + k × 4), k = 0 to 255
def ADC_HK.CH : Fld := ⟨0x40090400, 4, 0, 10, .rw, 1023, []⟩
-- ADC_HK_k (0x4009_0400 + k × 4) and ADC_HK_RES_k (0x4009_0800 + k × 4), k = 0 to 255
def ADC_HK_RES.VALID : Fld := ⟨0x40090800, 4, 31, 1, .ro, 0, []⟩
def ADC_HK_RES.VALUE : Fld := ⟨0x40090800, 4, 0, 16, .ro, 0, []⟩
-- ADC_CHK_k (0x4009_0C00 + k × 4), k = 0 to 15
def ADC_CHK.CH : Fld := ⟨0x40090C00, 4, 0, 10, .rw, 112, []⟩
-- ADC_BSHUNT_nn (0x4009_1000 + nn × 4), ADC_FSHUNT_n (0x4009_1080 + n × 4), ADC_PSHUNT (0x4009_1088), ADC_CSHUNT (0x4009_108C)
def ADC_BSHUNT.SHUNT : Fld := ⟨0x40091000, 4, 0, 32, .rw, 1000, []⟩
-- ADC_BSHUNT_nn (0x4009_1000 + nn × 4), ADC_FSHUNT_n (0x4009_1080 + n × 4), ADC_PSHUNT (0x4009_1088), ADC_CSHUNT (0x4009_108C)
def ADC_FSHUNT.SHUNT : Fld := ⟨0x40091080, 4, 0, 32, .rw, 1000, []⟩
-- ADC_BSHUNT_nn (0x4009_1000 + nn × 4), ADC_FSHUNT_n (0x4009_1080 + n × 4), ADC_PSHUNT (0x4009_1088), ADC_CSHUNT (0x4009_108C)
def ADC_PSHUNT.SHUNT : Fld := ⟨0x40091088, 0, 0, 32, .rw, 1000, []⟩
-- ADC_BSHUNT_nn (0x4009_1000 + nn × 4), ADC_FSHUNT_n (0x4009_1080 + n × 4), ADC_PSHUNT (0x4009_1088), ADC_CSHUNT (0x4009_108C)
def ADC_CSHUNT.SHUNT : Fld := ⟨0x4009108C, 0, 0, 32, .rw, 1000, []⟩
-- ACC_a_CFG (0x400A_0000 + a × 0x20), a = 0 to 127
def ACC_CFG.CLAIM : Fld := ⟨0x400A0000, 32, 31, 1, .ro, 0, []⟩
def ACC_CFG.EN : Fld := ⟨0x400A0000, 32, 30, 1, .rw, 0, []⟩
def ACC_CFG.WIN : Fld := ⟨0x400A0000, 32, 16, 8, .rw, 0, []⟩
def ACC_CFG.CH : Fld := ⟨0x400A0000, 32, 0, 10, .rw, 1023, []⟩
-- ACC_a_CNT (+0x04), ACC_a_SUM_LO/HI (+0x08/+0x0C), ACC_a_SUMSQ_LO/HI (+0x10/+0x14)
def ACC_CNT.VALUE : Fld := ⟨0x400A0004, 32, 0, 32, .ro, 0, []⟩
-- ACC_a_CNT (+0x04), ACC_a_SUM_LO/HI (+0x08/+0x0C), ACC_a_SUMSQ_LO/HI (+0x10/+0x14)
def ACC_SUM_LO.VALUE : Fld := ⟨0x400A0008, 32, 0, 32, .ro, 0, []⟩
-- ACC_a_CNT (+0x04), ACC_a_SUM_LO/HI (+0x08/+0x0C), ACC_a_SUMSQ_LO/HI (+0x10/+0x14)
def ACC_SUM_HI.VALUE : Fld := ⟨0x400A000C, 32, 0, 32, .ro, 0, []⟩
-- ACC_a_CNT (+0x04), ACC_a_SUM_LO/HI (+0x08/+0x0C), ACC_a_SUMSQ_LO/HI (+0x10/+0x14)
def ACC_SUMSQ_LO.VALUE : Fld := ⟨0x400A0010, 32, 0, 32, .ro, 0, []⟩
-- ACC_a_CNT (+0x04), ACC_a_SUM_LO/HI (+0x08/+0x0C), ACC_a_SUMSQ_LO/HI (+0x10/+0x14)
def ACC_SUMSQ_HI.VALUE : Fld := ⟨0x400A0014, 32, 0, 32, .ro, 0, []⟩
-- ACC_a_STAT (+0x18)
def ACC_STAT.SEQ : Fld := ⟨0x400A0018, 32, 24, 8, .ro, 0, []⟩
def ACC_STAT.SAT : Fld := ⟨0x400A0018, 32, 23, 1, .ro, 0, []⟩
def ACC_STAT.PSN_CNT : Fld := ⟨0x400A0018, 32, 0, 16, .ro, 0, []⟩
-- ACC_TRK_t_CFG (0x400A_4000 + t × 0x10), t = 0 to 127
def ACC_TRK_CFG.CLAIM : Fld := ⟨0x400A4000, 16, 31, 1, .ro, 0, []⟩
def ACC_TRK_CFG.EN : Fld := ⟨0x400A4000, 16, 30, 1, .rw, 0, []⟩
def ACC_TRK_CFG.WIN : Fld := ⟨0x400A4000, 16, 16, 8, .rw, 0, []⟩
def ACC_TRK_CFG.CH : Fld := ⟨0x400A4000, 16, 0, 10, .rw, 1023, []⟩
-- ACC_TRK_t_MINMAX (+0x04), ACC_TRK_t_TMIN (+0x08), ACC_TRK_t_TMAX (+0x0C)
def ACC_TRK_MINMAX.MAX : Fld := ⟨0x400A4004, 16, 16, 16, .ro, 32768, []⟩
def ACC_TRK_MINMAX.MIN : Fld := ⟨0x400A4004, 16, 0, 16, .ro, 32767, []⟩
-- ACC_TRK_t_MINMAX (+0x04), ACC_TRK_t_TMIN (+0x08), ACC_TRK_t_TMAX (+0x0C)
def ACC_TRK_TMIN.TICK : Fld := ⟨0x400A4008, 16, 0, 32, .ro, 0, []⟩
-- ACC_TRK_t_MINMAX (+0x04), ACC_TRK_t_TMIN (+0x08), ACC_TRK_t_TMAX (+0x0C)
def ACC_TRK_TMAX.TICK : Fld := ⟨0x400A400C, 16, 0, 32, .ro, 0, []⟩
-- ACC_LATCH_0 to ACC_LATCH_3 (0x400A_8000 to 0x400A_800C), ACC_TLATCH_0 to ACC_TLATCH_3 (0x400A_8010 to 0x400A_801C)
def ACC_LATCH.REQ : Fld := ⟨0x400A8000, 4, 0, 32, .wo, 0, []⟩
-- ACC_LATCH_0 to ACC_LATCH_3 (0x400A_8000 to 0x400A_800C), ACC_TLATCH_0 to ACC_TLATCH_3 (0x400A_8010 to 0x400A_801C)
def ACC_TLATCH.REQ : Fld := ⟨0x400A8010, 4, 0, 32, .wo, 0, []⟩
-- LEGACY_ADC_DATA (direct window 0x40)
def LEGACY_ADC_DATA.TICK16 : Fld := ⟨0x50000040, 0, 16, 16, .ro, 0, []⟩
def LEGACY_ADC_DATA.OVR : Fld := ⟨0x50000040, 0, 15, 1, .rc, 0, []⟩
def LEGACY_ADC_DATA.NEW : Fld := ⟨0x50000040, 0, 14, 1, .rc, 0, []⟩
def LEGACY_ADC_DATA.CODE : Fld := ⟨0x50000040, 0, 0, 14, .ro, 0, []⟩
-- LEGACY_ADC_CTL (direct window 0x44)
def LEGACY_ADC_CTL.EN : Fld := ⟨0x50000044, 0, 31, 1, .rw, 0, []⟩
def LEGACY_ADC_CTL.NOCONV : Fld := ⟨0x50000044, 0, 30, 1, .ro, 0, []⟩
def LEGACY_ADC_CTL.RATE : Fld := ⟨0x50000044, 0, 12, 3, .rw, 0, []⟩
def LEGACY_ADC_CTL.CH : Fld := ⟨0x50000044, 0, 0, 10, .rw, 112, []⟩

/-! Registers of spec/08_comparators_thermal.md -/

-- MON_nn_CFG (+0x00)
def MON_CFG.CLAIM : Fld := ⟨0x400B0000, 16, 31, 1, .ro, 0, []⟩
def MON_CFG.MQUAL : Fld := ⟨0x400B0000, 16, 16, 8, .rw, 4, []⟩
def MON_CFG.BLANK : Fld := ⟨0x400B0000, 16, 8, 4, .rw, 15, []⟩
def MON_CFG.STBY_EN : Fld := ⟨0x400B0000, 16, 4, 1, .rw, 0, []⟩
def MON_CFG.FLT_OV : Fld := ⟨0x400B0000, 16, 3, 1, .rw, 0, []⟩
def MON_CFG.FLT_UV : Fld := ⟨0x400B0000, 16, 2, 1, .rw, 0, []⟩
def MON_CFG.DIV : Fld := ⟨0x400B0000, 16, 0, 2, .rw, 0, []⟩
-- MON_nn_THR (+0x04)
def MON_THR.HI : Fld := ⟨0x400B0004, 16, 16, 10, .rw, 1023, []⟩
def MON_THR.LO : Fld := ⟨0x400B0004, 16, 0, 10, .rw, 0, []⟩
-- MON_nn_STAT (+0x08)
def MON_STAT.DAC_ERR : Fld := ⟨0x400B0008, 16, 8, 1, .ro, 0, []⟩
def MON_STAT.STBY_EXC : Fld := ⟨0x400B0008, 16, 7, 1, .w1c, 0, []⟩
def MON_STAT.RB_SEL : Fld := ⟨0x400B0008, 16, 6, 1, .ro, 0, []⟩
def MON_STAT.HELD : Fld := ⟨0x400B0008, 16, 5, 1, .ro, 0, []⟩
def MON_STAT.CORE : Fld := ⟨0x400B0008, 16, 2, 2, .ro, 0, []⟩
def MON_STAT.STATE : Fld := ⟨0x400B0008, 16, 0, 2, .ro, 0, []⟩
-- BLANK_t_CFG (0x400B_0200 + t × 4)
def BLANK_CFG.CLAIM : Fld := ⟨0x400B0200, 4, 31, 1, .ro, 0, []⟩
def BLANK_CFG.SRC : Fld := ⟨0x400B0200, 4, 16, 2, .rw, 0, []⟩
def BLANK_CFG.SEL : Fld := ⟨0x400B0200, 4, 8, 5, .rw, 0, []⟩
def BLANK_CFG.LEN : Fld := ⟨0x400B0200, 4, 0, 8, .rw, 2, []⟩
-- CMP_CFG (0x400B_0300)
def CMP_CFG.SHADOW_MON : Fld := ⟨0x400B0300, 0, 24, 8, .ro, 255, []⟩
def CMP_CFG.SP1_MON : Fld := ⟨0x400B0300, 0, 16, 8, .ro, 255, []⟩
def CMP_CFG.SP0_MON : Fld := ⟨0x400B0300, 0, 8, 8, .ro, 255, []⟩
def CMP_CFG.DAC_TOL : Fld := ⟨0x400B0300, 0, 0, 8, .rw, 16, []⟩
-- CMP_COUNTS (0x400B_0304) and CMP_GOOD (0x400B_0308)
def CMP_COUNTS.CMP_TRANSIENT : Fld := ⟨0x400B0304, 0, 0, 16, .rc, 0, []⟩
-- CMP_COUNTS (0x400B_0304) and CMP_GOOD (0x400B_0308)
def CMP_GOOD.MAP : Fld := ⟨0x400B0308, 0, 0, 32, .ro, 0, []⟩
-- TS_s_CFG (+0x00)
def TS_CFG.WIN_SR : Fld := ⟨0x400C0000, 32, 24, 8, .rw, 8, []⟩
def TS_CFG.ALLOW : Fld := ⟨0x400C0000, 32, 16, 8, .rw, 50, []⟩
def TS_CFG.BROKEN_QUAL : Fld := ⟨0x400C0000, 32, 12, 4, .rw, 4, []⟩
def TS_CFG.TYPE : Fld := ⟨0x400C0000, 32, 10, 2, .rw, 0, []⟩
-- TS_s_NBR (+0x04)
def TS_NBR.NBR : Fld := ⟨0x400C0004, 32, 0, 12, .rw, 0, []⟩
-- TS_s_RATE (+0x08)
def TS_RATE.RATE : Fld := ⟨0x400C0008, 32, 16, 16, .ro, 0, []⟩
def TS_RATE.RATE_LIM : Fld := ⟨0x400C0008, 32, 0, 16, .rw, 500, []⟩
-- TS_s_NTC (+0x0C) and TS_s_RPU (+0x10)
def TS_NTC.BETA : Fld := ⟨0x400C000C, 32, 16, 16, .rw, 3450, []⟩
def TS_NTC.RNOM : Fld := ⟨0x400C000C, 32, 0, 16, .rw, 100, []⟩
-- TS_s_NTC (+0x0C) and TS_s_RPU (+0x10)
def TS_RPU.NF : Fld := ⟨0x400C0010, 32, 16, 16, .rw, 16287, []⟩
def TS_RPU.RPU : Fld := ⟨0x400C0010, 32, 0, 16, .rw, 100, []⟩
-- TS_s_VAL (+0x14)
def TS_VAL.OWN : Fld := ⟨0x400C0014, 32, 16, 16, .ro, 0, []⟩
def TS_VAL.USED : Fld := ⟨0x400C0014, 32, 0, 16, .ro, 0, []⟩
-- TS_s_STAT (+0x18)
def TS_STAT.TTHR_EXC : Fld := ⟨0x400C0018, 32, 4, 1, .ro, 0, []⟩
def TS_STAT.ABS_EXC : Fld := ⟨0x400C0018, 32, 3, 1, .ro, 0, []⟩
def TS_STAT.RATE_EXC : Fld := ⟨0x400C0018, 32, 2, 1, .ro, 0, []⟩
def TS_STAT.NO_NEIGH : Fld := ⟨0x400C0018, 32, 1, 1, .ro, 0, []⟩
def TS_STAT.BROKEN : Fld := ⟨0x400C0018, 32, 0, 1, .ro, 0, []⟩
-- TS_s_LIM (+0x1C)
def TS_LIM.TABS_MAX : Fld := ⟨0x400C001C, 32, 16, 16, .ko, 15000, []⟩
def TS_LIM.TTHR : Fld := ⟨0x400C001C, 32, 0, 16, .ko, 12000, []⟩
-- THERM_BROKEN (0x400C_0200)
def THERM_BROKEN.SHUTDOWN : Fld := ⟨0x400C0200, 0, 31, 1, .ro, 0, []⟩
def THERM_BROKEN.MAP : Fld := ⟨0x400C0200, 0, 0, 12, .w1c, 0, []⟩
-- THR_k_CFG (0x400C_0300 + k × 0x10)
def THR_CFG.ENF : Fld := ⟨0x400C0300, 16, 31, 1, .rw, 0, []⟩
def THR_CFG.SRC_PACK : Fld := ⟨0x400C0300, 16, 30, 1, .rw, 0, []⟩
def THR_CFG.LOOP : Fld := ⟨0x400C0300, 16, 27, 3, .rw, 0, []⟩
def THR_CFG.SRC_RATE : Fld := ⟨0x400C0300, 16, 12, 12, .rw, 0, []⟩
def THR_CFG.SRC_TTHR : Fld := ⟨0x400C0300, 16, 0, 12, .rw, 0, []⟩
-- THR_k_ENF (+0x04)
def THR_ENF.ENF_ILIM : Fld := ⟨0x400C0304, 16, 16, 16, .rw, 65535, []⟩
def THR_ENF.REL_SR : Fld := ⟨0x400C0304, 16, 8, 8, .rw, 4, []⟩
def THR_ENF.ENF_IDX : Fld := ⟨0x400C0304, 16, 0, 8, .rw, 0, []⟩
-- THR_k_CTL (+0x08)
def THR_CTL.ENFORCED : Fld := ⟨0x400C0308, 16, 22, 1, .ro, 0, []⟩
def THR_CTL.ACTIVE : Fld := ⟨0x400C0308, 16, 21, 1, .ro, 0, []⟩
def THR_CTL.HOST_REQ : Fld := ⟨0x400C0308, 16, 20, 1, .rw, 0, []⟩
def THR_CTL.GRACE : Fld := ⟨0x400C0308, 16, 0, 9, .rw, 10, []⟩

/-! Registers of spec/09_sequencing.md -/

-- SEQ_GRP_g_CFG (+0x00)
def SEQ_GRP_CFG.DOMAIN : Fld := ⟨0x400D0000, 32, 31, 1, .rw, 0, []⟩
def SEQ_GRP_CFG.START_SRC : Fld := ⟨0x400D0000, 32, 29, 2, .rw, 0, []⟩
def SEQ_GRP_CFG.T_OFF_MIN : Fld := ⟨0x400D0000, 32, 16, 11, .rw, 20, []⟩
def SEQ_GRP_CFG.DROP_QUAL : Fld := ⟨0x400D0000, 32, 8, 8, .rw, 4, []⟩
def SEQ_GRP_CFG.FIRST : Fld := ⟨0x400D0000, 32, 0, 6, .rw, 0, []⟩
-- SEQ_GRP_g_STEPS (+0x04)
def SEQ_GRP_STEPS.COUNT : Fld := ⟨0x400D0004, 32, 16, 5, .rw, 0, []⟩
-- SEQ_GRP_g_CTL (+0x08)
def SEQ_GRP_CTL.ALLOFF_REQ : Fld := ⟨0x400D0008, 32, 3, 1, .wo, 0, []⟩
def SEQ_GRP_CTL.ACK : Fld := ⟨0x400D0008, 32, 2, 1, .wo, 0, []⟩
def SEQ_GRP_CTL.STOP : Fld := ⟨0x400D0008, 32, 1, 1, .wo, 0, []⟩
def SEQ_GRP_CTL.START : Fld := ⟨0x400D0008, 32, 0, 1, .wo, 0, []⟩
-- SEQ_GRP_g_STATE (+0x0C)
def SEQ_GRP_STATE.CFG_REJ : Fld := ⟨0x400D000C, 32, 23, 1, .w1c, 0, []⟩
def SEQ_GRP_STATE.OWN_REJ : Fld := ⟨0x400D000C, 32, 22, 1, .w1c, 0, []⟩
def SEQ_GRP_STATE.ACK_REJ : Fld := ⟨0x400D000C, 32, 21, 1, .w1c, 0, []⟩
def SEQ_GRP_STATE.TOK_LATE : Fld := ⟨0x400D000C, 32, 20, 1, .w1c, 0, []⟩
def SEQ_GRP_STATE.START_PEND : Fld := ⟨0x400D000C, 32, 19, 1, .ro, 0, []⟩
def SEQ_GRP_STATE.CAUSE : Fld := ⟨0x400D000C, 32, 12, 4, .ro, 0, []⟩
def SEQ_GRP_STATE.STEP : Fld := ⟨0x400D000C, 32, 8, 4, .ro, 0, []⟩
def SEQ_GRP_STATE.STATE : Fld := ⟨0x400D000C, 32, 0, 3, .ro, 0, []⟩
-- SEQ_GRP_g_FAULT (+0x10)
def SEQ_GRP_FAULT.STOP : Fld := ⟨0x400D0010, 32, 31, 1, .ro, 0, []⟩
def SEQ_GRP_FAULT.OUT : Fld := ⟨0x400D0010, 32, 8, 7, .ro, 127, []⟩
def SEQ_GRP_FAULT.STEP : Fld := ⟨0x400D0010, 32, 0, 4, .ro, 0, []⟩
-- SEQ_GRP_g_TICK_LO (+0x14) and SEQ_GRP_g_TICK_HI (+0x18)
def SEQ_GRP_TICK_LO.TICK : Fld := ⟨0x400D0014, 32, 0, 32, .ro, 0, []⟩
-- SEQ_GRP_g_TICK_LO (+0x14) and SEQ_GRP_g_TICK_HI (+0x18)
def SEQ_GRP_TICK_HI.TICK : Fld := ⟨0x400D0018, 32, 0, 32, .ro, 0, []⟩
-- SEQ_STEP_k_OUT_LO (+0x00) and SEQ_STEP_k_OUT_HI (+0x04)
def SEQ_STEP_OUT_LO.MASK : Fld := ⟨0x400D1000, 32, 0, 32, .rw, 0, []⟩
-- SEQ_STEP_k_OUT_LO (+0x00) and SEQ_STEP_k_OUT_HI (+0x04)
def SEQ_STEP_OUT_HI.MASK : Fld := ⟨0x400D1004, 32, 0, 32, .rw, 0, []⟩
-- SEQ_STEP_k_QUAL (+0x08)
def SEQ_STEP_QUAL.DELAY : Fld := ⟨0x400D1008, 32, 16, 14, .rw, 0, []⟩
def SEQ_STEP_QUAL.QUAL : Fld := ⟨0x400D1008, 32, 0, 14, .rw, 100, []⟩
-- SEQ_STEP_k_TMO (+0x0C)
def SEQ_STEP_TMO.TMO : Fld := ⟨0x400D100C, 32, 0, 21, .rw, 10000, []⟩
-- SEQ_STEP_k_OFF (+0x10)
def SEQ_STEP_OFF.OFF_DLY : Fld := ⟨0x400D1010, 32, 24, 8, .rw, 0, []⟩
def SEQ_STEP_OFF.OFF_TMO : Fld := ⟨0x400D1010, 32, 0, 21, .rw, 10000, []⟩
-- SEQ_STEP_k_TOK (+0x14)
def SEQ_STEP_TOK.WAIT_EN : Fld := ⟨0x400D1014, 32, 31, 1, .rw, 0, []⟩
def SEQ_STEP_TOK.WAIT_ID : Fld := ⟨0x400D1014, 32, 16, 8, .rw, 0, []⟩
def SEQ_STEP_TOK.EMIT_EN : Fld := ⟨0x400D1014, 32, 15, 1, .rw, 0, []⟩
def SEQ_STEP_TOK.EMIT_ID : Fld := ⟨0x400D1014, 32, 0, 8, .rw, 0, []⟩
-- SEQ_OUT_o_CFG (0x400D_2000 + o × 4)
def SEQ_OUT_CFG.POL : Fld := ⟨0x400D2000, 4, 15, 1, .rw, 1, []⟩
def SEQ_OUT_CFG.MON : Fld := ⟨0x400D2000, 4, 8, 5, .rw, 0, []⟩
def SEQ_OUT_CFG.PG_SRC : Fld := ⟨0x400D2000, 4, 6, 2, .rw, 0, []⟩
def SEQ_OUT_CFG.GROUP : Fld := ⟨0x400D2000, 4, 0, 4, .rw, 15, []⟩
-- SEQ_DOMAIN (0x400D_3000)
def SEQ_DOMAIN.ALLOFF_LINE : Fld := ⟨0x400D3000, 0, 31, 1, .ro, 0, []⟩
def SEQ_DOMAIN.FH_DRIVE : Fld := ⟨0x400D3000, 0, 30, 1, .ro, 0, []⟩
def SEQ_DOMAIN.FH_LEVEL : Fld := ⟨0x400D3000, 0, 29, 1, .ro, 1, []⟩
def SEQ_DOMAIN.FH_IN_COUNT : Fld := ⟨0x400D3000, 0, 0, 16, .rc, 0, []⟩
-- SEQ_TIMING (0x400D_3004)
def SEQ_TIMING.TOK_LEAD : Fld := ⟨0x400D3004, 0, 16, 16, .rw, 128, []⟩
def SEQ_TIMING.FH_MIN : Fld := ⟨0x400D3004, 0, 0, 16, .rw, 64, []⟩

/-! Registers of spec/10_keepalive_battery.md -/

-- KEEP_CFG (0x400E_0000)
def KEEP_CFG.KEEP_ON : Fld := ⟨0x400E0000, 0, 24, 8, .rw, 120, []⟩
def KEEP_CFG.KEEP_STBY : Fld := ⟨0x400E0000, 0, 16, 1, .rw, 1, []⟩
def KEEP_CFG.REV_MV : Fld := ⟨0x400E0000, 0, 8, 5, .rw, 5, []⟩
def KEEP_CFG.FWD_MV : Fld := ⟨0x400E0000, 0, 0, 6, .rw, 20, []⟩
-- KEEP_STATUS (+0x004)
def KEEP_STATUS.KSTATE : Fld := ⟨0x400E0004, 0, 30, 2, .ro, 2, []⟩
def KEEP_STATUS.KEEP_COND : Fld := ⟨0x400E0004, 0, 29, 1, .ro, 0, []⟩
def KEEP_STATUS.HO_STATE : Fld := ⟨0x400E0004, 0, 27, 2, .ro, 0, []⟩
def KEEP_STATUS.PACK_PRESENT : Fld := ⟨0x400E0004, 0, 26, 1, .ro, 0, []⟩
def KEEP_STATUS.SD_RUN : Fld := ⟨0x400E0004, 0, 25, 1, .ro, 0, []⟩
def KEEP_STATUS.DWELL_CNT : Fld := ⟨0x400E0004, 0, 0, 21, .ro, 0, []⟩
-- HO_CFG (+0x008) and HO_SD (+0x00C)
def HO_CFG.DWELL_MS : Fld := ⟨0x400E0008, 0, 0, 10, .rw, 5, []⟩
-- HO_CFG (+0x008) and HO_SD (+0x00C)
def HO_SD.SD_GROUPS : Fld := ⟨0x400E000C, 0, 24, 8, .rw, 0, []⟩
def HO_SD.SD_STBY : Fld := ⟨0x400E000C, 0, 16, 1, .rw, 0, []⟩
def HO_SD.SD_TMO : Fld := ⟨0x400E000C, 0, 0, 16, .rw, 0, []⟩
-- HO_COUNT (+0x010), HO_TICK_LO (+0x014), HO_TICK_HI (+0x018)
def HO_COUNT.HANDOVERS : Fld := ⟨0x400E0010, 0, 16, 16, .rc, 0, []⟩
def HO_COUNT.DWELL_RESTARTS : Fld := ⟨0x400E0010, 0, 0, 16, .rc, 0, []⟩
-- HO_COUNT (+0x010), HO_TICK_LO (+0x014), HO_TICK_HI (+0x018)
def HO_TICK_LO.TICK : Fld := ⟨0x400E0014, 0, 0, 32, .ro, 0, []⟩
-- HO_COUNT (+0x010), HO_TICK_LO (+0x014), HO_TICK_HI (+0x018)
def HO_TICK_HI.TICK : Fld := ⟨0x400E0018, 0, 0, 32, .ro, 0, []⟩
-- KBUS_WIN (+0x01C) and SD_REMAIN (+0x020)
def KBUS_WIN.QUAL : Fld := ⟨0x400E001C, 0, 24, 8, .rw, 16, []⟩
def KBUS_WIN.KBUS_UV : Fld := ⟨0x400E001C, 0, 0, 12, .rw, 80, []⟩
-- KBUS_WIN (+0x01C) and SD_REMAIN (+0x020)
def SD_REMAIN.MS : Fld := ⟨0x400E0020, 0, 0, 32, .ro, 0, []⟩
-- CHG_CFG (+0x040), CHG_CTL (+0x044), CHG_SET (+0x048)
def CHG_CFG.CFG_REJ : Fld := ⟨0x400E0040, 0, 31, 1, .w1c, 0, []⟩
def CHG_CFG.L_SEL : Fld := ⟨0x400E0040, 0, 0, 2, .rw, 1, []⟩
-- CHG_CFG (+0x040), CHG_CTL (+0x044), CHG_SET (+0x048)
def CHG_CTL.SUSPEND : Fld := ⟨0x400E0044, 0, 1, 1, .rw, 0, []⟩
def CHG_CTL.EN : Fld := ⟨0x400E0044, 0, 0, 1, .rw, 0, []⟩
-- CHG_CFG (+0x040), CHG_CTL (+0x044), CHG_SET (+0x048)
def CHG_SET.VCELL_REG : Fld := ⟨0x400E0048, 0, 16, 16, .rw, 4100, []⟩
def CHG_SET.ICHG : Fld := ⟨0x400E0048, 0, 0, 13, .rw, 1000, []⟩
-- CHG_PROF_V (+0x04C) and CHG_PROF_AJ (+0x050)
def CHG_PROF_V.VMAX : Fld := ⟨0x400E004C, 0, 0, 16, .rw, 10, []⟩
-- CHG_PROF_V (+0x04C) and CHG_PROF_AJ (+0x050)
def CHG_PROF_AJ.JMAX : Fld := ⟨0x400E0050, 0, 16, 16, .rw, 1000, []⟩
def CHG_PROF_AJ.AMAX : Fld := ⟨0x400E0050, 0, 0, 16, .rw, 100, []⟩
-- CHG_SESSION (+0x058) and CHG_STATE (+0x05C)
def CHG_SESSION.SESSION_H : Fld := ⟨0x400E0058, 0, 24, 8, .rw, 8, []⟩
def CHG_SESSION.ELAPSED : Fld := ⟨0x400E0058, 0, 0, 24, .ro, 0, []⟩
-- CHG_SESSION (+0x058) and CHG_STATE (+0x05C)
def CHG_STATE.CAUSE : Fld := ⟨0x400E005C, 0, 4, 4, .ro, 0, []⟩
def CHG_STATE.STATE : Fld := ⟨0x400E005C, 0, 0, 3, .ro, 0, []⟩
-- CHG_FAULT_FLAGS (+0x060)
def CHG_FAULT_FLAGS.FLAGS : Fld := ⟨0x400E0060, 0, 0, 7, .rc, 0, []⟩
-- CHG_LIM (+0x064) and CHG_TLIM (+0x068)
def CHG_LIM.VCELL_MAX : Fld := ⟨0x400E0064, 0, 16, 16, .ko, 4250, []⟩
def CHG_LIM.ICHG_MAX : Fld := ⟨0x400E0064, 0, 0, 13, .ko, 4000, []⟩
-- CHG_LIM (+0x064) and CHG_TLIM (+0x068)
def CHG_TLIM.TCHG_HI : Fld := ⟨0x400E0068, 0, 16, 16, .ko, 450, []⟩
def CHG_TLIM.TCHG_LO : Fld := ⟨0x400E0068, 0, 0, 16, .ko, 0, []⟩
-- CHG_MEAS (+0x06C)
def CHG_MEAS.VBAT : Fld := ⟨0x400E006C, 0, 16, 16, .ro, 0, []⟩
def CHG_MEAS.IBAT : Fld := ⟨0x400E006C, 0, 0, 16, .ro, 0, []⟩
-- PACK_CFG (+0x080) and PACK_NTC (+0x084)
def PACK_CFG.AUTH_REQ : Fld := ⟨0x400E0080, 0, 31, 1, .ko, 1, []⟩
def PACK_CFG.AUTH_ADDR : Fld := ⟨0x400E0080, 0, 24, 7, .rw, 92, []⟩
def PACK_CFG.PD_QUAL : Fld := ⟨0x400E0080, 0, 16, 8, .rw, 100, []⟩
def PACK_CFG.CELLS : Fld := ⟨0x400E0080, 0, 15, 1, .rw, 1, []⟩
def PACK_CFG.JUMP_MV : Fld := ⟨0x400E0080, 0, 0, 11, .rw, 300, []⟩
-- PACK_CFG (+0x080) and PACK_NTC (+0x084)
def PACK_NTC.BETA : Fld := ⟨0x400E0084, 0, 16, 16, .rw, 3450, []⟩
def PACK_NTC.RNOM : Fld := ⟨0x400E0084, 0, 0, 16, .rw, 100, []⟩
-- PACK_AUTH_STAT (+0x088), PACK_ID (+0x08C), AUTH_TIME (+0x090)
def PACK_AUTH_STAT.AUTH : Fld := ⟨0x400E0088, 0, 30, 2, .ro, 0, []⟩
def PACK_AUTH_STAT.KEY : Fld := ⟨0x400E0088, 0, 28, 2, .ro, 0, []⟩
def PACK_AUTH_STAT.ATTEMPTS : Fld := ⟨0x400E0088, 0, 26, 2, .ro, 0, []⟩
def PACK_AUTH_STAT.PACK_SWAP : Fld := ⟨0x400E0088, 0, 25, 1, .w1c, 0, []⟩
def PACK_AUTH_STAT.FAIL_CODE : Fld := ⟨0x400E0088, 0, 8, 8, .ro, 0, []⟩
-- PACK_AUTH_STAT (+0x088), PACK_ID (+0x08C), AUTH_TIME (+0x090)
def PACK_ID.PACK_ID : Fld := ⟨0x400E008C, 0, 0, 32, .ro, 0, []⟩
-- PACK_AUTH_STAT (+0x088), PACK_ID (+0x08C), AUTH_TIME (+0x090)
def AUTH_TIME.AUTH_TMO : Fld := ⟨0x400E0090, 0, 16, 16, .rw, 500, []⟩
def AUTH_TIME.AUTH_WAIT : Fld := ⟨0x400E0090, 0, 0, 16, .rw, 60, []⟩
-- GAUGE_CFG (0x400F_0000), GAUGE_REST (+0x004), GAUGE_END (+0x008), GAUGE_TAPER (+0x00C)
def GAUGE_CFG.DESIGN_CAP : Fld := ⟨0x400F0000, 0, 16, 16, .rw, 2000, []⟩
def GAUGE_CFG.OCV_UNC : Fld := ⟨0x400F0000, 0, 8, 8, .rw, 20, []⟩
def GAUGE_CFG.IWAKE : Fld := ⟨0x400F0000, 0, 0, 8, .rw, 5, []⟩
-- GAUGE_CFG (0x400F_0000), GAUGE_REST (+0x004), GAUGE_END (+0x008), GAUGE_TAPER (+0x00C)
def GAUGE_REST.REST_I : Fld := ⟨0x400F0004, 0, 16, 16, .rw, 200, []⟩
def GAUGE_REST.T_REST : Fld := ⟨0x400F0004, 0, 8, 8, .rw, 15, []⟩
-- GAUGE_CFG (0x400F_0000), GAUGE_REST (+0x004), GAUGE_END (+0x008), GAUGE_TAPER (+0x00C)
def GAUGE_END.VEOC : Fld := ⟨0x400F0008, 0, 16, 16, .rw, 4080, []⟩
def GAUGE_END.VEOD : Fld := ⟨0x400F0008, 0, 0, 16, .rw, 3000, []⟩
-- GAUGE_CFG (0x400F_0000), GAUGE_REST (+0x004), GAUGE_END (+0x008), GAUGE_TAPER (+0x00C)
def GAUGE_TAPER.I_TAPER : Fld := ⟨0x400F000C, 0, 0, 16, .rw, 200, []⟩
-- GAUGE_OCV_0 to GAUGE_OCV_10 (+0x010 to +0x038), GAUGE_OCV_TC (+0x03C)
def GAUGE_OCV.MV : Fld := ⟨0x400F0010, 4, 0, 16, .rw, 0, []⟩
-- GAUGE_OCV_0 to GAUGE_OCV_10 (+0x010 to +0x038), GAUGE_OCV_TC (+0x03C)
def GAUGE_OCV_TC.TC : Fld := ⟨0x400F003C, 0, 0, 16, .rw, 0, []⟩
-- GAUGE_RINT_0 to GAUGE_RINT_4 (+0x040 to +0x050), GAUGE_RT (+0x054)
def GAUGE_RINT.R : Fld := ⟨0x400F0040, 4, 0, 16, .rw, 100, []⟩
-- GAUGE_RINT_0 to GAUGE_RINT_4 (+0x040 to +0x050), GAUGE_RT (+0x054)
def GAUGE_RT.RT_COEF : Fld := ⟨0x400F0054, 0, 0, 16, .rw, 15, []⟩
-- GAUGE_Q_LO/HI (+0x060/+0x064), GAUGE_FCC_LO/HI (+0x068/+0x06C)
def GAUGE_Q_LO.VALUE : Fld := ⟨0x400F0060, 0, 0, 32, .ro, 0, []⟩
-- GAUGE_Q_LO/HI (+0x060/+0x064), GAUGE_FCC_LO/HI (+0x068/+0x06C)
def GAUGE_Q_HI.VALUE : Fld := ⟨0x400F0064, 0, 0, 32, .ro, 0, []⟩
-- GAUGE_Q_LO/HI (+0x060/+0x064), GAUGE_FCC_LO/HI (+0x068/+0x06C)
def GAUGE_FCC_LO.VALUE : Fld := ⟨0x400F0068, 0, 0, 32, .ro, 0, []⟩
-- GAUGE_Q_LO/HI (+0x060/+0x064), GAUGE_FCC_LO/HI (+0x068/+0x06C)
def GAUGE_FCC_HI.VALUE : Fld := ⟨0x400F006C, 0, 0, 32, .ro, 0, []⟩
-- GAUGE_SOC (+0x070), GAUGE_UNC (+0x074), GAUGE_REST_AGE (+0x080)
def GAUGE_SOC.SOH : Fld := ⟨0x400F0070, 0, 16, 16, .ro, 10000, []⟩
def GAUGE_SOC.SOC : Fld := ⟨0x400F0070, 0, 0, 16, .ro, 0, []⟩
-- GAUGE_SOC (+0x070), GAUGE_UNC (+0x074), GAUGE_REST_AGE (+0x080)
def GAUGE_UNC.CYCLES : Fld := ⟨0x400F0074, 0, 16, 16, .ro, 0, []⟩
def GAUGE_UNC.UNC : Fld := ⟨0x400F0074, 0, 0, 16, .ro, 0, []⟩
-- GAUGE_SOC (+0x070), GAUGE_UNC (+0x074), GAUGE_REST_AGE (+0x080)
def GAUGE_REST_AGE.S : Fld := ⟨0x400F0080, 0, 0, 32, .ro, 0, []⟩
-- GAUGE_FLAGS (+0x078)
def GAUGE_FLAGS.IRANGE : Fld := ⟨0x400F0078, 0, 8, 1, .w1c, 0, []⟩
def GAUGE_FLAGS.NOREST : Fld := ⟨0x400F0078, 0, 7, 1, .w1c, 0, []⟩
def GAUGE_FLAGS.INVALID : Fld := ⟨0x400F0078, 0, 6, 1, .ro, 0, []⟩
def GAUGE_FLAGS.REST : Fld := ⟨0x400F0078, 0, 5, 1, .ro, 0, []⟩
def GAUGE_FLAGS.EOD : Fld := ⟨0x400F0078, 0, 4, 1, .ro, 0, []⟩
def GAUGE_FLAGS.EOC : Fld := ⟨0x400F0078, 0, 3, 1, .ro, 0, []⟩
def GAUGE_FLAGS.UNCERTAIN : Fld := ⟨0x400F0078, 0, 2, 1, .ro, 0, []⟩
def GAUGE_FLAGS.RESTORED : Fld := ⟨0x400F0078, 0, 1, 1, .ro, 0, []⟩
def GAUGE_FLAGS.UNLEARNED : Fld := ⟨0x400F0078, 0, 0, 1, .ro, 1, []⟩
-- GAUGE_LEARN (+0x07C)
def GAUGE_LEARN.LSTATE : Fld := ⟨0x400F007C, 0, 30, 2, .ro, 0, []⟩
def GAUGE_LEARN.INTR : Fld := ⟨0x400F007C, 0, 28, 2, .ro, 0, []⟩
def GAUGE_LEARN.LAST_RESULT : Fld := ⟨0x400F007C, 0, 24, 4, .ro, 0, []⟩
def GAUGE_LEARN.MINUTES : Fld := ⟨0x400F007C, 0, 0, 12, .ro, 0, []⟩
-- GAUGE_STAGE_0 to GAUGE_STAGE_15 (+0x100 to +0x13C), GAUGE_COMMIT (+0x140), GAUGE_RST (+0x144), GAUGE_SAVE_0 to GAUGE_SAVE_15 (+0x180 to +0x1BC)
def GAUGE_STAGE.WORD : Fld := ⟨0x400F0100, 4, 0, 32, .rw, 0, []⟩
-- GAUGE_STAGE_0 to GAUGE_STAGE_15 (+0x100 to +0x13C), GAUGE_COMMIT (+0x140), GAUGE_RST (+0x144), GAUGE_SAVE_0 to GAUGE_SAVE_15 (+0x180 to +0x1BC)
def GAUGE_COMMIT.CRC : Fld := ⟨0x400F0140, 0, 0, 32, .wo, 0, []⟩
-- GAUGE_STAGE_0 to GAUGE_STAGE_15 (+0x100 to +0x13C), GAUGE_COMMIT (+0x140), GAUGE_RST (+0x144), GAUGE_SAVE_0 to GAUGE_SAVE_15 (+0x180 to +0x1BC)
def GAUGE_RST.RST_ERR : Fld := ⟨0x400F0144, 0, 0, 4, .ro, 0, []⟩
-- GAUGE_STAGE_0 to GAUGE_STAGE_15 (+0x100 to +0x13C), GAUGE_COMMIT (+0x140), GAUGE_RST (+0x144), GAUGE_SAVE_0 to GAUGE_SAVE_15 (+0x180 to +0x1BC)
def GAUGE_SAVE.WORD : Fld := ⟨0x400F0180, 4, 0, 32, .ro, 0, []⟩

/-! Registers of spec/11_bivouac.md -/

-- BIV_RTC_EPOCH (0x4010_0020)
def BIV_RTC_EPOCH.SECONDS : Fld := ⟨0x40100020, 0, 0, 32, .ro, 0, []⟩
-- BIV_TRIM (0x4010_0024)
def BIV_TRIM.TRIM : Fld := ⟨0x40100024, 0, 0, 11, .rw, 0, []⟩
-- BIV_MEAS (0x4010_0028)
def BIV_MEAS.MEAS_START : Fld := ⟨0x40100028, 0, 31, 1, .wo, 0, []⟩
def BIV_MEAS.MEAS_DONE : Fld := ⟨0x40100028, 0, 30, 1, .w1c, 0, []⟩
def BIV_MEAS.MEAS_ERR : Fld := ⟨0x40100028, 0, 29, 1, .w1c, 0, []⟩
def BIV_MEAS.TICKS : Fld := ⟨0x40100028, 0, 0, 22, .ro, 0, []⟩
-- BIV_ALARM (0x4010_002C) and BIV_ALARM_CTL (0x4010_0030)
def BIV_ALARM.ALARM : Fld := ⟨0x4010002C, 0, 0, 32, .rw, 0, []⟩
-- BIV_ALARM (0x4010_002C) and BIV_ALARM_CTL (0x4010_0030)
def BIV_ALARM_CTL.ALARM_PAST : Fld := ⟨0x40100030, 0, 2, 1, .w1c, 0, []⟩
def BIV_ALARM_CTL.ALARM_FLAG : Fld := ⟨0x40100030, 0, 1, 1, .w1c, 0, []⟩
def BIV_ALARM_CTL.ALARM_EN : Fld := ⟨0x40100030, 0, 0, 1, .rw, 0, []⟩
-- BIV_WAKE_CFG (0x4010_0034)
def BIV_WAKE_CFG.WO_CURRENT : Fld := ⟨0x40100034, 0, 10, 1, .rw, 0, []⟩
def BIV_WAKE_CFG.WO_ALARM : Fld := ⟨0x40100034, 0, 9, 1, .rw, 0, []⟩
def BIV_WAKE_CFG.WO_WAKEIN : Fld := ⟨0x40100034, 0, 8, 1, .rw, 0, []⟩
def BIV_WAKE_CFG.WAKE_EN : Fld := ⟨0x40100034, 0, 0, 4, .rw, 0, []⟩
-- BIV_WAKE_CAUSE (0x4010_0038)
def BIV_WAKE_CAUSE.CAUSE : Fld := ⟨0x40100038, 0, 0, 4, .w1c, 0, []⟩
-- BIV_WAKEOUT (0x4010_003C)
def BIV_WAKEOUT.PIN : Fld := ⟨0x4010003C, 0, 3, 1, .ro, 0, []⟩
def BIV_WAKEOUT.WAKE_IN : Fld := ⟨0x4010003C, 0, 2, 1, .ro, 0, []⟩
def BIV_WAKEOUT.WO_LATCH : Fld := ⟨0x4010003C, 0, 1, 1, .w1c, 0, []⟩
def BIV_WAKEOUT.WO_HOLD : Fld := ⟨0x4010003C, 0, 0, 1, .rw, 0, []⟩
-- BIV_SWITCH_STAMP (0x4010_0040) and BIV_SWITCH_CTL (0x4010_0044)
def BIV_SWITCH_STAMP.SECONDS : Fld := ⟨0x40100040, 0, 0, 32, .ro, 0, []⟩
-- BIV_SWITCH_STAMP (0x4010_0040) and BIV_SWITCH_CTL (0x4010_0044)
def BIV_SWITCH_CTL.SW_CLR : Fld := ⟨0x40100044, 0, 1, 1, .wo, 0, []⟩
def BIV_SWITCH_CTL.SW_VALID : Fld := ⟨0x40100044, 0, 0, 1, .ro, 0, []⟩
-- BIV_LAST_SD (0x4010_0048) and BIV_STBY_CTL (0x4010_004C)
def BIV_LAST_SD.SD_VALID : Fld := ⟨0x40100048, 0, 31, 1, .ro, 0, []⟩
def BIV_LAST_SD.DEV_STATE : Fld := ⟨0x40100048, 0, 16, 8, .ro, 0, []⟩
def BIV_LAST_SD.FAULT_SRC : Fld := ⟨0x40100048, 0, 8, 8, .ro, 255, []⟩
def BIV_LAST_SD.REASON : Fld := ⟨0x40100048, 0, 0, 8, .ro, 0, []⟩
-- BIV_LAST_SD (0x4010_0048) and BIV_STBY_CTL (0x4010_004C)
def BIV_STBY_CTL.STBY_REJ : Fld := ⟨0x4010004C, 0, 2, 1, .w1c, 0, []⟩
def BIV_STBY_CTL.OFF_REQ : Fld := ⟨0x4010004C, 0, 1, 1, .wo, 0, []⟩
def BIV_STBY_CTL.STBY_REQ : Fld := ⟨0x4010004C, 0, 0, 1, .wo, 0, []⟩

/-! Registers of spec/12_faults_watchdog.md -/

-- FAULT_STATUS_LO (direct window 0x08; 0x4011_0000) and FAULT_STATUS_HI (direct window 0x0C; 0x4011_0004)
def FAULT_STATUS_LO.SRC : Fld := ⟨0x40110000, 0, 0, 32, .w1c, 0, []⟩
-- FAULT_STATUS_LO (direct window 0x08; 0x4011_0000) and FAULT_STATUS_HI (direct window 0x0C; 0x4011_0004)
def FAULT_STATUS_HI.SRC : Fld := ⟨0x40110004, 0, 0, 16, .w1c, 0, []⟩
-- FIRST_FAULT (direct window 0x10; 0x4011_0008)
def FIRST_FAULT.VALID : Fld := ⟨0x40110008, 0, 31, 1, .w1c, 0, []⟩
def FIRST_FAULT.MORE : Fld := ⟨0x40110008, 0, 30, 1, .ro, 0, []⟩
def FIRST_FAULT.SEV : Fld := ⟨0x40110008, 0, 28, 2, .ro, 0, []⟩
def FIRST_FAULT.SRC : Fld := ⟨0x40110008, 0, 16, 6, .ro, 0, []⟩
def FIRST_FAULT.TICK16 : Fld := ⟨0x40110008, 0, 0, 16, .ro, 0, []⟩
-- FIRST_TICK_LO (0x4011_000C) and FIRST_TICK_HI (0x4011_0010)
def FIRST_TICK_LO.TICK : Fld := ⟨0x4011000C, 0, 0, 32, .ro, 0, []⟩
-- FIRST_TICK_LO (0x4011_000C) and FIRST_TICK_HI (0x4011_0010)
def FIRST_TICK_HI.TICK : Fld := ⟨0x40110010, 0, 0, 32, .ro, 0, []⟩
-- FAULT_SEV_0 to FAULT_SEV_3 (0x4011_0020 to 0x4011_002C)
def FAULT_SEV.SEV : Fld := ⟨0x40110020, 4, 0, 32, .ko, 0, [1516602815, 1162958165, 1359040529, 0]⟩
-- FAULT_CTL (0x4011_0030)
def FAULT_CTL.SAFE_EXIT : Fld := ⟨0x40110030, 0, 0, 1, .wo, 0, []⟩
-- FAULT_STATE (0x4011_0034)
def FAULT_STATE.EXIT_REJ : Fld := ⟨0x40110034, 0, 7, 1, .w1c, 0, []⟩
def FAULT_STATE.HALT_STUCK : Fld := ⟨0x40110034, 0, 6, 1, .ro, 0, []⟩
def FAULT_STATE.PERMANENT : Fld := ⟨0x40110034, 0, 5, 1, .ro, 0, []⟩
def FAULT_STATE.SAFE_LINE : Fld := ⟨0x40110034, 0, 4, 1, .ro, 0, []⟩
def FAULT_STATE.HALT_COUNT : Fld := ⟨0x40110034, 0, 2, 2, .ro, 0, []⟩
def FAULT_STATE.REACT : Fld := ⟨0x40110034, 0, 0, 2, .ro, 0, []⟩
-- FAULT_HIST_HEAD (0x4011_0040)
def FAULT_HIST_HEAD.TOTAL : Fld := ⟨0x40110040, 0, 8, 24, .ro, 0, []⟩
def FAULT_HIST_HEAD.NEWEST : Fld := ⟨0x40110040, 0, 0, 4, .ro, 15, []⟩
-- FAULT_HIST_k_TICK_LO (0x4011_0100 + k × 0x10), FAULT_HIST_k_TICK_HI (+0x04), FAULT_HIST_k_INFO (+0x08), k = 0 to 15
def FAULT_HIST_TICK_LO.TICK : Fld := ⟨0x40110100, 16, 0, 32, .ro, 0, []⟩
-- FAULT_HIST_k_TICK_LO (0x4011_0100 + k × 0x10), FAULT_HIST_k_TICK_HI (+0x04), FAULT_HIST_k_INFO (+0x08), k = 0 to 15
def FAULT_HIST_TICK_HI.TICK : Fld := ⟨0x40110104, 16, 0, 32, .ro, 0, []⟩
-- FAULT_HIST_k_TICK_LO (0x4011_0100 + k × 0x10), FAULT_HIST_k_TICK_HI (+0x04), FAULT_HIST_k_INFO (+0x08), k = 0 to 15
def FAULT_HIST_INFO.MERGED : Fld := ⟨0x40110108, 16, 31, 1, .ro, 0, []⟩
def FAULT_HIST_INFO.MULTI : Fld := ⟨0x40110108, 16, 30, 1, .ro, 0, []⟩
def FAULT_HIST_INFO.SEV : Fld := ⟨0x40110108, 16, 28, 2, .ro, 0, []⟩
def FAULT_HIST_INFO.SRC : Fld := ⟨0x40110108, 16, 16, 6, .ro, 0, []⟩
def FAULT_HIST_INFO.DETAIL : Fld := ⟨0x40110108, 16, 0, 16, .ro, 0, []⟩
-- WD_CFG (0x4012_0000)
def WD_CFG.TASKS : Fld := ⟨0x40120000, 0, 16, 16, .rw, 0, []⟩
def WD_CFG.LOCKED : Fld := ⟨0x40120000, 0, 15, 1, .ro, 0, []⟩
def WD_CFG.PERIOD_MS : Fld := ⟨0x40120000, 0, 0, 10, .rw, 100, []⟩
-- WD_CTL (0x4012_0004), WD_CHECKIN (0x4012_0008), WD_KEY (0x4012_000C)
def WD_CTL.LOCK : Fld := ⟨0x40120004, 0, 0, 1, .wo, 0, []⟩
-- WD_CTL (0x4012_0004), WD_CHECKIN (0x4012_0008), WD_KEY (0x4012_000C)
def WD_CHECKIN.TASK : Fld := ⟨0x40120008, 0, 0, 4, .wo, 0, []⟩
-- WD_CTL (0x4012_0004), WD_CHECKIN (0x4012_0008), WD_KEY (0x4012_000C)
def WD_KEY.KEY : Fld := ⟨0x4012000C, 0, 0, 16, .wo, 0, []⟩
-- WD_STATUS (0x4012_0010)
def WD_STATUS.SEEN : Fld := ⟨0x40120010, 0, 16, 16, .ro, 0, []⟩
def WD_STATUS.DOUBLE : Fld := ⟨0x40120010, 0, 0, 16, .ro, 0, []⟩
-- WD_STATE (0x4012_0014)
def WD_STATE.LAST_FIND : Fld := ⟨0x40120014, 0, 4, 4, .ro, 0, []⟩
def WD_STATE.UNREG : Fld := ⟨0x40120014, 0, 3, 1, .w1c, 0, []⟩
def WD_STATE.KEYA_PEND : Fld := ⟨0x40120014, 0, 2, 1, .ro, 0, []⟩
def WD_STATE.MODE : Fld := ⟨0x40120014, 0, 0, 1, .ro, 0, []⟩
-- WD_REMAIN (0x4012_0018) and WD_COUNT (0x4012_001C)
def WD_REMAIN.TICKS : Fld := ⟨0x40120018, 0, 0, 32, .ro, 0, []⟩
-- WD_REMAIN (0x4012_0018) and WD_COUNT (0x4012_001C)
def WD_COUNT.REFUSED : Fld := ⟨0x4012001C, 0, 16, 16, .ro, 0, []⟩
def WD_COUNT.CLOSED : Fld := ⟨0x4012001C, 0, 0, 16, .rc, 0, []⟩

/-! Registers of spec/13_memories_otp.md -/

-- ECC_SRAM_CNT (0x4013_0000), ECC_FLASH_CNT (0x4013_0004), ECC_ENG_CNT (0x4013_0008)
def ECC_CNT.UNC : Fld := ⟨0x40130000, 4, 24, 8, .rc, 0, []⟩
def ECC_CNT.PAGE : Fld := ⟨0x40130000, 4, 16, 8, .rc, 0, []⟩
def ECC_CNT.CORR : Fld := ⟨0x40130000, 4, 0, 16, .rc, 0, []⟩
-- ECC_LAST_ADDR (0x4013_000C) and ECC_LAST_INFO (0x4013_0010)
def ECC_LAST_ADDR.ADDR : Fld := ⟨0x4013000C, 0, 0, 32, .ro, 4294967295, []⟩
-- ECC_LAST_ADDR (0x4013_000C) and ECC_LAST_INFO (0x4013_0010)
def ECC_LAST_INFO.MEM : Fld := ⟨0x40130010, 0, 30, 2, .ro, 0, []⟩
def ECC_LAST_INFO.KIND : Fld := ⟨0x40130010, 0, 28, 2, .ro, 0, []⟩
def ECC_LAST_INFO.TICK16 : Fld := ⟨0x40130010, 0, 0, 16, .ro, 0, []⟩
-- ECC_PAGE_STAT (0x4013_0014)
def ECC_PAGE_STAT.MISMATCH : Fld := ⟨0x40130014, 0, 0, 16, .rc, 0, []⟩
-- ECC_TEST_CTL (0x4013_0020)
def ECC_TEST_CTL.EN : Fld := ⟨0x40130020, 0, 31, 1, .rw, 0, []⟩
def ECC_TEST_CTL.TEST_REJ : Fld := ⟨0x40130020, 0, 4, 1, .w1c, 0, []⟩
def ECC_TEST_CTL.PAGE_HOLD : Fld := ⟨0x40130020, 0, 3, 1, .rw, 0, []⟩
def ECC_TEST_CTL.READ : Fld := ⟨0x40130020, 0, 1, 1, .wo, 0, []⟩
def ECC_TEST_CTL.GO : Fld := ⟨0x40130020, 0, 0, 1, .wo, 0, []⟩
-- ECC_TEST_ADDR (0x4013_0024), ECC_TEST_DATA_LO (0x4013_0028), ECC_TEST_DATA_HI (0x4013_002C)
def ECC_TEST_ADDR.VALUE : Fld := ⟨0x40130024, 0, 0, 32, .rw, 0, []⟩
-- ECC_TEST_ADDR (0x4013_0024), ECC_TEST_DATA_LO (0x4013_0028), ECC_TEST_DATA_HI (0x4013_002C)
def ECC_TEST_DATA_LO.VALUE : Fld := ⟨0x40130028, 0, 0, 32, .rw, 0, []⟩
-- ECC_TEST_ADDR (0x4013_0024), ECC_TEST_DATA_LO (0x4013_0028), ECC_TEST_DATA_HI (0x4013_002C)
def ECC_TEST_DATA_HI.VALUE : Fld := ⟨0x4013002C, 0, 0, 32, .rw, 0, []⟩
-- ECC_TEST_CHK (0x4013_0030) and ECC_RAW_CHK (0x4013_003C)
def ECC_TEST_CHK.MARK : Fld := ⟨0x40130030, 0, 8, 3, .rw, 0, []⟩
def ECC_TEST_CHK.CHK : Fld := ⟨0x40130030, 0, 0, 8, .rw, 0, []⟩
-- ECC_TEST_CHK (0x4013_0030) and ECC_RAW_CHK (0x4013_003C)
def ECC_RAW_CHK.MARK : Fld := ⟨0x4013003C, 0, 8, 3, .ro, 0, []⟩
def ECC_RAW_CHK.CHK : Fld := ⟨0x4013003C, 0, 0, 8, .ro, 0, []⟩
-- ECC_RAW_DATA_LO (0x4013_0034) and ECC_RAW_DATA_HI (0x4013_0038)
def ECC_RAW_DATA_LO.DATA : Fld := ⟨0x40130034, 0, 0, 32, .ro, 0, []⟩
-- ECC_RAW_DATA_LO (0x4013_0034) and ECC_RAW_DATA_HI (0x4013_0038)
def ECC_RAW_DATA_HI.DATA : Fld := ⟨0x40130038, 0, 0, 32, .ro, 0, []⟩
-- SCRUB_START (0x4013_0040) and SCRUB_END (0x4013_0044)
def SCRUB_START.ADDR : Fld := ⟨0x40130040, 0, 0, 32, .rw, 536870912, []⟩
-- SCRUB_START (0x4013_0040) and SCRUB_END (0x4013_0044)
def SCRUB_END.ADDR : Fld := ⟨0x40130044, 0, 0, 32, .rw, 536870912, []⟩
-- SCRUB_CTL (0x4013_0048)
def SCRUB_CTL.GO : Fld := ⟨0x40130048, 0, 31, 1, .wo, 0, []⟩
def SCRUB_CTL.ABORT : Fld := ⟨0x40130048, 0, 30, 1, .wo, 0, []⟩
def SCRUB_CTL.RATE : Fld := ⟨0x40130048, 0, 0, 8, .rw, 16, []⟩
-- SCRUB_STATUS (0x4013_004C)
def SCRUB_STATUS.BUSY : Fld := ⟨0x4013004C, 0, 31, 1, .ro, 0, []⟩
def SCRUB_STATUS.DONE : Fld := ⟨0x4013004C, 0, 30, 1, .w1c, 0, []⟩
def SCRUB_STATUS.ABORTED : Fld := ⟨0x4013004C, 0, 29, 1, .ro, 0, []⟩
def SCRUB_STATUS.REFUSED : Fld := ⟨0x4013004C, 0, 28, 1, .w1c, 0, []⟩
def SCRUB_STATUS.MISMATCH : Fld := ⟨0x4013004C, 0, 0, 16, .ro, 0, []⟩
-- SCRUB_READ (0x4013_0050), SCRUB_CORR (0x4013_0054), SCRUB_UNC (0x4013_0058), SCRUB_FIRST (0x4013_005C)
def SCRUB_READ.WORDS : Fld := ⟨0x40130050, 0, 0, 32, .ro, 0, []⟩
-- SCRUB_READ (0x4013_0050), SCRUB_CORR (0x4013_0054), SCRUB_UNC (0x4013_0058), SCRUB_FIRST (0x4013_005C)
def SCRUB_CORR.PAGES : Fld := ⟨0x40130054, 0, 16, 16, .ro, 0, []⟩
def SCRUB_CORR.WORDS : Fld := ⟨0x40130054, 0, 0, 16, .ro, 0, []⟩
-- SCRUB_READ (0x4013_0050), SCRUB_CORR (0x4013_0054), SCRUB_UNC (0x4013_0058), SCRUB_FIRST (0x4013_005C)
def SCRUB_UNC.WORDS : Fld := ⟨0x40130058, 0, 0, 32, .ro, 0, []⟩
-- SCRUB_READ (0x4013_0050), SCRUB_CORR (0x4013_0054), SCRUB_UNC (0x4013_0058), SCRUB_FIRST (0x4013_005C)
def SCRUB_FIRST.ADDR : Fld := ⟨0x4013005C, 0, 0, 32, .ro, 4294967295, []⟩
-- OTP_ADDR (0x4014_0000) and OTP_DATA (0x4014_0004)
def OTP_ADDR.INDEX : Fld := ⟨0x40140000, 0, 0, 11, .rw, 0, []⟩
-- OTP_ADDR (0x4014_0000) and OTP_DATA (0x4014_0004)
def OTP_DATA.DATA : Fld := ⟨0x40140004, 0, 0, 32, .rw, 0, []⟩
-- OTP_CMD (0x4014_0008)
def OTP_CMD.KEY : Fld := ⟨0x40140008, 0, 8, 8, .wo, 0, []⟩
def OTP_CMD.CMD : Fld := ⟨0x40140008, 0, 0, 4, .wo, 0, []⟩
-- OTP_STATUS (0x4014_000C)
def OTP_STATUS.BUSY : Fld := ⟨0x4014000C, 0, 31, 1, .ro, 0, []⟩
def OTP_STATUS.ERR : Fld := ⟨0x4014000C, 0, 24, 4, .ro, 0, []⟩
def OTP_STATUS.REDIR_USED : Fld := ⟨0x4014000C, 0, 16, 7, .ro, 0, []⟩
def OTP_STATUS.FINAL : Fld := ⟨0x4014000C, 0, 8, 4, .ro, 1, []⟩
def OTP_STATUS.MAXPULSE : Fld := ⟨0x4014000C, 0, 0, 4, .ro, 0, []⟩
-- OTP_MINORITY (0x4014_0010)
def OTP_MINORITY.COUNT : Fld := ⟨0x40140010, 0, 0, 16, .ro, 0, []⟩
-- OTP_CNT_k (0x4014_0040 + k × 4), k = 0 to 31
def OTP_CNT.VALUE : Fld := ⟨0x40140040, 4, 0, 8, .ro, 0, []⟩

/-! Registers of spec/14_logbook.md -/

-- LOG_NEXT (0x4015_0000) and LOG_OLDEST (0x4015_0004)
def LOG_NEXT.SEQ : Fld := ⟨0x40150000, 0, 0, 32, .ro, 0, []⟩
-- LOG_NEXT (0x4015_0000) and LOG_OLDEST (0x4015_0004)
def LOG_OLDEST.SEQ : Fld := ⟨0x40150004, 0, 0, 32, .ro, 0, []⟩
-- LOG_STATUS (0x4015_0008)
def LOG_STATUS.CLEARING : Fld := ⟨0x40150008, 0, 12, 1, .ro, 0, []⟩
def LOG_STATUS.DROP_RUN : Fld := ⟨0x40150008, 0, 11, 1, .ro, 0, []⟩
def LOG_STATUS.WRITING : Fld := ⟨0x40150008, 0, 10, 1, .ro, 0, []⟩
def LOG_STATUS.ERASING : Fld := ⟨0x40150008, 0, 9, 1, .ro, 0, []⟩
def LOG_STATUS.ANCHOR_FULL : Fld := ⟨0x40150008, 0, 8, 1, .ro, 0, []⟩
def LOG_STATUS.QUEUED : Fld := ⟨0x40150008, 0, 0, 6, .ro, 0, []⟩
-- LOG_COUNTS (0x4015_000C)
def LOG_COUNTS.DROPPED : Fld := ⟨0x4015000C, 0, 16, 16, .rc, 0, []⟩
def LOG_COUNTS.TORN : Fld := ⟨0x4015000C, 0, 0, 16, .ro, 0, []⟩
-- LOG_CTL (0x4015_0010)
def LOG_CTL.SNAP : Fld := ⟨0x40150010, 0, 0, 1, .wo, 0, []⟩
-- LOG_LIST_c_k (0x4015_0400 + c × 0x100 + k × 4), c = TYPE 0x01 to 0x0B, k = 0 to 47
def LOG_LIST.ADDR : Fld := ⟨0x40150400, 4, 2, 30, .ro, 0, []⟩
def LOG_LIST.VALID : Fld := ⟨0x40150400, 4, 0, 1, .ro, 0, []⟩

/-! Registers of spec/15_firmware_config.md -/

-- BOOT_STATUS (0x4000_0200)
def BOOT_STATUS.NOCFG : Fld := ⟨0x40000200, 0, 31, 1, .ro, 0, []⟩
def BOOT_STATUS.RECOVERY : Fld := ⟨0x40000200, 0, 30, 1, .ro, 0, []⟩
def BOOT_STATUS.LIMITS_OPEN : Fld := ⟨0x40000200, 0, 29, 1, .ro, 0, []⟩
def BOOT_STATUS.LIM_IGN : Fld := ⟨0x40000200, 0, 28, 1, .ro, 0, []⟩
def BOOT_STATUS.PATCH_MAP : Fld := ⟨0x40000200, 0, 16, 8, .ro, 0, []⟩
def BOOT_STATUS.CFG_RESULT : Fld := ⟨0x40000200, 0, 12, 4, .ro, 0, []⟩
def BOOT_STATUS.CFG_SLOT : Fld := ⟨0x40000200, 0, 11, 1, .ro, 0, []⟩
def BOOT_STATUS.PILOT_SLOT : Fld := ⟨0x40000200, 0, 10, 1, .ro, 0, []⟩
def BOOT_STATUS.PENDING : Fld := ⟨0x40000200, 0, 9, 1, .ro, 0, []⟩
def BOOT_STATUS.REVERTED : Fld := ⟨0x40000200, 0, 8, 1, .ro, 0, []⟩
def BOOT_STATUS.TRIES : Fld := ⟨0x40000200, 0, 4, 3, .ro, 0, []⟩
-- BOOT_POLICY (0x4000_0204)
def BOOT_POLICY.CFG_SIG_REQ : Fld := ⟨0x40000204, 0, 0, 1, .ko, 0, []⟩
-- CFG_SEQ_A (0x4000_0208) and CFG_SEQ_B (0x4000_020C)
def CFG_SEQ.SEQ : Fld := ⟨0x40000208, 4, 0, 32, .ro, 4294967295, []⟩
-- CFG_REJECT (0x4000_0210) and CFG_REJECT_REC (0x4000_0214)
def CFG_REJECT.CODE : Fld := ⟨0x40000210, 0, 0, 32, .ro, 0, []⟩
-- CFG_REJECT (0x4000_0210) and CFG_REJECT_REC (0x4000_0214)
def CFG_REJECT_REC.HOLDER : Fld := ⟨0x40000214, 0, 16, 16, .ro, 0, []⟩
def CFG_REJECT_REC.CLAIMANT : Fld := ⟨0x40000214, 0, 0, 16, .ro, 0, []⟩
-- PILOT_VER_0 (0x4000_0218) and PILOT_VER_1 (0x4000_021C)
def PILOT_VER.VERSION : Fld := ⟨0x40000218, 4, 0, 32, .ro, 0, []⟩
-- SPARE_LEFT_0 (0x4000_0220)
def SPARE_LEFT_0.SENSE_AMP : Fld := ⟨0x40000220, 0, 9, 2, .ro, 2, []⟩
def SPARE_LEFT_0.CMP_CORE : Fld := ⟨0x40000220, 0, 7, 2, .ro, 2, []⟩
def SPARE_LEFT_0.CHARGE_PUMP : Fld := ⟨0x40000220, 0, 4, 1, .ro, 1, []⟩
def SPARE_LEFT_0.SYSPLL : Fld := ⟨0x40000220, 0, 3, 1, .ro, 1, []⟩
def SPARE_LEFT_0.BANDGAP : Fld := ⟨0x40000220, 0, 2, 1, .ro, 1, []⟩
def SPARE_LEFT_0.ENGINE : Fld := ⟨0x40000220, 0, 1, 1, .ro, 1, []⟩
def SPARE_LEFT_0.CONVERTER : Fld := ⟨0x40000220, 0, 0, 1, .ro, 1, []⟩
-- SPARE_LEFT_1 (0x4000_0224)
def SPARE_LEFT_1.OTP_ROW : Fld := ⟨0x40000224, 0, 24, 7, .ro, 64, []⟩
def SPARE_LEFT_1.FLASH_BLOCK : Fld := ⟨0x40000224, 0, 16, 7, .ro, 64, []⟩
def SPARE_LEFT_1.SRAM_ROW : Fld := ⟨0x40000224, 0, 0, 9, .ro, 256, []⟩
-- SYS_RESTART (0x4000_0230) and PILOT_READY (0x4000_0234)
def SYS_RESTART.KEY : Fld := ⟨0x40000230, 0, 0, 8, .wo, 0, []⟩
-- SYS_RESTART (0x4000_0230) and PILOT_READY (0x4000_0234)
def PILOT_READY.READY : Fld := ⟨0x40000234, 0, 0, 1, .wo, 0, []⟩

/-! Registers of spec/16_host_links.md -/

-- HOST_PORT_p_CFG (0x4016_0000 + p × 4), p = 0 to 3
def HOST_PORT_CFG.CLASS : Fld := ⟨0x40160000, 4, 30, 2, .ro, 0, [2, 1, 0, 0]⟩
def HOST_PORT_CFG.ATTN_PIN : Fld := ⟨0x40160000, 4, 24, 1, .rw, 0, [1, 1, 0, 0]⟩
def HOST_PORT_CFG.ATTN_MASK : Fld := ⟨0x40160000, 4, 0, 9, .rw, 511, []⟩
-- HOST_TW_CFG (0x4016_0010)
def HOST_TW_CFG.TW1_TGT : Fld := ⟨0x40160010, 0, 31, 1, .rw, 0, []⟩
def HOST_TW_CFG.TW1_ADDR : Fld := ⟨0x40160010, 0, 24, 7, .rw, 72, []⟩
def HOST_TW_CFG.NOTIFY_EN : Fld := ⟨0x40160010, 0, 23, 1, .rw, 0, []⟩
def HOST_TW_CFG.NOTIFY_ADDR : Fld := ⟨0x40160010, 0, 16, 7, .rw, 8, []⟩
def HOST_TW_CFG.NOTIFY_GAP : Fld := ⟨0x40160010, 0, 8, 8, .rw, 10, []⟩
def HOST_TW_CFG.TW0_ADDR : Fld := ⟨0x40160010, 0, 0, 7, .ro, 0, []⟩
-- HOST_PORT_p_ERR (0x4016_0020 + p × 4)
def HOST_PORT_ERR.HUNG : Fld := ⟨0x40160020, 4, 31, 1, .w1c, 0, []⟩
def HOST_PORT_ERR.ARB_STOP : Fld := ⟨0x40160020, 4, 16, 8, .rc, 0, []⟩
def HOST_PORT_ERR.BAD_FRAME : Fld := ⟨0x40160020, 4, 8, 8, .rc, 0, []⟩
def HOST_PORT_ERR.CRC_ERR : Fld := ⟨0x40160020, 4, 0, 8, .rc, 0, []⟩
-- QUAY_CFG (0x4016_0030)
def QUAY_CFG.EXEC_TMO : Fld := ⟨0x40160030, 0, 0, 16, .rw, 100, []⟩
-- QP_TAKE (0x4016_0034) and QP_POST (0x4016_0038)
def QP_TAKE.VALID : Fld := ⟨0x40160034, 0, 31, 1, .ro, 0, []⟩
def QP_TAKE.PORT : Fld := ⟨0x40160034, 0, 2, 2, .ro, 0, []⟩
def QP_TAKE.QUAY : Fld := ⟨0x40160034, 0, 0, 2, .ro, 0, []⟩
-- QP_TAKE (0x4016_0034) and QP_POST (0x4016_0038)
def QP_POST.POST : Fld := ⟨0x40160038, 0, 0, 1, .wo, 0, []⟩
-- LEASE_e_RES (0x4016_0100 + e × 8) and LEASE_e_EXP (+0x04), e = 0 to 31
def LEASE_RES.HANDLE : Fld := ⟨0x40160100, 8, 16, 16, .ro, 0, []⟩
def LEASE_RES.PORT : Fld := ⟨0x40160100, 8, 12, 2, .ro, 0, []⟩
def LEASE_RES.KIND : Fld := ⟨0x40160100, 8, 8, 3, .ro, 0, []⟩
def LEASE_RES.INDEX : Fld := ⟨0x40160100, 8, 0, 5, .ro, 0, []⟩
-- LEASE_e_RES (0x4016_0100 + e × 8) and LEASE_e_EXP (+0x04), e = 0 to 31
def LEASE_EXP.TICK : Fld := ⟨0x40160104, 8, 0, 32, .ro, 0, []⟩
-- HW_CFG (0x4016_0400)
def HW_CFG.NODE_ID : Fld := ⟨0x40160400, 0, 20, 12, .ro, 0, []⟩
def HW_CFG.MASTER_ID : Fld := ⟨0x40160400, 0, 8, 12, .ro, 0, []⟩
def HW_CFG.BCAST_TX : Fld := ⟨0x40160400, 0, 7, 1, .rw, 0, []⟩
def HW_CFG.ZONE_TX : Fld := ⟨0x40160400, 0, 0, 4, .rw, 0, []⟩
-- HW_CFG2 (0x4016_0404)
def HW_CFG2.ZONE_RX : Fld := ⟨0x40160404, 0, 16, 16, .rw, 0, []⟩
def HW_CFG2.RELAY_NODE : Fld := ⟨0x40160404, 0, 0, 12, .rw, 0, []⟩
-- HW_STATUS (0x4016_0408)
def HW_STATUS.DUP_ID : Fld := ⟨0x40160408, 0, 31, 1, .ro, 0, []⟩
def HW_STATUS.WRAP_A : Fld := ⟨0x40160408, 0, 30, 1, .ro, 0, []⟩
def HW_STATUS.WRAP_B : Fld := ⟨0x40160408, 0, 29, 1, .ro, 0, []⟩
def HW_STATUS.UP_A : Fld := ⟨0x40160408, 0, 16, 12, .ro, 0, []⟩
def HW_STATUS.UP_B : Fld := ⟨0x40160408, 0, 0, 12, .ro, 0, []⟩
-- HW_COUNT (0x4016_040C) and HW_LINK (0x4016_0410)
def HW_COUNT.BCAST_RX : Fld := ⟨0x4016040C, 0, 24, 8, .rc, 0, []⟩
def HW_COUNT.DROPPED : Fld := ⟨0x4016040C, 0, 16, 8, .rc, 0, []⟩
def HW_COUNT.CRC_ERR : Fld := ⟨0x4016040C, 0, 0, 16, .rc, 0, []⟩
-- HW_COUNT (0x4016_040C) and HW_LINK (0x4016_0410)
def HW_LINK.CABLE_B : Fld := ⟨0x40160410, 0, 16, 16, .ro, 0, []⟩
def HW_LINK.CABLE_A : Fld := ⟨0x40160410, 0, 0, 16, .ro, 0, []⟩

/-- The registers of spec/01_tick_and_hierarchies.md. -/
def regs01 : List RegD :=
  [⟨0x40000000, 0, 1, [SYS_TICK_LO.TICK_LO]⟩] ++
  [⟨0x40000004, 0, 1, [SYS_TICK_HI.TICK_HI]⟩] ++
  [⟨0x40000010, 0, 1, [CLK_STATUS.TICK_SRC, CLK_STATUS.PLL_SEL, CLK_STATUS.HRPLL_LOCK, CLK_STATUS.XIN_OK, CLK_STATUS.DOM_OK]⟩] ++
  [⟨0x40000014, 0, 1, [CLK_FAULT.XIN_LOST, CLK_FAULT.DOM_FAIL]⟩] ++
  [⟨0x40000020, 0, 1, [ENG_STATUS.LE4_ROLE, ENG_STATUS.LE4_SHADOW]⟩] ++
  [⟨0x40000024, 0, 1, [ENG_OVR_FLAGS.OVR]⟩] ++
  [⟨0x40000028, 0, 1, [ENG_OVR_COUNT.COUNT]⟩] ++
  [⟨0x40000030, 4, 5, [ENG_LOAD.MAX_FINISH, ENG_LOAD.LAST_FINISH, ENG_LOAD.BUDGET]⟩] ++
  [⟨0x40000050, 0, 1, [RING_TICK_OFFSET_LO.OFFSET]⟩] ++
  [⟨0x40000054, 0, 1, [RING_TICK_OFFSET_HI.OFFSET]⟩] ++
  [⟨0x40000058, 0, 1, [ALIGN_STATUS.ALIGN_LOCKED, ALIGN_STATUS.IS_MASTER, ALIGN_STATUS.MASTER_ID, ALIGN_STATUS.PHASE_ERR]⟩]

/-- The registers of spec/02_berths_switching.md. -/
def regs02 : List RegD :=
  [⟨0x40010000, 256, 32, [BERTH_CFG.SOA_REF, BERTH_CFG.SAFE_HELD, BERTH_CFG.EARLY, BERTH_CFG.CLASS, BERTH_CFG.GAIN, BERTH_CFG.MODE]⟩] ++
  [⟨0x40010004, 256, 32, [BERTH_CTL.ON]⟩] ++
  [⟨0x40010008, 256, 32, [BERTH_STATE.CFG_REJ, BERTH_STATE.CAUSE, BERTH_STATE.TOKEN, BERTH_STATE.STATE]⟩] ++
  [⟨0x4001000C, 256, 32, [BERTH_PROF_V.VMAX]⟩] ++
  [⟨0x40010010, 256, 32, [BERTH_PROF_AJ.JMAX, BERTH_PROF_AJ.AMAX]⟩] ++
  [⟨0x40010014, 256, 32, [BERTH_GATE.IGATE_MAX]⟩] ++
  [⟨0x40010018, 256, 32, [BERTH_GLOOP.KI, BERTH_GLOOP.KP]⟩] ++
  [⟨0x4001001C, 256, 32, [BERTH_INRUSH_T.DONE_MV, BERTH_INRUSH_T.TMAX]⟩] ++
  ((List.range 3).map fun k => ⟨0x40010020 + 4 * k, 256, 32, [BERTH_SOA_R.RTH k]⟩) ++
  ((List.range 3).map fun k => ⟨0x4001002C + 4 * k, 256, 32, [BERTH_SOA_B.BETA k]⟩) ++
  ((List.range 3).map fun k => ⟨0x40010038 + 4 * k, 256, 32, [BERTH_SOA_RD.ROUND_DECAY k]⟩) ++
  [⟨0x40010044, 256, 32, [BERTH_SOA_LIM.TJ_LIM]⟩] ++
  [⟨0x40010048, 256, 32, [BERTH_SOA_TJ.TJ_PEAK, BERTH_SOA_TJ.TJ_PRED]⟩] ++
  ((List.range 3).map fun k => ⟨0x4001004C + 4 * k, 256, 32, [BERTH_SOA_T.TERM k]⟩) ++
  [⟨0x40010058, 256, 32, [BERTH_SOA_HOLD.HOLD]⟩] ++
  [⟨0x40030800, 0, 1, [BERTH_TOKENS.FREE, BERTH_TOKENS.IN_USE, BERTH_TOKENS.TOK_LIMIT, BERTH_TOKENS.TOK_CFG]⟩] ++
  [⟨0x40030804, 0, 1, [BERTH_LIM.TJ_LIM_MAX]⟩] ++
  [⟨0x40030808, 0, 1, [BERTH_PENDING.MAP]⟩] ++
  [⟨0x4003080C, 0, 1, [BERTH_INRUSH.MAP]⟩] ++
  [⟨0x40030810, 0, 1, [BERTH_ONMAP.MAP]⟩] ++
  [⟨0x40030818, 0, 1, [BERTH_TOKEN_OWNER_LO.OWNER]⟩] ++
  [⟨0x4003081C, 0, 1, [BERTH_TOKEN_OWNER_HI.OWNER]⟩] ++
  [⟨0x40030000, 256, 2, [FEED_CFG.REARM_MV, FEED_CFG.REV_MV, FEED_CFG.FWD_MV]⟩] ++
  [⟨0x40030004, 256, 2, [FEED_CTL.FORCE_OFF]⟩] ++
  [⟨0x40030008, 256, 2, [FEED_STATUS.REV_COUNT, FEED_STATUS.STATE]⟩] ++
  [⟨0x40030200, 0, 1, [FEED_VNET_WIN.QUAL, FEED_VNET_WIN.OV_MV, FEED_VNET_WIN.UV_MV]⟩]

/-- The registers of spec/03_berths_protection.md. -/
def regs03 : List RegD :=
  [⟨0x40010080, 256, 32, [BERTH_FT.REV_EN, BERTH_FT.FT_HELD, BERTH_FT.FT_CODE]⟩] ++
  [⟨0x40010084, 256, 32, [BERTH_FT_STAT.FT_COUNT, BERTH_FT_STAT.TRIP_I]⟩] ++
  [⟨0x40010088, 256, 32, [BERTH_TW_R.ALPHA, BERTH_TW_R.R20]⟩] ++
  [⟨0x4001008C, 256, 32, [BERTH_TW_RTH.RBA, BERTH_TW_RTH.RCB]⟩] ++
  [⟨0x40010090, 256, 32, [BERTH_TW_C.CB, BERTH_TW_C.CC]⟩] ++
  [⟨0x40010094, 256, 32, [BERTH_TW_AMB.MARGIN, BERTH_TW_AMB.AMB_SRC]⟩] ++
  [⟨0x40010098, 256, 32, [BERTH_TW_LIM.TRIP, BERTH_TW_LIM.WARN]⟩] ++
  [⟨0x4001009C, 256, 32, [BERTH_TW_REARM.REARM]⟩] ++
  [⟨0x400100A0, 256, 32, [BERTH_TW_TC.TEMP]⟩] ++
  [⟨0x400100A4, 256, 32, [BERTH_TW_TB.TEMP]⟩] ++
  [⟨0x400100A8, 256, 32, [BERTH_TW_TA.TEMP]⟩] ++
  [⟨0x400100AC, 256, 32, [BERTH_PSTAT.RESTORE, BERTH_PSTAT.AMB_SUBST, BERTH_PSTAT.TWIN_HOT, BERTH_PSTAT.WARN, BERTH_PSTAT.RETRY_CNT, BERTH_PSTAT.REJ_REASON, BERTH_PSTAT.FT_LATCH]⟩] ++
  [⟨0x400100B0, 256, 32, [BERTH_PLIM.RETRY_WIN, BERTH_PLIM.RETRY_MAX, BERTH_PLIM.FT_MAX]⟩] ++
  [⟨0x400100B4, 256, 32, [BERTH_TLIM.RGAP_MIN, BERTH_TLIM.TRIP_MAX]⟩] ++
  [⟨0x400100B8, 256, 32, [BERTH_TRIP_TICK_LO.TICK]⟩] ++
  [⟨0x400100BC, 256, 32, [BERTH_TRIP_TICK_HI.TICK]⟩]

/-- The registers of spec/04_multiphase_loops.md. -/
def regs04 : List RegD :=
  [⟨0x40040000, 1024, 8, [LOOP_CFG.VSEL2, LOOP_CFG.VSEL1, LOOP_CFG.VSEL0, LOOP_CFG.VSEL_QUAL, LOOP_CFG.IREF_SEL, LOOP_CFG.STOP_MODE, LOOP_CFG.PREBIAS, LOOP_CFG.KBUS_SRC, LOOP_CFG.BURST_EN, LOOP_CFG.SCALE]⟩] ++
  [⟨0x40040004, 1024, 8, [LOOP_CTL.FORCE_EN, LOOP_CTL.FORCE_IDX, LOOP_CTL.EN]⟩] ++
  [⟨0x40040008, 1024, 8, [LOOP_STATE.CFG_REJ, LOOP_STATE.ILIM_ACT, LOOP_STATE.MOVING, LOOP_STATE.IDX, LOOP_STATE.RAW_IDX, LOOP_STATE.N_ACT, LOOP_STATE.CAUSE, LOOP_STATE.STATE]⟩] ++
  [⟨0x4004000C, 1024, 8, [LOOP_PER.LOOP_OFS, LOOP_PER.PER]⟩] ++
  [⟨0x40040010, 1024, 8, [LOOP_TON.TOFF_MIN, LOOP_TON.TON_MIN]⟩] ++
  ((List.range 8).map fun k => ⟨0x40040020 + 4 * k, 1024, 8, [LOOP_VSET.CODE k]⟩) ++
  [⟨0x40040040, 1024, 8, [LOOP_PROF_V.VMAX]⟩] ++
  [⟨0x40040044, 1024, 8, [LOOP_PROF_AJ.JMAX, LOOP_PROF_AJ.AMAX]⟩] ++
  [⟨0x40040048, 1024, 8, [LOOP_WIN.QUAL, LOOP_WIN.OV_MV, LOOP_WIN.UV_MV]⟩] ++
  [⟨0x4004004C, 1024, 8, [LOOP_CMPWIN.HI_MV, LOOP_CMPWIN.LO_MV]⟩] ++
  [⟨0x40040050, 1024, 8, [LOOP_ILIM.IOC, LOOP_ILIM.ILIM]⟩] ++
  [⟨0x40040054, 1024, 8, [LOOP_ILIM2.OC_QUAL, LOOP_ILIM2.ILIM_STEP, LOOP_ILIM2.IPH_LIM]⟩] ++
  [⟨0x40040058, 1024, 8, [LOOP_SHARE.TRIM_MAX, LOOP_SHARE.KSHARE]⟩] ++
  [⟨0x4004005C, 1024, 8, [LOOP_SHED.ADD_A, LOOP_SHED.SHED_A]⟩] ++
  [⟨0x40040060, 1024, 8, [LOOP_SHED_N.NMIN, LOOP_SHED_N.SHED_BEATS, LOOP_SHED_N.BURST_A]⟩] ++
  [⟨0x40040064, 1024, 8, [LOOP_BURST.BURST_N, LOOP_BURST.SLEEP_MIN]⟩] ++
  [⟨0x40040068, 1024, 8, [LOOP_PRE.PRE_V, LOOP_PRE.PRE_RISE]⟩] ++
  [⟨0x4004006C, 1024, 8, [LOOP_VSP.VALUE]⟩] ++
  [⟨0x40040070, 1024, 8, [LOOP_ITOT.VALUE]⟩] ++
  [⟨0x40040074, 1024, 8, [LOOP_VSET_NOW.VALUE]⟩] ++
  [⟨0x40040078, 1024, 8, [LOOP_COUNT.SKIP_COUNT, LOOP_COUNT.BURSTS]⟩] ++
  [⟨0x4004007C, 1024, 8, [LOOP_KLIM.IOC_MAX, LOOP_KLIM.VSET_CEIL]⟩] ++
  [⟨0x40042000, 16, 24, [PHASE_CFG.IMON_GAIN, PHASE_CFG.SHED_RANK, PHASE_CFG.LOOP]⟩] ++
  [⟨0x40042004, 16, 24, [PHASE_STAT.I_AVG, PHASE_STAT.ACTIVE]⟩] ++
  [⟨0x40042008, 16, 24, [PHASE_TRIM.TRIM]⟩] ++
  [⟨0x40043000, 0, 1, [LOOP_VSEL_PINS.LEVEL]⟩]

/-- The registers of spec/05_integrated_rails.md. -/
def regs05 : List RegD :=
  [⟨0x40060000, 64, 8, [IB_CFG.DISCH, IB_CFG.FCCM, IB_CFG.L_SEL, IB_CFG.PHASE]⟩] ++
  [⟨0x40060004, 64, 8, [IB_CTL.EN]⟩] ++
  [⟨0x40060008, 64, 8, [IB_STATE.CFG_REJ, IB_STATE.ILIM_ACT, IB_STATE.CAUSE, IB_STATE.STATE]⟩] ++
  [⟨0x4006000C, 64, 8, [IB_VSET.CODE]⟩] ++
  [⟨0x40060010, 64, 8, [IB_RAMP.SS_TMAX, IB_RAMP.SS_RATE]⟩] ++
  [⟨0x40060014, 64, 8, [IB_PI.KI, IB_PI.KP]⟩] ++
  [⟨0x40060018, 64, 8, [IB_WIN.QUAL, IB_WIN.OV_MV, IB_WIN.UV_MV]⟩] ++
  [⟨0x4006001C, 64, 8, [IB_ILIM.OC_QUAL, IB_ILIM.ILIM]⟩] ++
  [⟨0x40060020, 64, 8, [IB_KLIM.ILIM_MAX, IB_KLIM.VSET_CEIL]⟩] ++
  [⟨0x40060024, 64, 8, [IB_VOUT.VALUE]⟩] ++
  [⟨0x40060028, 64, 8, [IB_ICMD.VALUE]⟩] ++
  [⟨0x40061000, 32, 6, [LDO_CFG.SS_RATE, LDO_CFG.DISCH]⟩] ++
  [⟨0x40061004, 32, 6, [LDO_CTL.CODE, LDO_CTL.EN]⟩] ++
  [⟨0x40061008, 32, 6, [LDO_STATE.CFG_REJ, LDO_STATE.CAUSE, LDO_STATE.STATE]⟩] ++
  [⟨0x4006100C, 32, 6, [LDO_KLIM.CODE_CEIL]⟩] ++
  [⟨0x40062000, 0, 1, [IREG_PG.LDO_PG, IREG_PG.IB_PG]⟩]

/-- The registers of spec/06_control_engines.md. -/
def regs06 : List RegD :=
  [⟨0x40070000, 256, 8, [ENG_LOOP_CFG.LIVE_TUNE, ENG_LOOP_CFG.ENGINE, ENG_LOOP_CFG.SLOT]⟩] ++
  [⟨0x40070004, 256, 8, [ENG_LOOP_CTL.OPEN_REQ]⟩] ++
  [⟨0x40070008, 256, 8, [ENG_LOOP_STAT.OPEN_TICKS, ENG_LOOP_STAT.POISON, ENG_LOOP_STAT.COEF_PEND, ENG_LOOP_STAT.GUARD, ENG_LOOP_STAT.OPEN_SRC]⟩] ++
  [⟨0x4007000C, 256, 8, [ENG_LOOP_CNT.GUARD_COUNT, ENG_LOOP_CNT.COEF_WRITES]⟩] ++
  ((List.range 4).map fun k => ⟨0x40070010 + 4 * k, 256, 8, [ENG_LOOP_B.COEF k]⟩) ++
  ((List.range 3).map fun k => ⟨0x40070020 + 4 * k, 256, 8, [ENG_LOOP_A.COEF k]⟩) ++
  [⟨0x4007002C, 256, 8, [ENG_LOOP_DCLAMP.DMAX, ENG_LOOP_DCLAMP.DMIN]⟩] ++
  [⟨0x40070030, 256, 8, [ENG_LOOP_VIN.VIN_REF]⟩] ++
  ((List.range 3).map fun k => ⟨0x40070040 + 8 * k, 256, 8, [ENG_LOOP_S_LO.STATE k]⟩) ++
  ((List.range 3).map fun k => ⟨0x40070044 + 8 * k, 256, 8, [ENG_LOOP_S_HI.STATE k]⟩) ++
  [⟨0x40070058, 256, 8, [ENG_LOOP_ERR.E]⟩] ++
  [⟨0x4007005C, 256, 8, [ENG_LOOP_DUTY.D]⟩] ++
  [⟨0x40070060, 256, 8, [ENG_LOOP_PVEL.VALUE]⟩] ++
  [⟨0x40070064, 256, 8, [ENG_LOOP_PACC.VALUE]⟩] ++
  [⟨0x40071000, 0, 1, [ENG_LIVE_MAP.MAP]⟩] ++
  [⟨0x40071004, 0, 1, [ENG_SHADOW.PASSES, ENG_SHADOW.MISMATCHES, ENG_SHADOW.LAST_ENG]⟩] ++
  [⟨0x40071008, 0, 1, [ENG_SHADOW_TICK_LO.TICK]⟩] ++
  [⟨0x4007100C, 0, 1, [ENG_SHADOW_TICK_HI.TICK]⟩] ++
  [⟨0x40071010, 0, 1, [ENG_OFFLINE.RESULT, ENG_OFFLINE.ENGINE]⟩]

/-- The registers of spec/07_measurement.md. -/
def regs07 : List RegD :=
  [⟨0x40090000, 0, 1, [ADC_CFG.SHD_TOL, ADC_CFG.CHK_TOL, ADC_CFG.CHK_LEN]⟩] ++
  [⟨0x40090004, 0, 1, [ADC_STATUS.LP, ADC_STATUS.SUBST, ADC_STATUS.SHADOW, ADC_STATUS.DISPUTE, ADC_STATUS.REF_ACT, ADC_STATUS.REF_IDLE, ADC_STATUS.REF_SPARE_USED, ADC_STATUS.DISP_CH]⟩] ++
  [⟨0x40090008, 0, 1, [ADC_COUNTS.CHK_TRANSIENT, ADC_COUNTS.SHD_TRANSIENT]⟩] ++
  [⟨0x4009000C, 0, 1, [ADC_DISP_TICK_LO.TICK]⟩] ++
  [⟨0x40090010, 0, 1, [ADC_DISP_TICK_HI.TICK]⟩] ++
  [⟨0x40090020, 4, 3, [ADC_CAL.GAIN, ADC_CAL.OFFSET]⟩] ++
  [⟨0x4009002C, 0, 1, [ADC_REF_DIFF.SPARE, ADC_REF_DIFF.IDLE]⟩] ++
  [⟨0x40090100, 4, 48, [ADC_SLOT_A.CLAIM, ADC_SLOT_A.MODE, ADC_SLOT_A.CH2, ADC_SLOT_A.CH]⟩] ++
  [⟨0x40090200, 4, 48, [ADC_SLOT_B.CLAIM, ADC_SLOT_B.MODE, ADC_SLOT_B.CH2, ADC_SLOT_B.CH]⟩] ++
  [⟨0x40090400, 4, 256, [ADC_HK.CH]⟩] ++
  [⟨0x40090800, 4, 256, [ADC_HK_RES.VALID, ADC_HK_RES.VALUE]⟩] ++
  [⟨0x40090C00, 4, 16, [ADC_CHK.CH]⟩] ++
  [⟨0x40091000, 4, 32, [ADC_BSHUNT.SHUNT]⟩] ++
  [⟨0x40091080, 4, 2, [ADC_FSHUNT.SHUNT]⟩] ++
  [⟨0x40091088, 0, 1, [ADC_PSHUNT.SHUNT]⟩] ++
  [⟨0x4009108C, 0, 1, [ADC_CSHUNT.SHUNT]⟩] ++
  [⟨0x400A0000, 32, 128, [ACC_CFG.CLAIM, ACC_CFG.EN, ACC_CFG.WIN, ACC_CFG.CH]⟩] ++
  [⟨0x400A0004, 32, 128, [ACC_CNT.VALUE]⟩] ++
  [⟨0x400A0008, 32, 128, [ACC_SUM_LO.VALUE]⟩] ++
  [⟨0x400A000C, 32, 128, [ACC_SUM_HI.VALUE]⟩] ++
  [⟨0x400A0010, 32, 128, [ACC_SUMSQ_LO.VALUE]⟩] ++
  [⟨0x400A0014, 32, 128, [ACC_SUMSQ_HI.VALUE]⟩] ++
  [⟨0x400A0018, 32, 128, [ACC_STAT.SEQ, ACC_STAT.SAT, ACC_STAT.PSN_CNT]⟩] ++
  [⟨0x400A4000, 16, 128, [ACC_TRK_CFG.CLAIM, ACC_TRK_CFG.EN, ACC_TRK_CFG.WIN, ACC_TRK_CFG.CH]⟩] ++
  [⟨0x400A4004, 16, 128, [ACC_TRK_MINMAX.MAX, ACC_TRK_MINMAX.MIN]⟩] ++
  [⟨0x400A4008, 16, 128, [ACC_TRK_TMIN.TICK]⟩] ++
  [⟨0x400A400C, 16, 128, [ACC_TRK_TMAX.TICK]⟩] ++
  [⟨0x400A8000, 4, 4, [ACC_LATCH.REQ]⟩] ++
  [⟨0x400A8010, 4, 4, [ACC_TLATCH.REQ]⟩] ++
  [⟨0x50000040, 0, 1, [LEGACY_ADC_DATA.TICK16, LEGACY_ADC_DATA.OVR, LEGACY_ADC_DATA.NEW, LEGACY_ADC_DATA.CODE]⟩] ++
  [⟨0x50000044, 0, 1, [LEGACY_ADC_CTL.EN, LEGACY_ADC_CTL.NOCONV, LEGACY_ADC_CTL.RATE, LEGACY_ADC_CTL.CH]⟩]

/-- The registers of spec/08_comparators_thermal.md. -/
def regs08 : List RegD :=
  [⟨0x400B0000, 16, 32, [MON_CFG.CLAIM, MON_CFG.MQUAL, MON_CFG.BLANK, MON_CFG.STBY_EN, MON_CFG.FLT_OV, MON_CFG.FLT_UV, MON_CFG.DIV]⟩] ++
  [⟨0x400B0004, 16, 32, [MON_THR.HI, MON_THR.LO]⟩] ++
  [⟨0x400B0008, 16, 32, [MON_STAT.DAC_ERR, MON_STAT.STBY_EXC, MON_STAT.RB_SEL, MON_STAT.HELD, MON_STAT.CORE, MON_STAT.STATE]⟩] ++
  [⟨0x400B0200, 4, 8, [BLANK_CFG.CLAIM, BLANK_CFG.SRC, BLANK_CFG.SEL, BLANK_CFG.LEN]⟩] ++
  [⟨0x400B0300, 0, 1, [CMP_CFG.SHADOW_MON, CMP_CFG.SP1_MON, CMP_CFG.SP0_MON, CMP_CFG.DAC_TOL]⟩] ++
  [⟨0x400B0304, 0, 1, [CMP_COUNTS.CMP_TRANSIENT]⟩] ++
  [⟨0x400B0308, 0, 1, [CMP_GOOD.MAP]⟩] ++
  [⟨0x400C0000, 32, 12, [TS_CFG.WIN_SR, TS_CFG.ALLOW, TS_CFG.BROKEN_QUAL, TS_CFG.TYPE]⟩] ++
  [⟨0x400C0004, 32, 12, [TS_NBR.NBR]⟩] ++
  [⟨0x400C0008, 32, 12, [TS_RATE.RATE, TS_RATE.RATE_LIM]⟩] ++
  [⟨0x400C000C, 32, 12, [TS_NTC.BETA, TS_NTC.RNOM]⟩] ++
  [⟨0x400C0010, 32, 12, [TS_RPU.NF, TS_RPU.RPU]⟩] ++
  [⟨0x400C0014, 32, 12, [TS_VAL.OWN, TS_VAL.USED]⟩] ++
  [⟨0x400C0018, 32, 12, [TS_STAT.TTHR_EXC, TS_STAT.ABS_EXC, TS_STAT.RATE_EXC, TS_STAT.NO_NEIGH, TS_STAT.BROKEN]⟩] ++
  [⟨0x400C001C, 32, 12, [TS_LIM.TABS_MAX, TS_LIM.TTHR]⟩] ++
  [⟨0x400C0200, 0, 1, [THERM_BROKEN.SHUTDOWN, THERM_BROKEN.MAP]⟩] ++
  [⟨0x400C0300, 16, 4, [THR_CFG.ENF, THR_CFG.SRC_PACK, THR_CFG.LOOP, THR_CFG.SRC_RATE, THR_CFG.SRC_TTHR]⟩] ++
  [⟨0x400C0304, 16, 4, [THR_ENF.ENF_ILIM, THR_ENF.REL_SR, THR_ENF.ENF_IDX]⟩] ++
  [⟨0x400C0308, 16, 4, [THR_CTL.ENFORCED, THR_CTL.ACTIVE, THR_CTL.HOST_REQ, THR_CTL.GRACE]⟩]

/-- The registers of spec/09_sequencing.md. -/
def regs09 : List RegD :=
  [⟨0x400D0000, 32, 8, [SEQ_GRP_CFG.DOMAIN, SEQ_GRP_CFG.START_SRC, SEQ_GRP_CFG.T_OFF_MIN, SEQ_GRP_CFG.DROP_QUAL, SEQ_GRP_CFG.FIRST]⟩] ++
  [⟨0x400D0004, 32, 8, [SEQ_GRP_STEPS.COUNT]⟩] ++
  [⟨0x400D0008, 32, 8, [SEQ_GRP_CTL.ALLOFF_REQ, SEQ_GRP_CTL.ACK, SEQ_GRP_CTL.STOP, SEQ_GRP_CTL.START]⟩] ++
  [⟨0x400D000C, 32, 8, [SEQ_GRP_STATE.CFG_REJ, SEQ_GRP_STATE.OWN_REJ, SEQ_GRP_STATE.ACK_REJ, SEQ_GRP_STATE.TOK_LATE, SEQ_GRP_STATE.START_PEND, SEQ_GRP_STATE.CAUSE, SEQ_GRP_STATE.STEP, SEQ_GRP_STATE.STATE]⟩] ++
  [⟨0x400D0010, 32, 8, [SEQ_GRP_FAULT.STOP, SEQ_GRP_FAULT.OUT, SEQ_GRP_FAULT.STEP]⟩] ++
  [⟨0x400D0014, 32, 8, [SEQ_GRP_TICK_LO.TICK]⟩] ++
  [⟨0x400D0018, 32, 8, [SEQ_GRP_TICK_HI.TICK]⟩] ++
  [⟨0x400D1000, 32, 64, [SEQ_STEP_OUT_LO.MASK]⟩] ++
  [⟨0x400D1004, 32, 64, [SEQ_STEP_OUT_HI.MASK]⟩] ++
  [⟨0x400D1008, 32, 64, [SEQ_STEP_QUAL.DELAY, SEQ_STEP_QUAL.QUAL]⟩] ++
  [⟨0x400D100C, 32, 64, [SEQ_STEP_TMO.TMO]⟩] ++
  [⟨0x400D1010, 32, 64, [SEQ_STEP_OFF.OFF_DLY, SEQ_STEP_OFF.OFF_TMO]⟩] ++
  [⟨0x400D1014, 32, 64, [SEQ_STEP_TOK.WAIT_EN, SEQ_STEP_TOK.WAIT_ID, SEQ_STEP_TOK.EMIT_EN, SEQ_STEP_TOK.EMIT_ID]⟩] ++
  [⟨0x400D2000, 4, 64, [SEQ_OUT_CFG.POL, SEQ_OUT_CFG.MON, SEQ_OUT_CFG.PG_SRC, SEQ_OUT_CFG.GROUP]⟩] ++
  [⟨0x400D3000, 0, 1, [SEQ_DOMAIN.ALLOFF_LINE, SEQ_DOMAIN.FH_DRIVE, SEQ_DOMAIN.FH_LEVEL, SEQ_DOMAIN.FH_IN_COUNT]⟩] ++
  [⟨0x400D3004, 0, 1, [SEQ_TIMING.TOK_LEAD, SEQ_TIMING.FH_MIN]⟩]

/-- The registers of spec/10_keepalive_battery.md. -/
def regs10 : List RegD :=
  [⟨0x400E0000, 0, 1, [KEEP_CFG.KEEP_ON, KEEP_CFG.KEEP_STBY, KEEP_CFG.REV_MV, KEEP_CFG.FWD_MV]⟩] ++
  [⟨0x400E0004, 0, 1, [KEEP_STATUS.KSTATE, KEEP_STATUS.KEEP_COND, KEEP_STATUS.HO_STATE, KEEP_STATUS.PACK_PRESENT, KEEP_STATUS.SD_RUN, KEEP_STATUS.DWELL_CNT]⟩] ++
  [⟨0x400E0008, 0, 1, [HO_CFG.DWELL_MS]⟩] ++
  [⟨0x400E000C, 0, 1, [HO_SD.SD_GROUPS, HO_SD.SD_STBY, HO_SD.SD_TMO]⟩] ++
  [⟨0x400E0010, 0, 1, [HO_COUNT.HANDOVERS, HO_COUNT.DWELL_RESTARTS]⟩] ++
  [⟨0x400E0014, 0, 1, [HO_TICK_LO.TICK]⟩] ++
  [⟨0x400E0018, 0, 1, [HO_TICK_HI.TICK]⟩] ++
  [⟨0x400E001C, 0, 1, [KBUS_WIN.QUAL, KBUS_WIN.KBUS_UV]⟩] ++
  [⟨0x400E0020, 0, 1, [SD_REMAIN.MS]⟩] ++
  [⟨0x400E0040, 0, 1, [CHG_CFG.CFG_REJ, CHG_CFG.L_SEL]⟩] ++
  [⟨0x400E0044, 0, 1, [CHG_CTL.SUSPEND, CHG_CTL.EN]⟩] ++
  [⟨0x400E0048, 0, 1, [CHG_SET.VCELL_REG, CHG_SET.ICHG]⟩] ++
  [⟨0x400E004C, 0, 1, [CHG_PROF_V.VMAX]⟩] ++
  [⟨0x400E0050, 0, 1, [CHG_PROF_AJ.JMAX, CHG_PROF_AJ.AMAX]⟩] ++
  [⟨0x400E0058, 0, 1, [CHG_SESSION.SESSION_H, CHG_SESSION.ELAPSED]⟩] ++
  [⟨0x400E005C, 0, 1, [CHG_STATE.CAUSE, CHG_STATE.STATE]⟩] ++
  [⟨0x400E0060, 0, 1, [CHG_FAULT_FLAGS.FLAGS]⟩] ++
  [⟨0x400E0064, 0, 1, [CHG_LIM.VCELL_MAX, CHG_LIM.ICHG_MAX]⟩] ++
  [⟨0x400E0068, 0, 1, [CHG_TLIM.TCHG_HI, CHG_TLIM.TCHG_LO]⟩] ++
  [⟨0x400E006C, 0, 1, [CHG_MEAS.VBAT, CHG_MEAS.IBAT]⟩] ++
  [⟨0x400E0080, 0, 1, [PACK_CFG.AUTH_REQ, PACK_CFG.AUTH_ADDR, PACK_CFG.PD_QUAL, PACK_CFG.CELLS, PACK_CFG.JUMP_MV]⟩] ++
  [⟨0x400E0084, 0, 1, [PACK_NTC.BETA, PACK_NTC.RNOM]⟩] ++
  [⟨0x400E0088, 0, 1, [PACK_AUTH_STAT.AUTH, PACK_AUTH_STAT.KEY, PACK_AUTH_STAT.ATTEMPTS, PACK_AUTH_STAT.PACK_SWAP, PACK_AUTH_STAT.FAIL_CODE]⟩] ++
  [⟨0x400E008C, 0, 1, [PACK_ID.PACK_ID]⟩] ++
  [⟨0x400E0090, 0, 1, [AUTH_TIME.AUTH_TMO, AUTH_TIME.AUTH_WAIT]⟩] ++
  [⟨0x400F0000, 0, 1, [GAUGE_CFG.DESIGN_CAP, GAUGE_CFG.OCV_UNC, GAUGE_CFG.IWAKE]⟩] ++
  [⟨0x400F0004, 0, 1, [GAUGE_REST.REST_I, GAUGE_REST.T_REST]⟩] ++
  [⟨0x400F0008, 0, 1, [GAUGE_END.VEOC, GAUGE_END.VEOD]⟩] ++
  [⟨0x400F000C, 0, 1, [GAUGE_TAPER.I_TAPER]⟩] ++
  [⟨0x400F0010, 4, 11, [GAUGE_OCV.MV]⟩] ++
  [⟨0x400F003C, 0, 1, [GAUGE_OCV_TC.TC]⟩] ++
  [⟨0x400F0040, 4, 5, [GAUGE_RINT.R]⟩] ++
  [⟨0x400F0054, 0, 1, [GAUGE_RT.RT_COEF]⟩] ++
  [⟨0x400F0060, 0, 1, [GAUGE_Q_LO.VALUE]⟩] ++
  [⟨0x400F0064, 0, 1, [GAUGE_Q_HI.VALUE]⟩] ++
  [⟨0x400F0068, 0, 1, [GAUGE_FCC_LO.VALUE]⟩] ++
  [⟨0x400F006C, 0, 1, [GAUGE_FCC_HI.VALUE]⟩] ++
  [⟨0x400F0070, 0, 1, [GAUGE_SOC.SOH, GAUGE_SOC.SOC]⟩] ++
  [⟨0x400F0074, 0, 1, [GAUGE_UNC.CYCLES, GAUGE_UNC.UNC]⟩] ++
  [⟨0x400F0080, 0, 1, [GAUGE_REST_AGE.S]⟩] ++
  [⟨0x400F0078, 0, 1, [GAUGE_FLAGS.IRANGE, GAUGE_FLAGS.NOREST, GAUGE_FLAGS.INVALID, GAUGE_FLAGS.REST, GAUGE_FLAGS.EOD, GAUGE_FLAGS.EOC, GAUGE_FLAGS.UNCERTAIN, GAUGE_FLAGS.RESTORED, GAUGE_FLAGS.UNLEARNED]⟩] ++
  [⟨0x400F007C, 0, 1, [GAUGE_LEARN.LSTATE, GAUGE_LEARN.INTR, GAUGE_LEARN.LAST_RESULT, GAUGE_LEARN.MINUTES]⟩] ++
  [⟨0x400F0100, 4, 16, [GAUGE_STAGE.WORD]⟩] ++
  [⟨0x400F0140, 0, 1, [GAUGE_COMMIT.CRC]⟩] ++
  [⟨0x400F0144, 0, 1, [GAUGE_RST.RST_ERR]⟩] ++
  [⟨0x400F0180, 4, 16, [GAUGE_SAVE.WORD]⟩]

/-- The registers of spec/11_bivouac.md. -/
def regs11 : List RegD :=
  [⟨0x40100020, 0, 1, [BIV_RTC_EPOCH.SECONDS]⟩] ++
  [⟨0x40100024, 0, 1, [BIV_TRIM.TRIM]⟩] ++
  [⟨0x40100028, 0, 1, [BIV_MEAS.MEAS_START, BIV_MEAS.MEAS_DONE, BIV_MEAS.MEAS_ERR, BIV_MEAS.TICKS]⟩] ++
  [⟨0x4010002C, 0, 1, [BIV_ALARM.ALARM]⟩] ++
  [⟨0x40100030, 0, 1, [BIV_ALARM_CTL.ALARM_PAST, BIV_ALARM_CTL.ALARM_FLAG, BIV_ALARM_CTL.ALARM_EN]⟩] ++
  [⟨0x40100034, 0, 1, [BIV_WAKE_CFG.WO_CURRENT, BIV_WAKE_CFG.WO_ALARM, BIV_WAKE_CFG.WO_WAKEIN, BIV_WAKE_CFG.WAKE_EN]⟩] ++
  [⟨0x40100038, 0, 1, [BIV_WAKE_CAUSE.CAUSE]⟩] ++
  [⟨0x4010003C, 0, 1, [BIV_WAKEOUT.PIN, BIV_WAKEOUT.WAKE_IN, BIV_WAKEOUT.WO_LATCH, BIV_WAKEOUT.WO_HOLD]⟩] ++
  [⟨0x40100040, 0, 1, [BIV_SWITCH_STAMP.SECONDS]⟩] ++
  [⟨0x40100044, 0, 1, [BIV_SWITCH_CTL.SW_CLR, BIV_SWITCH_CTL.SW_VALID]⟩] ++
  [⟨0x40100048, 0, 1, [BIV_LAST_SD.SD_VALID, BIV_LAST_SD.DEV_STATE, BIV_LAST_SD.FAULT_SRC, BIV_LAST_SD.REASON]⟩] ++
  [⟨0x4010004C, 0, 1, [BIV_STBY_CTL.STBY_REJ, BIV_STBY_CTL.OFF_REQ, BIV_STBY_CTL.STBY_REQ]⟩]

/-- The registers of spec/12_faults_watchdog.md. -/
def regs12 : List RegD :=
  [⟨0x40110000, 0, 1, [FAULT_STATUS_LO.SRC]⟩] ++
  [⟨0x40110004, 0, 1, [FAULT_STATUS_HI.SRC]⟩] ++
  [⟨0x40110008, 0, 1, [FIRST_FAULT.VALID, FIRST_FAULT.MORE, FIRST_FAULT.SEV, FIRST_FAULT.SRC, FIRST_FAULT.TICK16]⟩] ++
  [⟨0x4011000C, 0, 1, [FIRST_TICK_LO.TICK]⟩] ++
  [⟨0x40110010, 0, 1, [FIRST_TICK_HI.TICK]⟩] ++
  [⟨0x40110020, 4, 4, [FAULT_SEV.SEV]⟩] ++
  [⟨0x40110030, 0, 1, [FAULT_CTL.SAFE_EXIT]⟩] ++
  [⟨0x40110034, 0, 1, [FAULT_STATE.EXIT_REJ, FAULT_STATE.HALT_STUCK, FAULT_STATE.PERMANENT, FAULT_STATE.SAFE_LINE, FAULT_STATE.HALT_COUNT, FAULT_STATE.REACT]⟩] ++
  [⟨0x40110040, 0, 1, [FAULT_HIST_HEAD.TOTAL, FAULT_HIST_HEAD.NEWEST]⟩] ++
  [⟨0x40110100, 16, 16, [FAULT_HIST_TICK_LO.TICK]⟩] ++
  [⟨0x40110104, 16, 16, [FAULT_HIST_TICK_HI.TICK]⟩] ++
  [⟨0x40110108, 16, 16, [FAULT_HIST_INFO.MERGED, FAULT_HIST_INFO.MULTI, FAULT_HIST_INFO.SEV, FAULT_HIST_INFO.SRC, FAULT_HIST_INFO.DETAIL]⟩] ++
  [⟨0x40120000, 0, 1, [WD_CFG.TASKS, WD_CFG.LOCKED, WD_CFG.PERIOD_MS]⟩] ++
  [⟨0x40120004, 0, 1, [WD_CTL.LOCK]⟩] ++
  [⟨0x40120008, 0, 1, [WD_CHECKIN.TASK]⟩] ++
  [⟨0x4012000C, 0, 1, [WD_KEY.KEY]⟩] ++
  [⟨0x40120010, 0, 1, [WD_STATUS.SEEN, WD_STATUS.DOUBLE]⟩] ++
  [⟨0x40120014, 0, 1, [WD_STATE.LAST_FIND, WD_STATE.UNREG, WD_STATE.KEYA_PEND, WD_STATE.MODE]⟩] ++
  [⟨0x40120018, 0, 1, [WD_REMAIN.TICKS]⟩] ++
  [⟨0x4012001C, 0, 1, [WD_COUNT.REFUSED, WD_COUNT.CLOSED]⟩]

/-- The registers of spec/13_memories_otp.md. -/
def regs13 : List RegD :=
  [⟨0x40130000, 4, 3, [ECC_CNT.UNC, ECC_CNT.PAGE, ECC_CNT.CORR]⟩] ++
  [⟨0x4013000C, 0, 1, [ECC_LAST_ADDR.ADDR]⟩] ++
  [⟨0x40130010, 0, 1, [ECC_LAST_INFO.MEM, ECC_LAST_INFO.KIND, ECC_LAST_INFO.TICK16]⟩] ++
  [⟨0x40130014, 0, 1, [ECC_PAGE_STAT.MISMATCH]⟩] ++
  [⟨0x40130020, 0, 1, [ECC_TEST_CTL.EN, ECC_TEST_CTL.TEST_REJ, ECC_TEST_CTL.PAGE_HOLD, ECC_TEST_CTL.READ, ECC_TEST_CTL.GO]⟩] ++
  [⟨0x40130024, 0, 1, [ECC_TEST_ADDR.VALUE]⟩] ++
  [⟨0x40130028, 0, 1, [ECC_TEST_DATA_LO.VALUE]⟩] ++
  [⟨0x4013002C, 0, 1, [ECC_TEST_DATA_HI.VALUE]⟩] ++
  [⟨0x40130030, 0, 1, [ECC_TEST_CHK.MARK, ECC_TEST_CHK.CHK]⟩] ++
  [⟨0x4013003C, 0, 1, [ECC_RAW_CHK.MARK, ECC_RAW_CHK.CHK]⟩] ++
  [⟨0x40130034, 0, 1, [ECC_RAW_DATA_LO.DATA]⟩] ++
  [⟨0x40130038, 0, 1, [ECC_RAW_DATA_HI.DATA]⟩] ++
  [⟨0x40130040, 0, 1, [SCRUB_START.ADDR]⟩] ++
  [⟨0x40130044, 0, 1, [SCRUB_END.ADDR]⟩] ++
  [⟨0x40130048, 0, 1, [SCRUB_CTL.GO, SCRUB_CTL.ABORT, SCRUB_CTL.RATE]⟩] ++
  [⟨0x4013004C, 0, 1, [SCRUB_STATUS.BUSY, SCRUB_STATUS.DONE, SCRUB_STATUS.ABORTED, SCRUB_STATUS.REFUSED, SCRUB_STATUS.MISMATCH]⟩] ++
  [⟨0x40130050, 0, 1, [SCRUB_READ.WORDS]⟩] ++
  [⟨0x40130054, 0, 1, [SCRUB_CORR.PAGES, SCRUB_CORR.WORDS]⟩] ++
  [⟨0x40130058, 0, 1, [SCRUB_UNC.WORDS]⟩] ++
  [⟨0x4013005C, 0, 1, [SCRUB_FIRST.ADDR]⟩] ++
  [⟨0x40140000, 0, 1, [OTP_ADDR.INDEX]⟩] ++
  [⟨0x40140004, 0, 1, [OTP_DATA.DATA]⟩] ++
  [⟨0x40140008, 0, 1, [OTP_CMD.KEY, OTP_CMD.CMD]⟩] ++
  [⟨0x4014000C, 0, 1, [OTP_STATUS.BUSY, OTP_STATUS.ERR, OTP_STATUS.REDIR_USED, OTP_STATUS.FINAL, OTP_STATUS.MAXPULSE]⟩] ++
  [⟨0x40140010, 0, 1, [OTP_MINORITY.COUNT]⟩] ++
  [⟨0x40140040, 4, 32, [OTP_CNT.VALUE]⟩]

/-- The registers of spec/14_logbook.md. -/
def regs14 : List RegD :=
  [⟨0x40150000, 0, 1, [LOG_NEXT.SEQ]⟩] ++
  [⟨0x40150004, 0, 1, [LOG_OLDEST.SEQ]⟩] ++
  [⟨0x40150008, 0, 1, [LOG_STATUS.CLEARING, LOG_STATUS.DROP_RUN, LOG_STATUS.WRITING, LOG_STATUS.ERASING, LOG_STATUS.ANCHOR_FULL, LOG_STATUS.QUEUED]⟩] ++
  [⟨0x4015000C, 0, 1, [LOG_COUNTS.DROPPED, LOG_COUNTS.TORN]⟩] ++
  [⟨0x40150010, 0, 1, [LOG_CTL.SNAP]⟩] ++
  [⟨0x40150400, 4, 768, [LOG_LIST.ADDR, LOG_LIST.VALID]⟩]

/-- The registers of spec/15_firmware_config.md. -/
def regs15 : List RegD :=
  [⟨0x40000200, 0, 1, [BOOT_STATUS.NOCFG, BOOT_STATUS.RECOVERY, BOOT_STATUS.LIMITS_OPEN, BOOT_STATUS.LIM_IGN, BOOT_STATUS.PATCH_MAP, BOOT_STATUS.CFG_RESULT, BOOT_STATUS.CFG_SLOT, BOOT_STATUS.PILOT_SLOT, BOOT_STATUS.PENDING, BOOT_STATUS.REVERTED, BOOT_STATUS.TRIES]⟩] ++
  [⟨0x40000204, 0, 1, [BOOT_POLICY.CFG_SIG_REQ]⟩] ++
  [⟨0x40000208, 4, 2, [CFG_SEQ.SEQ]⟩] ++
  [⟨0x40000210, 0, 1, [CFG_REJECT.CODE]⟩] ++
  [⟨0x40000214, 0, 1, [CFG_REJECT_REC.HOLDER, CFG_REJECT_REC.CLAIMANT]⟩] ++
  [⟨0x40000218, 4, 2, [PILOT_VER.VERSION]⟩] ++
  [⟨0x40000220, 0, 1, [SPARE_LEFT_0.SENSE_AMP, SPARE_LEFT_0.CMP_CORE, SPARE_LEFT_0.CHARGE_PUMP, SPARE_LEFT_0.SYSPLL, SPARE_LEFT_0.BANDGAP, SPARE_LEFT_0.ENGINE, SPARE_LEFT_0.CONVERTER]⟩] ++
  [⟨0x40000224, 0, 1, [SPARE_LEFT_1.OTP_ROW, SPARE_LEFT_1.FLASH_BLOCK, SPARE_LEFT_1.SRAM_ROW]⟩] ++
  [⟨0x40000230, 0, 1, [SYS_RESTART.KEY]⟩] ++
  [⟨0x40000234, 0, 1, [PILOT_READY.READY]⟩]

/-- The registers of spec/16_host_links.md. -/
def regs16 : List RegD :=
  [⟨0x40160000, 4, 4, [HOST_PORT_CFG.CLASS, HOST_PORT_CFG.ATTN_PIN, HOST_PORT_CFG.ATTN_MASK]⟩] ++
  [⟨0x40160010, 0, 1, [HOST_TW_CFG.TW1_TGT, HOST_TW_CFG.TW1_ADDR, HOST_TW_CFG.NOTIFY_EN, HOST_TW_CFG.NOTIFY_ADDR, HOST_TW_CFG.NOTIFY_GAP, HOST_TW_CFG.TW0_ADDR]⟩] ++
  [⟨0x40160020, 4, 4, [HOST_PORT_ERR.HUNG, HOST_PORT_ERR.ARB_STOP, HOST_PORT_ERR.BAD_FRAME, HOST_PORT_ERR.CRC_ERR]⟩] ++
  [⟨0x40160030, 0, 1, [QUAY_CFG.EXEC_TMO]⟩] ++
  [⟨0x40160034, 0, 1, [QP_TAKE.VALID, QP_TAKE.PORT, QP_TAKE.QUAY]⟩] ++
  [⟨0x40160038, 0, 1, [QP_POST.POST]⟩] ++
  [⟨0x40160100, 8, 32, [LEASE_RES.HANDLE, LEASE_RES.PORT, LEASE_RES.KIND, LEASE_RES.INDEX]⟩] ++
  [⟨0x40160104, 8, 32, [LEASE_EXP.TICK]⟩] ++
  [⟨0x40160400, 0, 1, [HW_CFG.NODE_ID, HW_CFG.MASTER_ID, HW_CFG.BCAST_TX, HW_CFG.ZONE_TX]⟩] ++
  [⟨0x40160404, 0, 1, [HW_CFG2.ZONE_RX, HW_CFG2.RELAY_NODE]⟩] ++
  [⟨0x40160408, 0, 1, [HW_STATUS.DUP_ID, HW_STATUS.WRAP_A, HW_STATUS.WRAP_B, HW_STATUS.UP_A, HW_STATUS.UP_B]⟩] ++
  [⟨0x4016040C, 0, 1, [HW_COUNT.BCAST_RX, HW_COUNT.DROPPED, HW_COUNT.CRC_ERR]⟩] ++
  [⟨0x40160410, 0, 1, [HW_LINK.CABLE_B, HW_LINK.CABLE_A]⟩]

/-- Every register of the map. -/
def regMap : List RegD :=
  regs01 ++ regs02 ++ regs03 ++ regs04 ++ regs05 ++ regs06 ++ regs07 ++ regs08 ++ regs09 ++ regs10 ++ regs11 ++ regs12 ++ regs13 ++ regs14 ++ regs15 ++ regs16

end Sys2Proof.Machine
end

