-- ==== Sys2Proof/Machine/Block.lean ====
section
/-! DEFINITION. What the device holds beside its memories, its tick counter and its command queue: the register
fields, the input signals as last latched, and the state of each block that no register field shows. -/
namespace Sys2Proof.Machine

/-- Who makes a register access: Keeper, Pilot, the data engine Tender, or the host port `p` (0 SPI, 1 TW0, 2 TW1,
3 the ring relay). -/
inductive Writer where
  | keeper | pilot | tender
  | port (p : Nat)
  deriving DecidableEq, Repr

/-- The input signals the environment drives, each an integer. `cal c`: calibrated value of channel `c` (unit of the
table Channel codes). `raw c`: its raw 14-bit code. `dev k c`, `rawDev k c`: what converter `k` (0 A, 1 B, 2 S) adds to
either. `parity k c`: nonzero = the result arrives with bad parity (R172); `c` = 0x3F0 + j is input `j` of slot 49. `ref k j`: raw result of input `j` of slot 49
on converter `k` (R186). -/
inductive Sig where
  | cal (c : Nat) | raw (c : Nat) | dev (k c : Nat) | rawDev (k c : Nat) | parity (k c : Nat) | ref (k j : Nat)
  /-- Level of VSEL pin `k`; nonzero = a partner pulls FOGHORN low; PACK_DET is low; the ADDR_SEL code. -/
  | vsel (k : Nat) | foghorn | packDet | addrSel
  /-- Forward voltage of feed `n` and of KEEP in µV. -/
  | feedFwd (n : Nat) | keepFwd
  /-- Current-limit comparator of LDO `n`; the shadowing core's result on monitor `nn` where it differs: 1 + result, 0 =
  the same (R205). -/
  | ldoLimit (n : Nat) | monShadow (nn : Nat)
  /-- A bit error in engine-store word `k`: its value is the bit, 0 to 31 data, 32 to 38 check bits, 39 to 41 the mark (R318). -/
  | engUpset (k : Nat)
  /-- What a faulty engine (`spare` 0) or LE4 (1) adds to word `w` of task `inst` of type `kind` in a tick (R168, R169). -/
  | engSlip (spare kind inst w : Nat)
  /-- A buck's switch node in ns from its on-edge: the comparator at the commanded peak, the inductor current at zero, at the negative
  limit (R133, R134). -/
  | buckPeakAt (n : Nat) | buckZeroAt (n : Nat) | buckNegAt (n : Nat)
  /-- Engine `e` (0 to 3 LE, 4 ME, 5 LE4): cycle of its last tail; nonzero = a tail was not done by the edge. -/
  | engFinish (e : Nat) | engOverrun (e : Nat)
  /-- Departure of monitored domain `d` from its nominal count in 0.01 % (R17); HRPLL lock. -/
  | domainDev (d : Nat) | hrpllLock
  /-- XIN present (R19). -/
  | xin
  /-- Outcome of the in-service injection test of unit `u` (R384): nonzero = failed. -/
  | injection (u : Nat)
  /-- Nonzero = the structure named has failed its check: 0 Keeper pair lockstep. -/
  | lockstep
  /-- Nonzero = copy `c` of the word an OTP command programs still fails after 8 pulses; spare row `r` fails; the most
  pulses a bit needed (R338, R339). -/
  | otpFail (c : Nat) | otpSpareFail (r : Nat) | otpPulses
  /-- Nonzero = the verify of a flash program or erase fails (R384). -/
  | flashFail
  /-- Nonzero = the shutdown comparator of quadrant `q` reports above 160 °C; below 140 °C (R214). -/
  | dieHot (q : Nat) | dieCool (q : Nat)
  /-- A bit error in the stored word at an address of SRAM, flash or ROM; its value is the bit, 0 to 63 data, 64 to 71 check, 72 to 74 the
  mark, 75 to 82 the parity byte of the address (R318, R320). -/
  | upset (a : Nat)
  /-- Nonzero = the receive pair of ring side `s` is held at GND (R440); nonzero = its receiver sees no carrier in the tick (R407). -/
  | hwGnd (s : Nat) | hwQuiet (s : Nat)
  /-- VIO, AVDD and VDDC in mV; nonzero = SYSPLL is locked (R447). -/
  | vio | avdd | vddc | pllLock
  deriving DecidableEq, Repr

/-- The place of a signal in the table of latched inputs. -/
def Sig.key : Sig → Nat
  | .cal c => 0x100000 + c
  | .raw c => 0x110000 + c
  | .dev k c => 0x120000 + k * 0x1000 + c
  | .rawDev k c => 0x130000 + k * 0x1000 + c
  | .parity k c => 0x140000 + k * 0x1000 + c
  | .ref k j => 0x150000 + k * 16 + j
  | .vsel k => 0x160000 + k
  | .foghorn => 0x170000
  | .packDet => 0x170002
  | .addrSel => 0x170003
  | .feedFwd n => 0x180000 + n
  | .keepFwd => 0x180010
  | .ldoLimit n => 0x190000 + n
  | .monShadow nn => 0x190100 + nn
  | .engUpset k => 0x300000 + k
  | .engSlip spare kind inst w => 0x220000 + spare * 0x1000 + kind * 0x80 + inst * 16 + w
  | .buckPeakAt n => 0x1A1000 + n
  | .buckZeroAt n => 0x1A1010 + n
  | .buckNegAt n => 0x1A1020 + n
  | .engFinish e => 0x1B0000 + e
  | .engOverrun e => 0x1B0010 + e
  | .domainDev d => 0x1C0000 + d
  | .hrpllLock => 0x1C0020
  | .xin => 0x1C0021
  | .injection u => 0x1E0000 + u
  | .lockstep => 0x1F0000
  | .hwGnd s => 0x1F0030 + s
  | .hwQuiet s => 0x1F0038 + s
  | .vio => 0x170004
  | .avdd => 0x170005
  | .vddc => 0x170006
  | .pllLock => 0x1C0022
  | .upset a => 0x100000000 + a
  | .dieHot q => 0x1F0200 + q
  | .dieCool q => 0x1F0210 + q
  | .otpFail c => 0x1F0010 + c
  | .otpSpareFail r => 0x1F0100 + r
  | .otpPulses => 0x1F0020
  | .flashFail => 0x1F0021

/-- The event that acted on an object in a tick: the tick plus 1, its place in the order of events (R38, R122, R139),
and the state it found. -/
structure Evt where
  tk : Nat := 0
  prio : Nat := 0
  found : Nat := 0
  deriving DecidableEq, Repr

/-- The objects whose events of one tick have an order. -/
inductive Obj where
  | none | berth (n : Nat) | loop (n : Nat) | buck (n : Nat) | ldo (n : Nat) | grp (n : Nat) | chg
  deriving DecidableEq, Repr

/-- The place of an object in the table of events. -/
def Obj.key : Obj → Nat
  | .none => 0
  | .berth n => 0x100 + n
  | .loop n => 0x200 + n
  | .buck n => 0x300 + n
  | .ldo n => 0x400 + n
  | .grp n => 0x500 + n
  | .chg => 0x600

/-- An error line raised and not yet latched by the collector: source, DETAIL (R301), object and tick. -/
structure Line where
  src : Nat
  detail : Nat
  obj : Obj
  tk : Nat
  deriving DecidableEq, Repr

/-- A write on its way to the next tick edge (R460). -/
structure Staged where
  who : Writer
  origin : Nat
  addr : Nat
  val : Nat
  deriving DecidableEq, Repr

/-- The last sample of a channel: calibrated value, raw code, the converter that made it (0 A, 1 B, 2 S), poison mark, tick of
sampling, and the tick of delivery plus 1 (0 = none delivered yet). -/
structure Smp where
  cal : Int := 0
  raw : Nat := 0
  conv : Nat := 0
  psn : Bool := false
  at_ : Nat := 0
  tk : Nat := 0
  deriving DecidableEq, Repr

/-- The gate drive of a berth: off by the passive pull-down, slow drive in µA, full enhancement, hold latch, fast sink. -/
inductive Gate where
  | off
  | slow (ua : Rat)
  | full | hold | sink
  deriving DecidableEq, Repr

/-- What a berth slice and the ME hold for one berth beside its registers: gate drive (R52, R95), the off request seen
since the trip (R88), the class that wrote ON last (R90), profile (R45), gate loop integrator (R47), SOA terms in m°C
(R48), power of the last tick in W, done count (R51), ticks in INRUSH (R53), remaining hold in ticks (R68), a fast trip
waiting for its record (R75), VOUT now and in the tick before in mV (R56), twin nodes in 2^-16 m°C (R77), live and last beat sum
of squared current in A² (R76), the last current samples with their ticks of sampling, in A (R75), ticks left of the retry window
(R91), the edge whose fast trip has its TRIP_I to write (R75), the decay factors that a Keeper restart found in force, until an
image is loaded or one is written (R67), VNET - VOUT of the last tick in V (R44). -/
structure Berth where
  gate : Gate := .off
  zeroAt : Option Nat := none
  origin : Nat := 3
  prof : Prof := {}
  integ : Rat := 0
  terms : List Rat := [0, 0, 0]
  power : Rat := 0
  done : Nat := 0
  inTicks : Nat := 0
  holdLeft : Nat := 0
  holding : Bool := false
  tripped : Bool := false
  vNow : Rat := 0
  vPrev : Rat := 0
  tc : Int := 0
  tb : Int := 0
  live2 : Rat := 0
  beat2 : Rat := 0
  last16 : List (Nat × Rat) := []
  tripAt : Option Nat := none
  rd : Option (List Nat) := none
  drop : Rat := 0
  /-- A sample that the power of the last tick is taken from carried a poison mark (R25). -/
  psn : Bool := false
  winLeft : Option Nat := none
  /-- The token last held. -/
  tokWas : Nat := 7
  /-- CAUSE and the trip tick as they stood before the last trip, for a trip that another event of its tick replaces (R38). -/
  causeWas : Nat := 0
  tickWas : Nat := 0
  /-- The tick, plus 1, in which the last retry window closed, and RETRY_CNT then (R92). -/
  shutAt : Nat := 0
  shutCnt : Nat := 0
  deriving DecidableEq, Repr

/-- A feed controller beside its registers: held off after a reverse turn-off, ticks above REARM_MV (R59). -/
structure Feed where
  blocked : Bool := false
  rearm : Nat := 0
  deriving DecidableEq, Repr

/-- A run of consecutive ticks of one condition and whether its source was raised in this run (R63). -/
structure Run where
  n : Nat := 0
  raised : Bool := false
  deriving DecidableEq, Repr

/-- A multiphase loop and its compensator beside their registers: profile, compensator states s1 to s3 in 2^-24 and
duty computed (R146), lowered upper clamp (R109), carrier position (R104), ticks in PRECHECK and V0 (R119, R120), ticks
of SOFTSTART inside (R122), raw index run, qualified index (R115), shed and burst beat counts (R110, R113), DPWM periods from the next
edge to the end of the burst, asleep, length of the sleep, the last sleep was short (R113, R114), OV, UV and OC counts (R123, R124), duty held in OPEN (R154), throttle-enforced index (R217),
coefficient writes waiting for their edge (R159), window comparator at the last edge (R112: 0 low, 1 inside, 2 high). -/
structure Loop where
  prof : Prof := {}
  /-- The profile in force in the tick of the last advance, and that tick plus 1 (R149). -/
  profWas : Prof := {}
  advAt : Nat := 0
  /-- Ticks of the current or last OPEN (R156). -/
  openFor : Nat := 0
  s : List Int := [0, 0, 0]
  duty : Int := 0
  clamp : Option Int := none
  carrier : Nat := 0
  preTicks : Nat := 0
  v0 : Int := 0
  preMax : Int := 0
  inside : Nat := 0
  rawRun : Nat := 0
  qidx : Nat := 0
  shedBeats : Nat := 0
  burstBeats : Nat := 0
  burstLeft : Nat := 0
  /-- DPWM periods from the next edge to the first on-edge of a burst, plus 1; 0 = the burst has begun (R113). -/
  burstIn : Nat := 0
  /-- An active phase had its on-edge in the last tick (R199). -/
  edge : Bool := false
  asleep : Bool := false
  sleep : Nat := 0
  shortBefore : Bool := false
  ov : Nat := 0
  uv : Nat := 0
  oc : Nat := 0
  held : Int := 0
  enfIdx : Option Nat := none
  /-- Throttle enforcement of the loop has changed and is chosen anew at the next edge (R217 to R219). -/
  enfDue : Bool := false
  coef : List (Nat × Nat) := []
  cmp : Nat := 1
  samplePoison : Bool := false
  deriving DecidableEq, Repr

/-- A phase beside its registers: sum of the 8 samples of the running beat in A, their count, the mean of the last beat
in A, the trim in DPWM steps; for the tick that begins at the next edge the on-time in DPWM steps (`none` = MID), a pulse begun before
that edge and still under way (R106), the next on-edge skipped (R108), shed and completing its period (R110), at MID until the next
on-edge (R111). -/
structure Phase where
  sum : Rat := 0
  cnt : Nat := 0
  avg : Rat := 0
  trim : Rat := 0
  ton : Option Nat := none
  high : Bool := false
  skip : Bool := false
  shed : Bool := false
  wait : Bool := false
  deriving DecidableEq, Repr

/-- A buck beside its registers: ramp position in µV, integrator and command in mA (R132, R135), ticks inside the window,
ticks in SOFTSTART and in OPEN, counts of R136, pulse of the next tick skipped (R133). -/
structure Buck where
  ramp : Int := 0
  integ : Rat := 0
  icmd : Rat := 0
  inside : Nat := 0
  ssTicks : Nat := 0
  openTicks : Nat := 0
  ov : Nat := 0
  uv : Nat := 0
  oc : Nat := 0
  skipped : Bool := false
  deriving DecidableEq, Repr

/-- An LDO beside its registers: reference ramp in µV, counts of R142, output voltage of the tick before in µV (R141). -/
structure Ldo where
  ramp : Int := 0
  inside : Nat := 0
  ov : Nat := 0
  uv : Nat := 0
  oc : Nat := 0
  vPrev : Int := 0
  deriving DecidableEq, Repr

/-- A live accumulator (R188, R190). -/
structure Acc1 where
  sum : Int := 0
  sq : Nat := 0
  cnt : Nat := 0
  psn : Nat := 0
  sat : Bool := false
  ch : Option Nat := none
  deriving DecidableEq, Repr

/-- A live tracker (R191): least and greatest sample with their delivery ticks. -/
structure Trk1 where
  min : Option (Int × Nat) := none
  max : Option (Int × Nat) := none
  deriving DecidableEq, Repr

/-- A result of a converter slot: table (0 A, 1 B), slot, channel, calibrated value, raw code, poison, the converter that made it,
whether its entry is claimed (R178) and the housekeeping entry (R179), and S's result for the same slot while S shadows this
table: calibrated value, raw code, poison (R182). -/
structure Dlv where
  k : Nat
  slot : Nat
  ch : Nat
  cal : Int
  raw : Nat
  psn : Bool
  conv : Nat := 0
  use : Bool := true
  hk : Bool := false
  shadow : Option (Int × Nat × Bool) := none
  deriving DecidableEq, Repr

/-- What slot 48 converted in a tick: 0 an entry of the check list, 1 a check repeat, 2 an arbitration; the results of A and B. -/
structure Slot48 where
  kind : Nat
  x : Dlv
  y : Dlv
  deriving DecidableEq, Repr

/-- The converters beside their registers: the channel whose check repeat is due (R181), the entries of the check list held back
by repeats so far, the disputed channel that waits for its arbitration (R183), what slot 48 converted in the last tick, the
values decisions are due on (kind 0 dispute 1 check, A, B, S), the results of slots 40 to 47 that arrive in the next tick, what
was last delivered per table and slot, the samples of low-power mode, which only Keeper takes (R174), the housekeeping channel
and sums of the running round and of the last one, the slot 49 sums and counts of the running round and of the last one by
converter and input, the active and the idle bandgap of the round that ended, a round begun in or left by low-power mode,
shadowing begun, a legacy copy made and CH converted in this period (R193), the NEW and OVR bits of the ports and the ports
whose bits clear at the next edge (R194). -/
structure Adc where
  chkRepeat : Option Nat := none
  chkOff : Nat := 0
  arbWait : Option Nat := none
  s48 : Option Slot48 := none
  dec : List (Nat × Int × Int × Int) := []
  late : List Dlv := []
  lastDlv : Tab (Int × Nat) := []
  lp : Tab Smp := []
  calRole : Nat × Nat := (0, 1)
  conv : Bool := false
  hkCh : Nat := 0x3FF
  hkSum : Int := 0
  hkCnt : Nat := 0
  hkLast : Option (Nat × Int × Nat) := none
  /-- The latest housekeeping result of each channel in this boot (R207). -/
  hkOf : Tab (Option Int) := []
  calSum : Tab Int := []
  calCnt : Tab Nat := []
  calLast : Tab (Int × Nat) := []
  lpRound : Bool := true
  shadowing : Bool := false
  copied : Bool := false
  legNew : Nat := 0
  legOvr : Nat := 0
  legClear : Nat := 0
  deriving DecidableEq, Repr

/-- The device states of DEV_STATE. -/
inductive DevState where
  | powerup | boot | ready | run | safe | standby | off
  deriving DecidableEq, Repr

/-- The code of a device state in DEV_STATE. -/
def DevState.code : DevState → Nat
  | .powerup => 0
  | .boot => 1
  | .ready => 2
  | .run => 3
  | .safe => 4
  | .standby => 5
  | .off => 6

/-- A task of the engine lists (R22): engine (0 to 3 LE, 4 ME), task type and instance of its TASK record, sample slot. -/
structure Task where
  eng : Nat
  kind : Nat
  inst : Nat
  slot : Nat
  deriving DecidableEq, Repr

/-- The engines beside their registers: shadowing has begun (R168), no difference yet in this slow round, the engine whose list LE4
takes at the next edge (R169); the words of LE4's own copy that differ from the shadowed engine's, as type, instance, word and
difference; a run of the task list for LE4's copy; syndrome and mark of the words of the engine stores (R318). -/
structure Eng where
  shadowing : Bool := false
  clean : Bool := true
  takeOver : Option Nat := none
  /-- An engine that has overrun in this tick and whose list LE4 is to take (R384). -/
  overrun : Option Nat := none
  own : List (Nat × Nat × Nat × Rat) := []
  asSpare : Bool := false
  syn : Tab Nat := []
  mark : Tab Nat := []
  /-- Data bits in which a state word without a register differs from what was written (R318), by word and as a mask. -/
  err : Tab Nat := []
  /-- What LE4's copy of the state has beyond the shadowed engine's since a bit error of the tick, as `own`. -/
  flips : List (Nat × Nat × Nat × Rat) := []
  /-- READY has been entered in this start: shadowing begins with the next slow round (R168). -/
  started : Bool := false
  deriving DecidableEq, Repr

/-- A window monitor beside its registers: the comparison of the last tick, not yet latched (0 UNDER, 1 GOOD, 2 OVER), the
last result that was not blanked, edges held (R201), runs of UNDER and OVER (R197). -/
structure Mon where
  next : Nat := 0
  seen : Nat := 0
  held : Nat := 0
  uv : Run := {}
  ov : Run := {}
  deriving DecidableEq, Repr

/-- The monitors together: remaining edges of the blanking windows, gate commands of the berths at the last tick (R199),
steps begun since the last tick by group, the core test running: monitor, ticks left, result repeated (R205). -/
structure Mons where
  blank : Tab Nat := []
  gates : Nat := 0
  steps : Nat := 0
  test : Option (Nat × Nat × Nat) := none
  deriving DecidableEq, Repr

/-- A sensor beside its registers: values in use of the last 229 evaluations, newest first (R212), consecutive
evaluations beyond ALLOW (R208) and beyond RATE_LIM. -/
structure Sens where
  hist : List Int := []
  far : Nat := 0
  fast : Nat := 0
  deriving DecidableEq, Repr

/-- The thermal block: BROKEN marks to clear at the next evaluation (R211), consecutive edges above 160 °C by quadrant and
below 140 °C, Keeper held by the die shutdown (R214), the tick plus 1 of the last evaluation. -/
structure Therm where
  clear : Nat := 0
  hot : List Nat := [0, 0, 0, 0]
  cool : Nat := 0
  stopped : Bool := false
  /-- A shutdown found without the core clock has still to raise TEMP_DIE and to take the safe state (R214). -/
  due : Bool := false
  evalAt : Nat := 0
  deriving DecidableEq, Repr

/-- A throttle channel beside its registers: a temperature source present at the last evaluation, a tick source present in
the last tick, and in any tick since the last slow-round edge, the edge of ACTIVE, absent evaluations in a row (R219). -/
structure Thr where
  temp : Bool := false
  now : Bool := false
  seen : Bool := false
  since : Nat := 0
  absent : Nat := 0
  /-- The move of its enforcement is complete, and its ENF_ILIM acts (R217). -/
  lim : Bool := false
  deriving DecidableEq, Repr

/-- A sequence group beside its registers: edge of its last entry to IDLE (R233) and to ALLOFF (R234), tick its step was
entered (R226), tick the next step is due (R224), tick the enables were issued, qualification count (R225), steps
qualified, tick the next disables are due and tick they were issued (R232), origin of the start (R222), tokens kept: ID and
target ring tick (R227). -/
structure Grp where
  idleAt : Option Nat := none
  offAt : Nat := 0
  entered : Nat := 0
  delayAt : Option Nat := none
  issued : Option Nat := none
  qual : Nat := 0
  qualN : Nat := 0
  stopDue : Option Nat := none
  disAt : Option Nat := none
  origin : Nat := 3
  toks : List (Nat × Nat) := []
  /-- Origin of the last start request that waits, and tick plus 1 of the last start request (R222, R229, R233). -/
  pend : Nat := 3
  pendAt : Nat := 0
  deriving DecidableEq, Repr

/-- A group as it was before the first event that acted on it in a tick (R229): that tick plus 1, STATE, STEP, CAUSE, group tick. -/
structure GrpWas where
  tk : Nat := 0
  st : Nat := 0
  step : Nat := 0
  cause : Nat := 0
  tick : Nat := 0
  gr : Grp := {}
  deriving DecidableEq, Repr

/-- The sequencer beside the groups: EN outputs driven active, and by output the tick their last change was issued,
the outputs power-good and off as latched in this tick and as they stand at this edge (R223), the outputs in a fault
state or HELD at the last edge and those new among them (R230), DROP_QUAL counts, the edge the ALL-OFF line asserted at, the same when
FOGHORN_IN did it, the tick the FOGHORN drive began, the FOGHORN driver as switched, low edges in a row and a high
since the last FOGHORN_IN (R237), an AUTO start due (R233), the group and cause of a line whose effects are due
(R230). -/
structure Seq where
  en : Nat := 0
  enAt : Tab Nat := []
  pgSeen : Nat := 0
  offSeen : Nat := 0
  pgNow : Nat := 0
  offNow : Nat := 0
  blocked : Nat := 0
  newBad : List Nat := []
  drop : Tab Nat := []
  lineAt : Nat := 0
  fhAt : Nat := 0
  fhSince : Nat := 0
  fhDrv : Bool := false
  fhLow : Nat := 0
  fhHigh : Bool := false
  autoDue : Bool := false
  autoDone : Bool := false
  /-- Groups whose cause of the tick before has asserted the line, each with its cause code (R230). -/
  offDue : List (Nat × Nat) := []
  was : Tab GrpWas := []
  /-- The filtered level of WAKE_IN as latched at the edge (R288). -/
  wakeIn : Bool := false
  deriving DecidableEq, Repr

/-- A Logbook trigger of a tick: record type, tick, and DETAIL from byte 32 on (R351). -/
structure Trig where
  ty : Nat
  tk : Nat
  det : List Nat
  deriving DecidableEq, Repr

/-- The KEEP controller and the hand-over beside their registers: gate pulled down after a reverse turn-off (R242),
consecutive ticks with KEEP_COND 0 and the source loop regulating (R243), a source loop in SOFTSTART at the last edge
(R243), the source present in the last tick (R246), the run of R245, the tick the shutdown timer expires (R250), a STANDBY
request that waits for the stopped groups (R250), ticks PACK_DET was latched low (R259), CHBAT of the tick before in mV. -/
structure Keep where
  revOff : Bool := false
  nonCond : Nat := 0
  srcSS : Bool := false
  srcPrev : Bool := false
  uv : Run := {}
  sdAt : Option Nat := none
  sdStby : Bool := false
  /-- The groups that the timer stopped at its expiry (R250). -/
  sdGroups : List Nat := []
  pdLow : Nat := 0
  /-- PACK_DET was low at the last edge (R274). -/
  pdWas : Bool := false
  vbatPrev : Nat := 0
  deriving DecidableEq, Repr

/-- The charger beside its registers: current profile in µA, integrators of its voltage and current loops and the duty
(R252), switches running, session ticks (R256), consecutive samples above VCELL_MAX by cell, ticks above the current limit
and outside the temperature window (R256). -/
structure Chg where
  prof : Prof := {}
  vi : Rat := 0
  ii : Rat := 0
  duty : Rat := 0
  run : Bool := false
  session : Nat := 0
  cellOv : List Nat := [0, 0, 0, 0]
  oc : Nat := 0
  ntc : Nat := 0
  deriving DecidableEq, Repr

/-- Sums of the gauge over one round: pack current, cells 1 to 4 and pack temperature in units of their channels, the samples of each,
and a saturated pack current sample (R261, R262). -/
structure GSum where
  i : Int := 0
  v : List Int := [0, 0, 0, 0]
  t : Int := 0
  n : Nat := 0
  vn : List Nat := [0, 0, 0, 0]
  tn : Nat := 0
  sat : Bool := false
  deriving DecidableEq, Repr

/-- A learning cycle: SOC at its anchor, charge counted since in 2^-16 µC (Q stops at 0 and at FCC, the count does not), rounds since, direction (0 none yet, 1 charge,
2 discharge), interruptions, rounds of the running interruption (R263). -/
structure Cycle where
  soc : Rat
  dq : Int := 0
  rounds : Nat := 0
  dir : Nat := 0
  intr : Nat := 0
  away : Nat := 0
  deriving DecidableEq, Repr

/-- The gauge beside its registers: Q in 2^-16 µC and FCC in µC (R260), uncertainty in % (R265), sums of the running and of
the last round, SOC due from the OCV table (1 mean cell voltage, 2 compensated, R267), rounds of the running rest, counts
of R262 for EOD and EOC, learning cycle, rounds since the last qualified rest and seconds restored with it (R265, R270),
GAUGE raised for how many spans of 72 h, a rest qualified since BOOT. -/
structure Gauge where
  q : Int := 0
  fcc : Int := 0
  unc : Rat := 0
  now : GSum := {}
  last : GSum := {}
  ocv : Nat := 0
  rest : Nat := 0
  eod : Nat := 0
  eoc : Nat := 0
  cycle : Option Cycle := none
  age : Nat := 0
  ageBase : Nat := 0
  noRest : Nat := 0
  restSeen : Bool := false
  deriving DecidableEq, Repr

/-- Pack authentication beside its registers: running (R272), attempt 1 to 3, its start tick, the
tick of its next read, its challenge, the tick of the next periodic run, the PACK_ID found last without a PACK_DET change
since (R274). -/
structure Auth where
  run : Bool := false
  tries : Nat := 0
  t0 : Nat := 0
  readAt : Nat := 0
  chal : List Nat := []
  next : Nat := 0
  last : Option Nat := none
  deriving DecidableEq, Repr

/-- Pilot's rest window (R266): the tick a running SUSPEND window ends, and the tick before which no new one begins. -/
structure RestWin where
  ends : Option Nat := none
  retry : Nat := 0
  deriving DecidableEq, Repr

/-- The calendar fields of R279; the reset values are those of the power-up of the Bivouac domain (R277). -/
structure Cal where
  sec : Nat := 0
  min : Nat := 0
  hour : Nat := 0
  day : Nat := 1
  month : Nat := 1
  year : Nat := 0
  wd : Nat := 0
  deriving DecidableEq, Repr

/-- A frozen shadow of the calendar set: the fields, RTC_STATUS but for FROZEN, and BIV_RTC_EPOCH (R282). -/
structure RtcShadow where
  cal : Cal
  status : Nat
  epoch : Nat
  deriving DecidableEq, Repr

/-- The Bivouac domain beside its registers: calendar, RTC_STATUS flags (R279, R281, R286), domain on VBIV (R276), crystal
oscillator running (R286), stages and frozen shadows by reader (ports 0 to 3, 4 = Pilot and the REG commands), writers
whose commit is due at the next BIV cycle (R281), TRIM and correction cycles of the running window (R284), start tick of a
measurement (R285), current-wake samples in a row, retained RAM. -/
structure Biv where
  cal : Cal := {}
  osf : Bool := true
  wrap : Bool := false
  wrRej : Bool := false
  onVbiv : Bool := false
  osc : Bool := true
  stage : Tab Cal := []
  shadow : Tab (Option RtcShadow) := []
  sets : List Nat := []
  trim : Int := 0
  corr : List Nat := []
  /-- BIV cycle of the trim window and count of the calendar's prescaler, at the last command that told the time (R281, R284). -/
  cyc : Nat := 0
  sub : Nat := 0
  /-- ALARM was at or below the count when it was written, and the count has not wrapped since (R287). -/
  past : Bool := false
  meas : Option Nat := none
  cur : Nat := 0
  ram : List Nat := List.replicate 256 0
  deriving DecidableEq, Repr

/-- The fault collector beside its registers: last edge of a SAFE reaction under way (R302), the causes of the Keeper restart
that is due (bit 0 a HALT, 1 a command, 2 a tick stall, 3 a die shutdown), BOOT ends in SAFE (R304, R305), the finding STALL
due at the next edge (R311); the tick plus 1 of the last edge that latched a source, the sources latched there, and what that
edge had for FIRST_FAULT: source, severity, further ones (R6). -/
structure Collector where
  reactEnd : Nat := 0
  due : Nat := 0
  endSafe : Bool := false
  stall : Bool := false
  nowAt : Nat := 0
  now : Nat := 0
  first : Option (Nat × Nat × Bool) := none
  /-- The edge, plus 1, at which a source is latched for whose sake the safe state has been taken already (R214, R302). -/
  aheadOf : Nat := 0
  deriving DecidableEq, Repr

/-- The Watchman beside its registers: first edge of its period (R317), the edge of a pending KEY_A (R315), the edge at which
SEEN, DOUBLE and a pending KEY_A clear for a new period (R316, R317), and the edge of a lock without tasks whose refusal is
due (R313). -/
structure Watch where
  start : Nat := 0
  keyA : Option Nat := none
  newAt : Option Nat := none
  emptyAt : Option Nat := none
  deriving DecidableEq, Repr

/-- A scrub pass beside its registers: the first, the next and the last word address, the parity of the words it read in the running
page by interleave, an uncorrectable word seen in it (R331), ABORT written (R333). -/
structure Scrub where
  first : Nat := 0
  cur : Nat := 0
  last : Nat := 0
  acc : Tab Nat := []
  flagged : Bool := false
  abort : Bool := false
  deriving DecidableEq, Repr

/-- A Logbook record as queued, all but its SEQ and CRC (table Record layout). -/
structure LogRec where
  ty : Nat
  tk : Nat
  epoch : Nat
  cfg : Nat
  nitems : Nat
  flags : Nat
  poison : Nat
  det : List Nat
  items : List Nat
  deriving DecidableEq, Repr

/-- The Logbook beside its registers: records queued (R354), the run of drops (count, last tick), the record being
programmed (slot, SEQ, record), the next slot (0 to 127 anchor, 128 to 1,711 tide), tide pages whose erase is running or
due, first running (R350), group states at the last edge (table Record types), the snapshots after the first trip of the
running round by type (R353), a clear running, its CLEAR record as formed and its erases begun (R359), the start-up scan done (R355). -/
structure Logbook where
  queue : List LogRec := []
  drop : Option (Nat × Nat) := none
  writing : Option (Nat × Nat × LogRec) := none
  slot : Nat := 0
  erase : List Nat := []
  grps : List Nat := [0, 0, 0, 0, 0, 0, 0, 0]
  trip : Option (LogRec × LogRec) := none
  clearing : Bool := false
  clr : Option LogRec := none
  clearErase : Bool := false
  ready : Bool := false
  deriving DecidableEq, Repr

/-- A request accepted into a quay's queue: port, quay, edge of acceptance, message; `dead`: the device has posted its
TIMEOUT response (R397 to R401); the 64-bit words of it that Tender copied with a poison mark (R327). -/
structure Req where
  port : Nat
  quay : Nat
  edge : Nat
  msg : List Nat
  dead : Bool := false
  psn : List Nat := []
  deriving DecidableEq, Repr

/-- A quay: the bytes of its request buffer (0x000 to 0x1FF) and response buffer (0x200 to 0x3FF) by offset, the fields of
QUAY_STATUS, the responses posted and not yet entered, the tick plus 1 of its last ACK (R397 to R400), and the 64-bit words of the
buffers that carry a poison mark (R327). -/
structure Quay where
  buf : Tab Nat := []
  submitSt : Nat := 0
  submitSeq : Nat := 0
  respSeq : Nat := 0
  copying : Bool := false
  resp : Bool := false
  queued : Nat := 0
  posted : List (List Nat) := []
  ackAt : Nat := 0
  psn : List Nat := []
  deriving DecidableEq, Repr

/-- A lease entry beside its registers: uses so far, so that GEN is the last but one of them modulo 2,047 (R402), and the
full expiry tick. -/
structure Lease where
  uses : Nat := 0
  dur : Nat := 0
  expiry : Nat := 0
  deriving DecidableEq, Repr

/-- A lease that has ended by expiry and that a request accepted before may still carry (R404): handle, port, kind, index,
expiry tick. -/
structure LeaseEnd where
  handle : Nat
  port : Nat
  kind : Nat
  index : Nat
  expiry : Nat
  deriving DecidableEq, Repr

/-- The write that follows the response of SYS_RESTART or SYS_POWER: 0 SYS_RESTART, 1 STBY_REQ, 2 OFF_REQ; the request's
port and quay, the tick plus 1 of posting (0 = not posted yet), responses of that quay still to be acknowledged before it, and whether it has been. -/
structure Deferred where
  what : Nat
  port : Nat
  quay : Nat
  at_ : Nat
  ahead : Nat
  acked : Bool := false
  deriving DecidableEq, Repr

/-- The two-wire ports beside their registers: tick plus 1 of the last notify, a change that waits for one, repeats sent and
bytes of the last notify (R394); the last own transfer by port, and the ports whose transfer waits to be repeated (R395);
tick at which HUNG was set, by port (R396); the acknowledge bits the device gave to the bytes of the last transfer addressed to it, by
port (R393). -/
structure Tw where
  notifyAt : Nat := 0
  due : Bool := false
  repeats : Nat := 0
  own : Tab (List Nat) := []
  again : List Nat := []
  hungAt : Tab Nat := []
  acks : Tab (List Bool) := []
  deriving DecidableEq, Repr

/-- A remote response message held for HW_RELAY_MORE, and the tick at which the HW_RELAY response was posted (R430). -/
structure Held where
  msg : List Nat
  posted : Option Nat := none
  deriving DecidableEq, Repr

/-- The Hawser node beside its registers: sides not fitted (bit 0 A, bit 1 B; R440), frames originated so far (R409), frames
kept by SRC, FSEQ and tick (R408), the tick plus 1 of the last BEACON by node (R410) and of the last TICK frame taken (R29),
the phase shift applied so far in DPWM periods (R28), the last tick in which a wrapped side had no carrier, wrapped sides on which a
good frame has arrived since (R407), the outstanding HW_RELAY: port, node, quay, last tick, and those that timed out with their answer
still to come: node, quay, what the answer repeats of the message (R429), messages held by port (R430). -/
structure Hw where
  unfit : Nat := 0
  sent : Nat := 0
  seen : List (Nat × Nat × Nat) := []
  beacon : Tab Nat := []
  markerAt : Nat := 0
  slew : Int := 0
  lossAt : Tab Nat := []
  good : Nat := 0
  relay : Option (Nat × Nat × Nat × Nat) := none
  late : List (Nat × Nat × List Nat) := []
  held : Tab (Option Held) := []
  deriving DecidableEq, Repr

/-- An upload under way (R431): a Pilot image or else a configuration image, target slot, next offset, length, erase running. -/
structure Upload where
  fw : Bool
  slot : Nat
  next : Nat
  len : Nat
  erasing : Bool
  deriving DecidableEq, Repr

/-- The hold-up of a supply loss (R356): the edge of detection, VHOLD then in mV, queued records lost, an OTP command
completed first, the slot kept for the POWER_LOSS record, the record once formed. -/
structure Holdup where
  edge : Nat
  vhold : Nat
  lost : Nat
  otp : Bool
  slot : Option Nat := none
  record : Option LogRec := none
  deriving DecidableEq, Repr

/-- A response that Pilot builds once its last write has taken effect (R424): BERTH_SET of berth `idx` that toggles it or LOOP_RETUNE of
loop `idx` (`loop`); the last tick in which a write of it is latched; the loop has refused a word. -/
structure Wait where
  loop : Bool
  idx : Nat
  due : Nat
  bad : Bool := false
  deriving DecidableEq, Repr

/-- The device beside its memories, its tick counter and its queue. -/
structure Blk where
  /-- Register fields by bit address; a field not listed holds its reset value. -/
  regs : Tab Nat := []
  /-- Input signals as last latched, by `Sig.key`; a signal not listed is 0. -/
  env : Tab Int := []
  evts : Tab Evt := []
  lines : List Line := []
  staged : List Staged := []
  smp : Tab Smp := []
  dev : DevState := .boot
  /-- The device state at the last edge. -/
  devEdge : DevState := .boot
  /-- POWERUP under way: the TICKs since it began (R447). -/
  up : Option Nat := none
  /-- VIO is of the 3.3 V band; the run of ticks with VIO below its band (R446, R448). -/
  vio33 : Bool := false
  vioLow : Nat := 0
  /-- The deadline engines run (R54 to R56, R174). -/
  meOn : Bool := false
  berth : Tab Berth := []
  feed : Tab Feed := []
  vnetUv : Run := {}
  vnetOv : Run := {}
  /-- The LOCKED map of the twin block (R92, R93). -/
  lockedMap : Nat := 0
  /-- Berth trips of the running round: berth, cause, tick, state entered (R353). -/
  trips : List (Nat × Nat × Nat × Nat) := []
  loop : Tab Loop := []
  phase : Tab Phase := []
  buck : Tab Buck := []
  ldo : Tab Ldo := []
  acc : Tab Acc1 := []
  trk : Tab Trk1 := []
  adc : Adc := {}
  tasks : List Task := []
  eng : Eng := {}
  /-- The tick, plus 1, of the last beat, round and slow-round work done. -/
  beatAt : Nat := 0
  roundAt : Nat := 0
  slowAt : Nat := 0
  /-- The physical OTP arrays: word `w` of copy `c` at `c * 4096 + w`; word `w` of spare row `r` at 0x10000 + 8 r + w;
  entry `e` of the redirection table of copy `c` at 0x20000 + 64 c + e; the finalise word of copy `c` at 0x30000 + c. -/
  otp : Tab Nat := []
  /-- Spare-map entries on their way to flash: class, unit, spare (R384). -/
  mapOut : List (Nat × Nat × Nat) := []
  /-- Copies of OTP words whose programming failed and whose redirection the running command has still to make: copy, word, value
  (R339); counters that Keeper has still to increment, in order (R345, R350); an OTP request of a quay waits for a record's write
  (R350). -/
  otpRedir : List (Nat × Nat × Nat) := []
  otpWait : List Nat := []
  otpHeld : Bool := false
  /-- SRAM rows with one corrected event since BOOT (table Spare inventory). -/
  rowHits : List Nat := []
  mon : Tab Mon := []
  mons : Mons := {}
  sens : Tab Sens := []
  therm : Therm := {}
  thr : Tab Thr := []
  grp : Tab Grp := []
  seq : Seq := {}
  /-- Logbook triggers of the running tick. -/
  trig : List Trig := []
  /-- ATTN_CAUSE of each port. -/
  attn : Tab Nat := []
  keep : Keep := {}
  chg : Chg := {}
  gauge : Gauge := {}
  auth : Auth := {}
  restWin : RestWin := {}
  /-- Bytes drawn from the random-number generator so far: the next index of `Config.randomByte`. The model's own field. -/
  rng : Nat := 0
  biv : Biv := {}
  /-- The word last returned to each reader (ports 0 to 3, 4 = Pilot and the REG commands). -/
  rd : Tab Nat := []
  /-- Free values used so far: the next index of `Config.freeByte`. The model's own field. -/
  free : Nat := 0
  col : Collector := {}
  wd : Watch := {}
  /-- The level of LANTERN, and the tick plus 1 of its last toggle (R310). -/
  lantern : Bool := false
  lanternAt : Nat := 0
  scrub : Scrub := {}
  /-- The tick plus 1 of the event ECC_LAST_ADDR shows (R328). -/
  eccAt : Nat := 0
  /-- Spare SRAM rows used, by 128 KiB macro (table Spare inventory). -/
  macroUsed : Tab Nat := []
  log : Logbook := {}
  quay : Tab Quay := []
  /-- Requests accepted and not yet taken, in the order of R398, and the message held open (R399). -/
  hq : List Req := []
  msg : Option Req := none
  /-- The response Pilot has built for the open message. -/
  answer : Option (List Nat) := none
  quaysOpen : Bool := false
  lease : Tab Lease := []
  leaseEnds : List LeaseEnd := []
  /-- Writes that follow a response (SYS_RESTART, SYS_POWER), in the order of their requests. -/
  deferred : List Deferred := []
  tw : Tw := {}
  hw : Hw := {}
  upload : Option Upload := none
  /-- High words latched by a low-word read, by reader and address (R32). -/
  hiShadow : Tab Nat := []
  /-- What the device has driven in this tick: link (0 SPI, 1 TW0, 2 TW1, 3 ring side A, 4 ring side B) and bytes. -/
  out : List (Nat × List Nat) := []
  /-- ATTN_CAUSE of ports 1 and 3 after their masks, at the last edge (R394, R416). -/
  attnPrev : Tab Nat := []
  attnPin : Bool := false
  /-- The steps of the table Boot order that Keeper has done in the running BOOT. -/
  bootStep : Nat := 0
  /-- The Pilot slot started in this Keeper start. -/
  pilot : Option Nat := none
  /-- The running start follows POWERUP (R68). -/
  fresh : Bool := true
  /-- Registers whose KO fields Keeper has written in this boot (R4). -/
  ko : List Nat := []
  /-- The epoch to which CONFIG_EPOCH is raised at READY (R378), and the known standby time of this start in s (R267). -/
  cfgRaise : Nat := 0
  stby : Option Nat := none
  /-- VHOLD has reached 12.0 V, ticks since below it (R357, R450), edges of the higher supply below 9.0 V, the hold-up under
  way (R356). -/
  vholdUp : Bool := false
  vholdLow : Run := {}
  vsupLow : Nat := 0
  holdup : Option Holdup := none
  /-- Register writes that Pilot makes in a later tick (R427): the tick and the write. -/
  later : List (Nat × Staged) := []
  /-- What the open message's response waits for (R424). -/
  wait : Option Wait := none
  /-- The open LOG_CLEAR waits for its CLEAR record to be written. -/
  clearWait : Bool := false
  /-- The edge of the last latch of each accumulator (R428); 0 = none since BOOT. -/
  accAt : Tab Nat := []
  /-- What Pilot has read from REV_COUNT of each feed and not reported yet, from CHG_FAULT_FLAGS likewise, and the flags of its
  last clearing read (R425). -/
  revSeen : Tab Nat := []
  chgSeen : Nat := 0
  chgLast : Nat := 0
  /-- The instruction selected in the test port: 0 BYPASS, 1 IDCODE (R347). -/
  tap : Nat := 1
  /-- The test port is locked: latched at the edge after the OWNER region is finalised (R347). -/
  tapLock : Bool := false
  deriving DecidableEq, Repr

end Sys2Proof.Machine
end

