-- ==== Sys2Proof/Syntax.lean ====
section
/-! DEFINITION. The commands the device takes: one constructor per row of spec/opcode_table.json, those with operands first, each part in the table's order. An
operand names the instance a row acts on or carries what arrives from outside (a sample, a level, the bytes of a frame); an
access carries who makes it. Rows named by an opcode of spec/17_command_set.md are Pilot's work on the message it holds
open, so that their operands stand in that message. -/
namespace Sys2Proof

open Sys2Proof.Machine

/-- The commands. `t` in their meanings is the running tick. -/
inductive Instr where
  /-- TICK (R12): At each tick edge the device applies the outputs computed in the previous tick, latches inputs,
  samples slots 0 to 49, runs the engines and evaluates timeouts and counters. -/
  | tick (ins : List (Sig × Int))
  /-- LOW_WORD_READ (R32): A read of the low word of a 64-bit register pair latches the high word into a shadow
  belonging to that reader. -/
  | lowWordRead (r : Fin 5) (a : Nat)
  /-- RC_READ (R6): A read of an RC field returns its value and clears exactly what it returned in one action. -/
  | rcRead (a : Nat)
  /-- REGISTER_WRITE (R460): A write to a control field without behaviour of its own is latched at the next edge,
  subject to access codes, state refusals and reserved offsets. -/
  | registerWrite (w : Writer) (a : Nat) (v : Nat)
  /-- BERTH_ON_REQUEST (R37): A value of 1 latched in the ON bit of a berth puts an OFF berth in the token queue, or
  completes a toggle of a TRIPPED or LOCKED berth. -/
  | berthOnRequest (nn : Fin 32) (origin : Fin 4)
  /-- BERTH_OFF_REQUEST (R37): A value of 0 latched in the ON bit removes a PENDING berth from the queue or discharges
  the gate of a berth in INRUSH, ON or HELD. -/
  | berthOffRequest (nn : Fin 32) (origin : Fin 4)
  /-- INRUSH_DONE (R51): After 16 consecutive ticks with the profile complete and VOUT within DONE_MV of VNET, the gate
  is fully enhanced, the token released and the berth enters ON. -/
  | inrushDone (nn : Fin 32)
  /-- INRUSH_TIMEOUT (R53): An inrush that exceeds TMAX without done qualifying trips the berth with cause
  INRUSH_TIMEOUT. -/
  | inrushTimeout (nn : Fin 32)
  /-- SOA_HOLD_ELAPSED (R68): The cool-down HOLD of a berth after POWERUP elapses, and the berth becomes eligible for
  its first token grant. -/
  | soaHoldElapsed (nn : Fin 32)
  /-- FEED_REVERSE (R59): A feed's forward voltage falls below minus REV_MV; its gate is pulled down within 150 ns,
  FEED_REVERSE is raised and REV_COUNT incremented. -/
  | feedReverse (n : Fin 2) (uv : Int)
  /-- FEED_REARM (R59): A feed's forward voltage exceeds REARM_MV in 2 consecutive ticks, and the feed controller
  resumes gate drive. -/
  | feedRearm (n : Fin 2)
  /-- FEED_FORCE_OFF (R61): A write of FORCE_OFF holds the feed gate off, or releases it to normal control. -/
  | feedForceOff (n : Fin 2) (v : Fin 2)
  /-- FAST_TRIP (R74): A shunt-voltage crossing of the fast-trip threshold in INRUSH, ON or HELD starts the gate pull-
  down within 250 ns and sets FT_LATCH. -/
  | fastTrip (nn : Fin 32) (uv : Int)
  /-- RETRY_WINDOW_CLOSE (R91): The retry window has been open for RETRY_WIN seconds; it closes and RETRY_CNT returns
  to 0. -/
  | retryWindowClose (nn : Fin 32)
  /-- LOOP_ENABLE (R119): EN = 1 latched in a DISABLED loop starts PRECHECK with all phases at MID. -/
  | loopEnable (n : Fin 8)
  /-- LOOP_DISABLE (R122): EN = 0 latched stops a loop by ramp, immediate MID or from FAULTED to DISABLED, according to
  its state and STOP_MODE. -/
  | loopDisable (n : Fin 8)
  /-- PRECHECK_PASS (R119): After 400 ticks of PRECHECK without VSP above the threshold, the loop enters SOFTSTART. -/
  | precheckPass (n : Fin 8)
  /-- SOFTSTART_COMPLETE (R122): A loop whose profile is complete and whose window comparator is inside for 16
  consecutive ticks enters REGULATING. -/
  | softstartComplete (n : Fin 8)
  /-- PHASE_SHED (R110): After SHED_BEATS beats below SHED_A with more than NMIN phases active, one phase is shed. -/
  | phaseShed (n : Fin 8)
  /-- BURST_ENTRY (R113): A loop with NMIN phases active and low current for SHED_BEATS beats enters BURST. -/
  | burstEntry (n : Fin 8)
  /-- VSEL_QUALIFY (R115): The raw VSEL index is qualified after VSEL_QUAL consecutive ticks with the same value. -/
  | vselQualify (n : Fin 8)
  /-- PROFILE_COMPLETE (R167): A profile instance reaches its target with zero velocity and acceleration, completing a
  move, a stop ramp or a charger ramp. -/
  | profileComplete (k : Fin 15)
  /-- RAIL_OV (R123): A loop's VSP exceeds VSET plus OV_MV for QUAL consecutive ticks, raising RAIL_OV and faulting the
  loop. -/
  | railOv (n : Fin 8)
  /-- RAIL_UV (R123): A loop's VSP is below VSET minus UV_MV for QUAL consecutive ticks, raising RAIL_UV and faulting
  the loop. -/
  | railUv (n : Fin 8)
  /-- RAIL_OC (R124): ITOT exceeds IOC for OC_QUAL consecutive ticks, raising RAIL_OC and faulting the loop. -/
  | railOc (n : Fin 8)
  /-- LOOP_OPEN_REQUEST (R153): OPEN_REQ = 1 takes a loop in SOFTSTART, REGULATING or BURST to OPEN with the duty held.
  -/
  | loopOpenRequest (n : Fin 8)
  /-- LOOP_RELEASE (R157): OPEN_REQ = 0, or a clean tick after poison, releases a loop from OPEN to REGULATING with its
  state reinitialised. -/
  | loopRelease (n : Fin 8)
  /-- LOOP_OPEN_TIME (R156): A loop left in OPEN for 2,000 ticks raises LOOP_OPEN_TIME and enters FAULTED. -/
  | loopOpenTime (n : Fin 8)
  /-- COEF_WRITE (R152): A write to a compensator coefficient word is accepted in OPEN or DISABLED, or refused with
  LOOP_CLOSED. -/
  | coefWrite (n : Fin 8) (w : Fin 8) (v : Nat)
  /-- STRUCTURAL_TEST_VERDICT (R170): Keeper's structural test of a replaced engine ends, keeping LE4 or raising
  SPARE_EXHAUSTED. -/
  | structuralTestVerdict (pass : Bool)
  /-- BUCK_ENABLE (R135): EN = 1 latched in a DISABLED buck starts the soft-start ramp from the present output. -/
  | buckEnable (n : Fin 8)
  /-- BUCK_DISABLE (R136): EN = 0 latched switches a buck off, or moves a FAULTED buck to DISABLED. -/
  | buckDisable (n : Fin 8)
  /-- BUCK_SOFTSTART_COMPLETE (R136): The ramp is at VSET and IBFB_n lies inside the window for 16 ticks, so the buck
  enters REGULATING. -/
  | buckSoftstartComplete (n : Fin 8)
  /-- BUCK_SS_TIMEOUT (R136): SS_TMAX expires in SOFTSTART, raising RAIL_UV and faulting the buck. -/
  | buckSsTimeout (n : Fin 8)
  /-- BUCK_RAIL_OV (R136): IBFB_n exceeds the ramp by more than OV_MV for QUAL ticks, raising RAIL_OV and faulting the
  buck. -/
  | buckRailOv (n : Fin 8)
  /-- BUCK_RAIL_UV (R136): IBFB_n lies below the ramp by more than UV_MV for QUAL ticks, raising RAIL_UV and faulting
  the buck. -/
  | buckRailUv (n : Fin 8)
  /-- BUCK_RAIL_OC (R136): ILIM_ACT holds for OC_QUAL ticks, raising RAIL_OC and faulting the buck. -/
  | buckRailOc (n : Fin 8)
  /-- BUCK_OPEN_TIME (R136): A buck left in OPEN for 2,000 ticks raises LOOP_OPEN_TIME and switches off. -/
  | buckOpenTime (n : Fin 8)
  /-- BUCK_VIN_UV (R137): IBVIN_n falls below 7.2 V and the buck stops with cause VIN_UV, raising IREG_FAULT. -/
  | buckVinUv (n : Fin 8) (mv : Int)
  /-- BUCK_THERMAL (R137): A buck's switch temperature exceeds 170 °C and it stops with cause THERMAL, raising
  IREG_FAULT. -/
  | buckThermal (n : Fin 8) (mc : Int)
  /-- LDO_ENABLE (R141): EN = 1 in LDO_n_CTL starts the LDO's reference ramp. -/
  | ldoEnable (n : Fin 6)
  /-- LDO_DISABLE (R142): EN = 0 in LDO_n_CTL switches the LDO off. -/
  | ldoDisable (n : Fin 6)
  /-- LDO_CODE_WRITE (R141): A change of the applied LDO code ramps the reference to the new value. -/
  | ldoCodeWrite (n : Fin 6) (v : Nat)
  /-- LDO_SOFTSTART_COMPLETE (R142): The LDO output lies inside its window for 16 ticks after the ramp ends, and it
  enters REGULATING. -/
  | ldoSoftstartComplete (n : Fin 6)
  /-- LDO_RAIL_UV (R142): The LDO output is below its window for 4 ticks, raising RAIL_UV and faulting the LDO. -/
  | ldoRailUv (n : Fin 6)
  /-- LDO_RAIL_OV (R142): The LDO output is above its window for 4 ticks, raising RAIL_OV and faulting the LDO. -/
  | ldoRailOv (n : Fin 6)
  /-- LDO_RAIL_OC (R142): The LDO current limit holds for 64 ticks, raising RAIL_OC and faulting the LDO. -/
  | ldoRailOc (n : Fin 6)
  /-- LDO_THERMAL (R142): The LDO's thermal stop at 170 °C turns it off with cause THERMAL. -/
  | ldoThermal (n : Fin 6) (mc : Int)
  /-- ACC_LATCH (R189): A write to ACC_LATCH_k moves an accumulator's live sums to its shadow and restarts them at the
  next edge. -/
  | accLatch (k : Fin 4) (m : Nat)
  /-- TRACKER_LATCH (R191): A write to ACC_TLATCH_k moves a tracker's live minimum and maximum to its shadow. -/
  | trackerLatch (k : Fin 4) (m : Nat)
  /-- LEGACY_ADC_DATA_READ (R194): A port's read of LEGACY_ADC_DATA returns it and clears that port's NEW and OVR at
  the next edge. -/
  | legacyAdcDataRead (p : Fin 4)
  /-- MON_RAIL_UV (R197): A monitor with FLT_UV reports UNDER for MQUAL consecutive results and raises RAIL_UV. -/
  | monRailUv (nn : Fin 32)
  /-- MON_RAIL_OV (R197): A monitor with FLT_OV reports OVER for MQUAL consecutive results and raises RAIL_OV. -/
  | monRailOv (nn : Fin 32)
  /-- MON_CORE_TEST_OUTCOME (R205): At the end of the core test the device records a transient, replaces or retires a
  core, or raises SPARE_EXHAUSTED. -/
  | monCoreTestOutcome (own : Bool) (spare : Bool)
  /-- SENSOR_BROKEN_CLEAR (R211): An OWNER-class write of 1 to a bit of THERM_BROKEN clears that sensor's BROKEN mark
  at the next evaluation. -/
  | sensorBrokenClear (origin : Fin 4) (m : Nat)
  /-- THROTTLE_ENFORCE (R216): After the grace period, a channel with ENF whose condition is still present is enforced
  and THROTTLE_ENFORCED raised. -/
  | throttleEnforce (k : Fin 4)
  /-- THROTTLE_RELEASE (R219): After REL_SR consecutive absent evaluations a channel ceases to be ACTIVE and its
  enforcement ends. -/
  | throttleRelease (k : Fin 4)
  /-- SEQ_GRP_START (R233): A write of 1 to START of a group starts it when permitted, or sets START_PEND. -/
  | seqGrpStart (g : Fin 8) (origin : Fin 4)
  /-- SEQ_GRP_STOP (R232): A write of 1 to STOP begins stopping a STARTING or UP group in reverse step order. -/
  | seqGrpStop (g : Fin 8)
  /-- SEQ_GRP_ACK (R234): A write of 1 to ACK takes a group from ALLOFF to IDLE when permitted, or sets ACK_REJ. -/
  | seqGrpAck (g : Fin 8)
  /-- SEQ_GRP_ALLOFF_REQ (R230): A write of 1 to ALLOFF_REQ of a domain group asserts the ALL-OFF line. -/
  | seqGrpAlloffReq (g : Fin 8)
  /-- PENDING_START (R233): A pending start is acted on in the first tick in which it is permitted, if its request is
  still present. -/
  | pendingStart (g : Fin 8)
  /-- STEP_DELAY_EXPIRE (R224): A step's DELAY ends and the group enters the step, issuing its enables unless it waits
  for a token. -/
  | stepDelayExpire (g : Fin 8)
  /-- STEP_QUALIFIED (R225): Every output of a step is power-good for Q consecutive ticks, and the step qualifies. -/
  | stepQualified (g : Fin 8)
  /-- SEQ_TIMEOUT (R226): A step has not qualified by the end of its timeout, and SEQ_TIMEOUT is latched with the group
  and step. -/
  | seqTimeout (g : Fin 8)
  /-- STEP_TOKEN_TARGET (R227): A waiting step issues its enables in the tick before the received token's target ring
  tick. -/
  | stepTokenTarget (g : Fin 8)
  /-- MON_DROP (R230): A MON power-good of a qualified step is not GOOD for DROP_QUAL ticks, counting as a member
  output fault. -/
  | monDrop (o : Fin 64)
  /-- STOP_STEP_DELAY (R232): The OFF_DLY of a stop step ends and the step's disables are issued. -/
  | stopStepDelay (g : Fin 8)
  /-- STOP_STEP_OFF (R232): Every output of a stop step counts as off; the stop continues with the previous step or the
  group enters IDLE. -/
  | stopStepOff (g : Fin 8)
  /-- STOP_STEP_TIMEOUT (R232): OFF_TMO passes with outputs still on; they are forced off and SEQ_TIMEOUT is raised
  with the STOP flag. -/
  | stopStepTimeout (g : Fin 8)
  /-- KEEP_TAKEOVER (R241): KBUS falls below KEEP_ON in ARMED, and KEEP starts gate drive within 200 ns and enters
  DIODE. -/
  | keepTakeover (mv : Nat)
  /-- KEEP_REVERSE_OFF (R242): The KEEP forward voltage falls below minus REV_MV, and its gate is pulled down within
  150 ns. -/
  | keepReverseOff (uv : Int)
  /-- KEEP_RESUME (R242): The KEEP forward voltage exceeds +10 mV after a reverse turn-off, and gate drive resumes
  within 200 ns. -/
  | keepResume (uv : Int)
  /-- CHG_CELL_OV (R256): A cell above VCELL_MAX in two consecutive samples sets CELL_OV and puts the charger in FAULT.
  -/
  | chgCellOv (c : Fin 4)
  /-- CHG_PEAK_OC (R256): The cycle-by-cycle comparator sees more than 5.0 A in a pulse, setting OC and faulting the
  charger. -/
  | chgPeakOc (ma : Nat)
  /-- PACK_REMOVAL (R259): PACK_DET rises or CHBAT jumps; the charger stops, KEEP goes OFF, PACK_REMOVED is raised and
  a record triggered. -/
  | packRemoval (jump : Option Nat)
  /-- AUTH_READ (R272): After AUTH_WAIT, or every 10 ms while busy, the device reads the authenticator's reply and
  verifies its signature. -/
  | authRead (reply : Option (List Nat))
  /-- GAUGE_COMMIT (R270): A write to GAUGE_COMMIT checks the staged block and adopts FCC, CYCLES and UNC, or sets
  RST_ERR. -/
  | gaugeCommit (crc : Nat)
  /-- BIV_SOURCE_SWITCH (R276): The Bivouac domain changes supply between the standby rail and VBIV, stamping the first
  switch-over. -/
  | bivSourceSwitch (vbiv : Bool)
  /-- RTC_STAGE_WRITE (R281): A write to RTC_SEC to RTC_WEEKDAY goes to the writer's own stage and changes nothing. -/
  | rtcStageWrite (w : Writer) (k : Fin 7) (v : Nat)
  /-- RTC_SET (R281): A write of 1 to SET requests a commit of the writer's stage at the next BIV cycle. -/
  | rtcSet (w : Writer)
  /-- RTC_READ_FREEZE (R282): The first read of the calendar set freezes the reader's shadow copy, released by the read
  of RTC_STATUS. -/
  | rtcReadFreeze (r : Fin 5) (k : Fin 9)
  /-- RTC_SHADOW_RELEASE (R282): A frozen calendar shadow is released 32,768 BIV cycles after the freeze. -/
  | rtcShadowRelease (r : Fin 5)
  /-- SAFE_EXIT (R308): A write of 1 to SAFE_EXIT leaves SAFE for RUN when no SAFE or HALT bit, PERMANENT or shutdown
  holds, or sets EXIT_REJ. -/
  | safeExit (w : Writer)
  /-- FAULT_STATUS_CLEAR (R307): A write of 1 to a FAULT_STATUS bit or to VALID of FIRST_FAULT clears it when the
  writer's class allows. -/
  | faultStatusClear (w : Writer) (which : Fin 3) (v : Nat)
  /-- WD_LOCK (R313): A write of LOCK fixes TASKS and PERIOD_MS and starts run mode, or is refused as EMPTY with no
  tasks. -/
  | wdLock (w : Writer)
  /-- WD_CHECKIN (R314): A write to WD_CHECKIN sets the task's SEEN bit, its DOUBLE bit if already seen, or UNREG. -/
  | wdCheckin (w : Writer) (k : Fin 16)
  /-- WD_KEY_A (R315): A write of 0x3C96 to WD_KEY makes KEY_A pending for 8 ticks. -/
  | wdKeyA (w : Writer)
  /-- WD_KEY_B (R316): A write of 0xA5E1 to WD_KEY closes the period; the Watchman accepts it or latches WATCHMAN with
  its findings. -/
  | wdKeyB (w : Writer)
  /-- WD_KEY_OTHER (R315): Any other value written to WD_KEY counts as a key out of order and is decided at once. -/
  | wdKeyOther (w : Writer)
  /-- ECC_TEST_GO (R329): A write of GO stores the test data, check byte and mark in an SRAM word, with or without
  parity update. -/
  | eccTestGo (w : Writer)
  /-- ECC_TEST_READ (R330): A write of READ copies the raw stored data, check byte and mark of a word into the raw
  registers. -/
  | eccTestRead (w : Writer)
  /-- OTP_CMD_PROGRAM (R338): A PROGRAM command with the key programs a logical OTP word copy by copy, or is refused
  with an error. -/
  | otpCmdProgram (w : Writer) (key : Nat)
  /-- OTP_CMD_INCREMENT (R345): An INCREMENT command programs the next bit of an OTP counter, or sets ERR FULL. -/
  | otpCmdIncrement (w : Writer) (key : Nat)
  /-- OTP_CMD_FINALISE (R342): A FINALISE command programs a region's digest, sets its finalise bit and verifies it. -/
  | otpCmdFinalise (w : Writer) (key : Nat)
  /-- LOG_SNAP (R352): A write of SNAP by Pilot triggers a HOST_SNAPSHOT record. -/
  | logSnap (tag : Nat) (port : Fin 4)
  /-- BOOT (R367): From the end of POWERUP Keeper performs the ten boot steps in order. -/
  | boot (k : Fin 11)
  /-- SPI_WRITE_FRAME (R391): An SPI write frame is applied after its CRC checks, or refused with HOST_PROTO. -/
  | spiWriteFrame (l : List Nat)
  /-- SPI_READ_FRAME (R390): An SPI read frame returns N bytes of the direct window followed by their CRC. -/
  | spiReadFrame (l : List Nat)
  /-- TW_WRITE (R393): A two-wire write transfer is applied when its PEC was acknowledged and a stop followed. -/
  | twWrite (p : Fin 2) (l : List Nat) (stop : Bool)
  /-- TW_READ (R393): A two-wire read transfer returns N data bytes and the PEC. -/
  | twRead (p : Fin 2) (l : List Nat)
  /-- TW_SCL_TIMEOUT (R393): SCL stays low for 25 ms and the device abandons the transfer and releases both lines. -/
  | twSclTimeout (p : Fin 2)
  /-- TW_ARBITRATION_LOST (R395): The device loses arbitration as controller and completes as listener or abandons with
  ARB_STOP_ERR, repeating later. -/
  | twArbitrationLost (p : Fin 2) (atStop : Bool)
  /-- TW_BUS_CLEAR (R396): SDA found low for 1 ms is clocked free with up to nine SCL pulses, or HUNG is set. -/
  | twBusClear (p : Fin 2) (n : Nat)
  /-- QUAY_SUBMIT (R397): A write of SUBMIT accepts the request into the quay's queue, or refuses it with BUSY or
  BAD_LENGTH. -/
  | quaySubmit (p : Fin 4) (q : Fin 4)
  /-- QUAY_COPY_DONE (R397): The copy of an accepted request into the queue ends and COPYING clears. -/
  | quayCopyDone (p : Fin 4) (q : Fin 4)
  /-- RESPONSE_ENTER (R400): A posted response enters the quay's free response buffer, setting RESP and the QUAY bit of
  ATTN_CAUSE. -/
  | responseEnter (p : Fin 4) (q : Fin 4)
  /-- QUAY_ACK (R400): A write of ACK frees the response buffer and decrements QUEUED. -/
  | quayAck (p : Fin 4) (q : Fin 4)
  /-- QUAY_EXEC_TIMEOUT (R401): A request not posted within EXEC_TMO gets a TIMEOUT response posted by the device. -/
  | quayExecTimeout (p : Fin 4) (q : Fin 4)
  /-- LEASE_EXPIRE (R404): A lease reaches its expiry tick, raising LEASE_EXPIRED and setting LEASE in the holder's
  ATTN_CAUSE. -/
  | leaseExpire (e : Fin 32)
  /-- HAWSER_FRAME_RELAY (R406): A received Hawser frame is relayed cut-through with HOPS, CORR and CRC updated, or
  dropped. -/
  | hawserFrameRelay (side : Fin 2) (l : List Nat) (resid : Int)
  /-- HAWSER_CARRIER_LOSS (R407): A fitted ring side sees no transition for 10 µs and wraps, raising HAWSER_LINK and
  CLOCK. -/
  | hawserCarrierLoss (side : Fin 2)
  /-- HAWSER_UNWRAP (R407): A wrapped side with carrier for 1 ms and a good frame unwraps at the next frame boundary.
  -/
  | hawserUnwrap (side : Fin 2)
  /-- BEACON_RECEIVE (R410): A received BEACON updates the election of the timing master. -/
  | beaconReceive (side : Fin 2) (l : List Nat)
  /-- TICK_FRAME_RECEIVE (R411): A received TICK frame gives the master's edge, which drives alignment and
  RING_TICK_OFFSET. -/
  | tickFrameReceive (side : Fin 2) (l : List Nat) (arr : Int)
  /-- LINK_FRAME (R412): LINK frames with a neighbour measure the input cable delay shown in HW_LINK. -/
  | linkFrame (side : Fin 2) (l : List Nat) (delay : Nat)
  /-- FAULT_FRAME_RECEIVE (R414): An accepted FAULT frame of a selected zone acts as ALLOFF_REQ of the lowest non-IDLE
  domain group. -/
  | faultFrameReceive (side : Fin 2) (l : List Nat)
  /-- TOKEN_FRAME_RECEIVE (R415): A TOKEN frame is accepted and kept for any step waiting for its ID. -/
  | tokenFrameReceive (side : Fin 2) (l : List Nat)
  /-- RELAY_REQ_RECEIVE (R416): A RELAY_REQ from RELAY_NODE is submitted to port 3's quay, or answered with a refusal.
  -/
  | relayReqReceive (side : Fin 2) (l : List Nat)
  /-- RELAY_RSP_RECEIVE (R429): A RELAY_RSP for an outstanding HW_RELAY is returned to the local host; a late one is
  discarded. -/
  | relayRspReceive (side : Fin 2) (l : List Nat)
  /-- RELAY_HOLD_EXPIRE (R430): A held remote response message is discarded 1 s after the HW_RELAY response was posted.
  -/
  | relayHoldExpire (p : Fin 4)
  /-- PILOT_EXCEPTION (R31): A Pilot access that has behaviour of its own raises PILOT_EXCEPTION: a read outside every
  mapped block, an access to Keeper's SRAM, an instruction fetch from ROM or the OTP window, or a load of a poisoned
  word. -/
  | pilotException (kind : Fin 4) (a : Nat)
  /-- TW_TRANSFER_REPEAT (R395): After lost arbitration, the device repeats its own controller transfer once the bus
  has been free for 50 µs. -/
  | twTransferRepeat (p : Fin 2)
  /-- TW_HUNG_RETRY (R396): 100 ms after a bus clear has left SDA still low and set HUNG, the device tries to clear the
  bus again. -/
  | twHungRetry (p : Fin 2) (n : Nat)
  /-- TEST_PORT_INSTRUCTION (R347): An instruction shifted into the IEEE 1149.1 test port is executed, or replaced by
  BYPASS once the OWNER region is finalised. -/
  | testPortInstruction (i : Nat)
  /-- BEAT (R10): A beat begins every 16 ticks; per-beat work such as phase balance, shedding evaluation and twin
  scheduling runs in it. -/
  | beat
  /-- ROUND (R10): A round begins every 2,048 ticks; clock checks, calibration, housekeeping results and gauge
  evaluation run in it. -/
  | round
  /-- SLOW_ROUND (R10): A slow round begins every 256 rounds; sensor evaluation, bandgap role exchange, shadow rotation
  and the twin block write run in it. -/
  | slowRound
  /-- SYSPLL_FAIL (R18): The active SYSPLL fails its check, and every SYSPLL-derived domain moves to the spare SYSPLL
  at a tick edge, raising SPARE_USED. -/
  | syspllFail
  /-- XIN_FAIL (R19): The 25 MHz crystal fails; the device raises CLOCK, sets TICK_SRC and derives the tick from RCOSC
  divided by 8 without a gap. -/
  | xinFail
  /-- TOKEN_GRANT (R41): The token arbiter grants each free inrush token to the waiting PENDING berth of lowest class
  and berth number, which enters INRUSH at the next edge. -/
  | tokenGrant
  /-- VNET_UV (R63): VNET stays below UV_MV for QUAL consecutive ticks, and VNET_UV is raised once per run. -/
  | vnetUv
  /-- VNET_OV (R63): VNET stays above OV_MV for QUAL consecutive ticks, and VNET_OV is raised once per run. -/
  | vnetOv
  /-- HELD_VNET_LOW (R96): VNET falls below the 7.0 V hold minimum, and every HELD berth is released to OFF with cause
  SAFE. -/
  | heldVnetLow
  /-- ADC_DISPUTE_DECISION (R183): The three arbitration results decide a transient, a faulty converter replaced by S,
  a faulty S, or an undecided case. -/
  | adcDisputeDecision
  /-- STANDBY_SAMPLE (R198): At 32 Hz in STANDBY the device samples STBY_EN monitors, the current-wake comparator, the
  die shutdown comparators and the KEEP refresh. -/
  | standbySample
  /-- DIE_SHUTDOWN (R214): A quadrant comparator above 160 °C for 16 edges raises TEMP_DIE and takes the hardware safe
  state. -/
  | dieShutdown
  /-- DIE_SHUTDOWN_RELEASE (R214): All four quadrants below 140 °C for 2,048 edges start Keeper again. -/
  | dieShutdownRelease
  /-- FOGHORN_RELEASE (R235): With the ALL-OFF line released and FH_MIN ticks passed, the device releases FOGHORN. -/
  | foghornRelease
  /-- FOGHORN_IN (R237): FOGHORN latched low at two edges while not driven by this device asserts the ALL-OFF line. -/
  | foghornIn
  /-- KEEP_REARM (R243): KEEP returns to ARMED when the KBUS source loop enters SOFTSTART or after 16 non-conducting
  ticks with the loop regulating. -/
  | keepRearm
  /-- KBUS_UV (R245): KBUS stays below KBUS_UV for QUAL ticks, and KBUS_UV is raised once per run. -/
  | kbusUv
  /-- DWELL_COMPLETE (R247): The dwell count reaches DWELL_MS; the hand-over returns to ON_SOURCE, cancels the shutdown
  timer and permits the charger. -/
  | dwellComplete
  /-- SHUTDOWN_TIMER_EXPIRE (R250): The shutdown timer expires, issuing HANDOVER stops to the SD_GROUPS groups and
  optionally requesting STANDBY. -/
  | shutdownTimerExpire
  /-- CHG_ENABLE (R254): EN = 1 with no fault flags takes the charger from OFF to WAIT and resets the session timer. -/
  | chgEnable
  /-- CHG_DISABLE (R254): EN = 0 switches the charger off with cause CMD_OFF. -/
  | chgDisable
  /-- CHG_SUSPEND (R254): SUSPEND = 1 ramps the charge current to 0 and enters SUSPENDED. -/
  | chgSuspend
  /-- CHG_RESUME (R254): SUSPEND = 0 while permitted returns the charger to CHARGING with its profile from 0. -/
  | chgResume
  /-- CHG_OC (R256): Charger current above ICHG_MAX plus 10 % for 64 ticks sets OC and puts the charger in FAULT. -/
  | chgOc
  /-- CHG_TIMER (R256): The session time exceeds SESSION_H hours, raising CHG_TIMER and faulting the charger. -/
  | chgTimer
  /-- CHG_PACK_TEMP (R256): The pack NTC is outside the charge window for 16 ticks, raising PACK_TEMP and faulting the
  charger. -/
  | chgPackTemp
  /-- CHG_FAULT_FLAGS_READ (R257): A clearing read of CHG_FAULT_FLAGS returns and clears the flags, taking a FAULT
  charger to OFF once they read 0. -/
  | chgFaultFlagsRead
  /-- PACK_PRESENT (R259): PACK_DET latched low for PD_QUAL ms makes the pack present; KEEP enters ARMED or DIODE. -/
  | packPresent
  /-- AUTH_PERIODIC (R272): The 600 s period while a pack stays present ends and a new authentication starts. -/
  | authPeriodic
  /-- AUTH_TIMEOUT (R272): No ready reply is latched by the tick in which AUTH_TMO expires, and the attempt fails. -/
  | authTimeout
  /-- GAUGE_REST_ANCHOR (R262): T_REST minutes of rest qualify; SOC is set from the OCV table and UNC to OCV_UNC. -/
  | gaugeRestAnchor
  /-- GAUGE_EOD (R262): The least compensated cell voltage is below VEOD at two rounds in discharge; Q is set to 0. -/
  | gaugeEod
  /-- GAUGE_EOC (R262): The greatest compensated cell voltage is at or above VEOC with taper current at two rounds; Q
  is set to FCC. -/
  | gaugeEoc
  /-- GAUGE_NOREST (R265): REST_AGE reaches 72 h; GAUGE is raised and NOREST set. -/
  | gaugeNorest
  /-- REST_WINDOW_TIMER (R266): Pilot's rest-window timing starts or ends a 20-minute SUSPEND window, or retries after
  1 h. -/
  | restWindowTimer
  /-- GAUGE_SAVE_LATCH (R269): A read of GAUGE_SAVE_0 latches all 16 words of the gauge state at one edge. -/
  | gaugeSaveLatch
  /-- BIV_DOMAIN_RESET (R277): The domain's supply falls below its reset threshold; at power-up OSF is set and the
  calendar and configuration reset. -/
  | bivDomainReset
  /-- RTC_SECOND (R279): The calendar counts one second, carrying into minutes, hours, days, months, years and the
  weekday. -/
  | rtcSecond
  /-- TRIM_WINDOW (R284): A 32 s trim window starts, applying |TRIM| prescaler corrections spread over it. -/
  | trimWindow
  /-- RTC_COMMIT (R281): At the next BIV cycle the stage is checked and loaded, restarting the sub-second count, or
  WR_REJ is set. -/
  | rtcCommit
  /-- MEAS_START (R285): A write of MEAS_START starts counting tick edges over 32,768 BIV cycles, or sets MEAS_ERR when
  TICK_SRC is 1. -/
  | measStart
  /-- MEAS_DONE (R285): The crystal measurement ends; TICKS is written and MEAS_DONE set. -/
  | measDone
  /-- OSC_STOPPED (R286): The 32.768 kHz oscillator gives no edge for 4 cycles; OSF is set and the calendar stops. -/
  | oscStopped
  /-- OSC_RESTART (R286): The oscillator restarts and the calendar resumes from its held value. -/
  | oscRestart
  /-- SWITCH_STAMP_CLEAR (R278): A write of 1 to SW_CLR clears SW_VALID and re-arms the switch-over stamp. -/
  | switchStampClear
  /-- WAKE_IN_ASSERT (R288): WAKE_IN is above its threshold for 33 BIV cycles and counts as asserted, acting as a wake
  source and a start request. -/
  | wakeInAssert
  /-- WAKE_IN_RELEASE (R288): WAKE_IN is below its threshold for 33 BIV cycles and counts as released. -/
  | wakeInRelease
  /-- HOST_WAKE (R289): CSN falls or a start condition appears on TW0 in STANDBY, setting the HOST wake cause when
  enabled. -/
  | hostWake
  /-- WAKE (R289): An enabled wake cause in STANDBY, or device OFF with supply present, starts the device through
  POWERUP. -/
  | wake
  /-- STANDBY_REQUEST (R291): A STANDBY request is accepted in RUN with no group changing and no wake present, or
  refused with STBY_REJ. -/
  | standbyRequest
  /-- OFF_REQUEST (R293): A write of 1 to OFF_REQ, accepted under the STANDBY conditions, takes the device to device
  OFF. -/
  | offRequest
  /-- KEEPER_RESTART (R305): Keeper restarts after a HALT or a commanded restart, with outputs safe, quays cleared and
  BOOT run again. -/
  | keeperRestart
  /-- SYS_RESTART_WRITE (R463): A write of 0x5A to SYS_RESTART asserts the safe-state line, writes the shutdown block
  and starts Keeper. -/
  | sysRestartWrite
  /-- LANTERN_TOGGLE (R310): In READY and RUN LANTERN toggles at each tick edge whose number is a multiple of 1,000. -/
  | lanternToggle
  /-- TICK_STALL (R311): No tick edge occurs for 64 RCOSC cycles; the safe-state line asserts and Keeper is restarted
  with finding STALL. -/
  | tickStall
  /-- WD_PERIOD_EXPIRE (R317): A Watchman period ends without a completed key pair, and WATCHMAN is latched with
  finding EXPIRED. -/
  | wdPeriodExpire
  /-- SCRUB_GO (R331): A write of GO starts a scrub pass over the address range, or sets REFUSED. -/
  | scrubGo
  /-- SCRUB_WORD_READ (R331): Every RATE CORE cycles the scrubber reads and decodes the next word and checks page
  parity at page ends. -/
  | scrubWordRead
  /-- SCRUB_ABORT (R333): A write of ABORT ends the pass at the next word and sets ABORTED. -/
  | scrubAbort
  /-- OTP_COMMAND_DONE (R338): A running OTP command ends, clearing BUSY and leaving ERR and MAXPULSE. -/
  | otpCommandDone
  /-- LOG_RECORD_WRITE (R349): The writer takes the next queued record when an erased slot remains and starts
  programming it. -/
  | logRecordWrite
  /-- LOG_WRITE_DONE (R349): A record's words are programmed, ending with its CRC word. -/
  | logWriteDone
  /-- LOG_ERASE_DONE (R350): A tide page erase completes and the page becomes available. -/
  | logEraseDone
  /-- POWER_LOSS (R356): The higher supply is below 9.0 V at 2 edges; the device runs on VHOLD and writes the blocks
  and the POWER_LOSS record. -/
  | powerLoss
  /-- HOLDUP_LOW (R357): VHOLD stays below 12.0 V for 16 ticks with the supply above 9.0 V, raising HOLDUP. -/
  | holdupLow
  /-- HOLDUP_COMPLETE (R451): The hold-up sequence ends and the device resets. -/
  | holdupComplete
  /-- VHOLD_BROWNOUT (R451): VHOLD falls below its brown-out threshold during hold-up and the device stops at once. -/
  | vholdBrownout
  /-- POWERUP (R447): The higher of VNET and VKB rises above the start threshold, or NRST_IN is released, and POWERUP
  runs until supplies and SYSPLL are ready. -/
  | powerup
  /-- POWERUP_PLL_TIMEOUT (R447): SYSPLL has not locked 2.0 ms into POWERUP; POWERUP ends on RCOSC with TICK_SRC = 1
  and CLOCK latched. -/
  | powerupPllTimeout
  /-- NRST_IN (R437): NRST_IN held low for 10 µs starts POWERUP after completing a running record or OTP command. -/
  | nrstIn
  /-- VIO_LOSS (R448): VIO below its band minimum for 10 µs acts as NRST_IN held low. -/
  | vioLoss
  /-- PILOT_READY (R368): Pilot writes PILOT_READY; the device enters READY and the quays open. -/
  | pilotReady
  /-- SLOT_ERASE_DONE (R431): The erase of an upload target slot completes and chunks are accepted. -/
  | slotEraseDone
  /-- TW_NOTIFY (R394): An enabled ATTN_CAUSE bit of port 1 rising, or the end of NOTIFY_GAP, sends a notify on TW0. -/
  | twNotify
  /-- QP_TAKE (R399): Pilot's read of QP_TAKE takes the next accepted request and holds it open. -/
  | qpTake
  /-- QP_POST (R399): Pilot's write of QP_POST posts the response and closes the open message. -/
  | qpPost
  /-- BEACON_SEND (R410): Once per slow round, in the tick set by NODE_ID, the node sends a BEACON on both sides. -/
  | beaconSend
  /-- HW_RELAY_TIMEOUT (R429): No RELAY_RSP arrives within the applied RELAY_TMO and HW_RELAY returns TIMEOUT. -/
  | hwRelayTimeout
  /-- SYS_INFO (R420): Returns device identity, state, Pilot version, configuration sequence, serial, node and port
  class. -/
  | sysInfo
  /-- SYS_TIME (R420): Returns the local tick, calendar epoch and alignment status. -/
  | sysTime
  /-- SYS_RESTART (R463): Posts its response and then writes SYS_RESTART to make a commanded Keeper restart. -/
  | sysRestart
  /-- SYS_POWER (R291): Posts its response and then requests STANDBY or device OFF. -/
  | sysPower
  /-- SYS_SAFE_EXIT (R308): Writes SAFE_EXIT and returns FAULT_STATE, or STATE when the exit is refused. -/
  | sysSafeExit
  /-- LEASE_GRANT (R402): Grants, renews or forces a lease on a resource and returns its handle and expiry. -/
  | leaseGrant
  /-- LEASE_RELEASE (R403): Releases the port's lease named by the header handle. -/
  | leaseRelease
  /-- LEASE_LIST (R402): Returns the port's own leases. -/
  | leaseList
  /-- BERTH_SET (R426): Switches a berth off, on or toggles it, returning its state, cause and refusal reason. -/
  | berthSet
  /-- BERTH_STATUS (R420): Returns a berth's state, measurements, twin temperatures and last trip tick. -/
  | berthStatus
  /-- BERTH_MAPS (R420): Returns the six berth state maps. -/
  | berthMaps
  /-- BERTH_FT (R71): Writes a berth's fast-trip codes and REV_EN and returns the applied values. -/
  | berthFt
  /-- FEED_STATUS (R425): Returns a feed's state, source voltage, current and reverse count. -/
  | feedStatus
  /-- FEED_FORCE (R61): Writes FORCE_OFF of a feed. -/
  | feedForce
  /-- LOOP_SET (R122): Writes EN of a loop and returns its state and cause. -/
  | loopSet
  /-- LOOP_VSET (R118): Writes a loop set-point as a code and returns the applied voltage. -/
  | loopVset
  /-- LOOP_FORCE (R116): Writes FORCE_EN and FORCE_IDX of a loop. -/
  | loopForce
  /-- LOOP_OPEN (R153): Writes OPEN_REQ of a loop and returns its state and OPEN_SRC. -/
  | loopOpen
  /-- LOOP_RETUNE (R427): Writes all eight coefficient words of a loop through OPEN or live tuning and returns the tick
  of the last. -/
  | loopRetune
  /-- LOOP_STATUS (R420): Returns a loop's state, index, phases, measurements, duty and flags. -/
  | loopStatus
  /-- IREG_SET (R144): Writes EN and the set-point of a buck or LDO and returns the applied voltage. -/
  | iregSet
  /-- IREG_STATUS (R420): Returns a buck or LDO's state, cause, output voltage and command. -/
  | iregStatus
  /-- SEQ_START (R233): Writes START of a group and returns its state and START_PEND. -/
  | seqStart
  /-- SEQ_STOP (R232): Writes STOP of a group and returns its state and cause. -/
  | seqStop
  /-- SEQ_ACK (R234): Writes ACK of a group, returning STATE when ACK_REJ is set. -/
  | seqAck
  /-- SEQ_ALLOFF (R230): Writes ALLOFF_REQ of a domain group. -/
  | seqAlloff
  /-- SEQ_STATUS (R420): Returns a group's state, step, cause, flags and tick of the last change. -/
  | seqStatus
  /-- TEL_ACC (R189): Returns the shadow registers of an accumulator. -/
  | telAcc
  /-- TEL_TRK (R191): Returns the shadow minimum, maximum and their ticks of a tracker. -/
  | telTrk
  /-- TEL_FRAME (R428): Returns 47 telemetry means from the claimed WIN = 1 accumulators. -/
  | telFrame
  /-- CHG_SET (R253): Writes the charger's EN, SUSPEND, ICHG and VCELL_REG and returns the applied values. -/
  | chgSet
  /-- CHG_STATUS (R425): Returns charger, hand-over, KEEP and authentication state with measurements. -/
  | chgStatus
  /-- PACK_AUTH (R272): Starts a pack authentication and answers at once. -/
  | packAuth
  /-- GAUGE_STATUS (R420): Returns SOC, SOH, uncertainty, flags, charge and learning state. -/
  | gaugeStatus
  /-- GAUGE_SAVE (R269): Returns the 64-byte GAUGE_STATE block latched at one edge. -/
  | gaugeSave
  /-- GAUGE_RESTORE (R270): Writes the 16 stage words and the commit, returning RST_ERR. -/
  | gaugeRestore
  /-- BIV_TIME (R282): Returns the calendar fields, RTC_STATUS and BIV_RTC_EPOCH. -/
  | bivTime
  /-- BIV_SET_TIME (R281): Stages and commits a calendar time and returns the epoch after the commit. -/
  | bivSetTime
  /-- BIV_ALARM (R287): Writes the alarm, wake enables and WAKE_OUT sources and returns alarm and wake status. -/
  | bivAlarm
  /-- BIV_TRIM (R284): Writes TRIM, optionally starts a measurement, and returns the last measurement. -/
  | bivTrim
  /-- BIV_USER (R294): Reads or writes bytes of the Bivouac RAM user area. -/
  | bivUser
  /-- BIV_WAKEOUT (R290): Writes WO_HOLD, optionally clears WO_LATCH and returns BIV_WAKEOUT. -/
  | bivWakeout
  /-- FAULT_GET (R420): Returns fault status, first fault, fault state and the history queue. -/
  | faultGet
  /-- FAULT_CLEAR (R307): Clears FAULT_STATUS bits by mask and optionally VALID, returning the status after. -/
  | faultClear
  /-- LOG_INFO (R420): Returns NEXT, OLDEST, LOG_STATUS, TORN and CLEAR_COUNT. -/
  | logInfo
  /-- LOG_READ (R420): Returns the 256-byte Logbook record of a SEQ, or STALE, NOT_FOUND or INTERNAL. -/
  | logRead
  /-- LOG_SNAPSHOT (R352): Writes SNAP to trigger a HOST_SNAPSHOT record carrying the request's tag. -/
  | logSnapshot
  /-- LOG_CLEAR (R359): Submits a signed clear token; Keeper verifies it and answers after the CLEAR record is written.
  -/
  | logClear
  /-- HW_STATUS (R420): Returns the Hawser status, alignment, ring offset, cable delays and master. -/
  | hwStatus
  /-- HW_RELAY (R429): Sends a quay message to a remote node in a RELAY_REQ and returns its response or TIMEOUT. -/
  | hwRelay
  /-- HW_RELAY_MORE (R430): Returns further bytes of the held remote response message. -/
  | hwRelayMore
  /-- CFG_INFO (R420): Returns the configuration slots' sequence numbers, slot in force and refusal details. -/
  | cfgInfo
  /-- CFG_BEGIN (R380): Starts a configuration upload by erasing the slot not in force, or returns STALE. -/
  | cfgBegin
  /-- CFG_CHUNK (R431): Programs the next chunk of the configuration upload in order. -/
  | cfgChunk
  /-- CFG_END (R377): Ends the configuration upload and returns the result of the slot checks. -/
  | cfgEnd
  /-- FW_INFO (R420): Returns the Pilot slot versions, running slot, boot record and PILOT_EPOCH. -/
  | fwInfo
  /-- FW_BEGIN (R371): Starts a Pilot upload by erasing the inactive slot. -/
  | fwBegin
  /-- FW_CHUNK (R431): Programs the next chunk of the Pilot upload in order. -/
  | fwChunk
  /-- FW_END (R370): Ends the Pilot upload and returns the result of the slot validity check. -/
  | fwEnd
  /-- FW_ACTIVATE (R373): Marks the valid inactive Pilot slot as pending in the boot record. -/
  | fwActivate
  /-- OTP_READ (R335): Returns logical OTP words read as the majority of three copies. -/
  | otpRead
  /-- OTP_PROGRAM (R383): Asks Keeper to program a signed OTP word and returns ERR and MAXPULSE. -/
  | otpProgram
  /-- OTP_PATCH (R362): Asks Keeper to program a vendor-signed patch slot. -/
  | otpPatch
  /-- OTP_FINALISE (R342): Asks Keeper to finalise a region under a signed request. -/
  | otpFinalise
  /-- OTP_TRANSFER (R346): Installs a new owner key in the next slot and increments OWNER_TRANSFER under a signed
  request. -/
  | otpTransfer
  /-- OTP_COUNTERS (R344): Returns the values of the 32 OTP counters. -/
  | otpCounters
  /-- REG_READ (R432): Returns words of the internal address space for an OWNER-class host. -/
  | regRead
  /-- REG_WRITE (R432): Writes words of the internal address space in ascending order, stopping at the first refusal.
  -/
  | regWrite
  /-- REG_MODIFY (R432): Performs a masked read-modify-write of one register and returns the values before and after.
  -/
  | regModify
  /-- NOTIFY_RETRY (R394): A TW0 notify whose address or data was not acknowledged is sent again 1 ms later, at most
  twice, and is then dropped. -/
  | notifyRetry
  /-- SYS_DEFERRED_WRITE (R463): 10 ms after posting a SYS_RESTART or SYS_POWER response with no ACK, Pilot writes
  SYS_RESTART, STBY_REQ or OFF_REQ. -/
  | sysDeferredWrite
  deriving DecidableEq, Repr

end Sys2Proof
end

