-- ==== Sys2Proof/Machine/Memory.lean ====
section
/-! DEFINITION. SRAM, flash and ROM with their codes: spec/13_memories_otp.md, R318 to R327. A stored word is its data
bytes, the syndrome its check bits give (0 = a clean codeword) and its 3-bit mark; a page is its data and, for each
parity byte, the difference between the stored parity and the sum of the stored data (0 = consistent). -/
namespace Sys2Proof.Machine

/-- The memories. `cells`: bytes that differ from what an unlisted byte reads as; of ROM, the bits that differ from its contents. `syn`, `mark`: by word address.
`par`: by page address plus interleave. `prog`: the words programmed since the erase of a flash page, one bit each. -/
structure Mem where
  cells : List Host.Cell := []
  syn : Tab Nat := []
  mark : Tab Nat := []
  par : Tab Nat := []
  prog : Tab Nat := []
  deriving DecidableEq, Repr

/-- An address in SRAM; in flash; in ROM (table Address map). -/
def isSram (a : Nat) : Bool := decide (0x20000000 ≤ a) && decide (a < 0x20100000)
def isFlash (a : Nat) : Bool := decide (0x10000000 ≤ a) && decide (a < 0x10800000)
def isRom (a : Nat) : Bool := decide (a < 0x18000)

/-- What an unlisted byte reads as: 0xFF in flash (erased), 0 in SRAM (DESIGN CHOICE). -/
def memDefault (a : Nat) : BitVec 8 := if isFlash a then 0xFF else 0

/-- The canonical form of the memory contents: rising addresses, none at its default. -/
def Mem.wf (m : Mem) : Bool := Tab.wf memDefault m.cells

/-- One byte of SRAM or flash as stored; of ROM its difference. -/
def Mem.byte (m : Mem) (a : Nat) : BitVec 8 := Tab.get m.cells (memDefault a) a

/-- One byte stored. -/
def Mem.setByte (m : Mem) (a : Nat) (v : BitVec 8) : Mem := { m with cells := Tab.put m.cells (memDefault a) a v }

/-- Bytes stored from an address on. -/
def Mem.setBytes (m : Mem) (a : Nat) : List Nat → Mem
  | [] => m
  | x :: r => Mem.setBytes (m.setByte a (BitVec.ofNat 8 x)) (a + 1) r

/-- `n` bytes as stored. -/
def Mem.rawBytes (m : Mem) (a n : Nat) : List Nat := (List.range n).map fun i => (m.byte (a + i)).toNat

/-- One byte of any memory as stored. -/
def Mem.anyByte (m : Mem) (a : Nat) : Nat := if isRom a then Config.romByte a % 256 ^^^ (m.byte a).toNat else (m.byte a).toNat

/-- The 64-bit word at an aligned address, as stored. -/
def Mem.raw64 (m : Mem) (a : Nat) : Nat := leNat ((List.range 8).map fun i => m.anyByte (a + i))

/-- A column of data bits in the check matrix of a Hsiao code of `w` check bits: odd weight above 1 (PRESUMED). -/
def hsiaoCol (w c : Nat) : Bool := (bitsSet w c).length % 2 == 1 && decide (3 ≤ (bitsSet w c).length)

/-- The columns of a Hsiao code: of `w` bits, each as above, no two alike (PRESUMED). -/
def hsiaoOk (w : Nat) (l : List Nat) : Bool := l.all (fun c => decide (c < 2 ^ w) && hsiaoCol w c) && decide l.Nodup

/-- The columns of the `n` data bits: those that are left open, where they are a Hsiao code's; else the first that are. -/
def hsiaoPick (w n : Nat) (f : Nat → Nat) : List Nat :=
  if hsiaoOk w ((List.range n).map f) then (List.range n).map f else ((List.range (2 ^ w)).filter (hsiaoCol w)).take n

/-- The column of data bit `i` of a (72,64) word, and of a (39,32) word of an engine store (R318). -/
def wordColumn (i : Nat) : Nat := (hsiaoPick 8 64 Config.hsiaoColumn).getD i 0
def engineColumn (i : Nat) : Nat := (hsiaoPick 7 32 Config.engineColumn).getD i 0

/-- The check byte of a word (R318). -/
def checkByte (v : Nat) : Nat := (bitsSet 64 v).foldl (fun c i => c ^^^ wordColumn i) 0

/-- The word at an address is poisoned: the majority of its mark bits (R318). -/
def Mem.poisoned (m : Mem) (a : Nat) : Bool :=
  decide (2 ≤ (bitsSet 3 (Tab.get m.mark 0 a)).length)

/-- The mark of a word set. -/
def Mem.setMark (m : Mem) (a v : Nat) : Mem := { m with mark := Tab.put m.mark 0 a v }

/-- The syndrome of a word set. -/
def Mem.setSyn (m : Mem) (a v : Nat) : Mem := { m with syn := Tab.put m.syn 0 a v }

/-- What the word code says of a stored word (R319). -/
inductive Dec where
  | poisoned | clean | bad
  | fixed (v : Nat)
  deriving DecidableEq, Repr

/-- The decoding of a word (R319). -/
def Mem.decode (m : Mem) (a : Nat) : Dec :=
  let s := Tab.get m.syn 0 a
  let v := m.raw64 a
  if m.poisoned a then .poisoned
  else if s = 0 then .clean
  else match (List.range 64).find? fun i => wordColumn i == s with
    | some i => .fixed (if bit v i then clrBit v i else setBit v i)
    | none => if (List.range 8).any fun j => s == 2 ^ j then .fixed v else .bad

/-- The page of an address and its length: 2 KiB in SRAM, 4 KiB in flash. -/
def pageBase (a : Nat) : Nat := if isSram a then a / 2048 * 2048 else a / 4096 * 4096
def pageLen (a : Nat) : Nat := if isSram a then 2048 else 4096

/-- The stored parity byte `j` of a page: the sum of the stored bytes of its interleave and their difference from it (R320). -/
def Mem.parity (m : Mem) (base j : Nat) : Nat :=
  (List.range (pageLen base / 32)).foldl (fun c i => c ^^^ m.anyByte (base + j + 32 * i)) (Tab.get m.par 0 (base + j))

/-- A flash page is sealed: its last word is programmed (R326). -/
def Mem.sealed (m : Mem) (a : Nat) : Bool := bit (Tab.get m.prog 0 (a / 4096)) 511

/-- The uncorrectable, unpoisoned words of a page. -/
def Mem.badWords (m : Mem) (base len : Nat) : List Nat :=
  (List.range (len / 8)).filterMap fun i => if m.decode (base + 8 * i) = .bad then some (base + 8 * i) else none

/-- The page code corrects these words: no two share an interleave class (R321). -/
def pageCorrects (l : List Nat) : Bool :=
  (List.range 4).all fun c => decide ((l.filter fun a => a / 8 % 4 == c).length ≤ 1)

/-- The parity difference of the byte at an address. -/
def Mem.parOf (m : Mem) (a : Nat) : Nat := Tab.get m.par 0 (pageBase a + a % 32)

/-- The single-bit errors of a page that its reading corrects: word address and difference (R319). -/
def Mem.fixes (m : Mem) (base len : Nat) : List (Nat × Nat) :=
  (List.range (len / 8)).filterMap fun i => match m.decode (base + 8 * i) with
    | .fixed v => some (base + 8 * i, m.raw64 (base + 8 * i) ^^^ v)
    | _ => none

/-- A word rebuilt from the parity bytes and the other bytes of its interleaves as they are read: the stored bytes with the parity
difference, and that of the words corrected on reading, added (R321). -/
def Mem.rebuilt (m : Mem) (a : Nat) : Nat :=
  let own := (m.fixes (pageBase a) (pageLen a)).filter fun p => p.1 / 8 % 4 == a / 8 % 4
  leNat ((List.range 8).map fun i =>
    own.foldl (fun c p => c ^^^ (leBytes 8 p.2).getD i 0) (m.anyByte (a + i) ^^^ m.parOf (a + i)))

/-- A word stored with a clean codeword, the stored parity left as it is: the difference takes up the change. -/
def Mem.putKeepParity (m : Mem) (a v : Nat) : Mem :=
  let old := m.raw64 a
  let bs := leBytes 8 (old ^^^ v)
  let m1 := (m.setBytes a (leBytes 8 v)).setSyn a 0
  (List.range 8).foldl (fun m i =>
    { m with par := Tab.put m.par 0 (pageBase (a + i) + (a + i) % 32) (m.parOf (a + i) ^^^ bs.getD i 0) }) m1

/-- The parity of a page recomputed from its data. -/
def Mem.freshParity (m : Mem) (base : Nat) : Mem :=
  { m with par := m.par.filter fun p => !(decide (base ≤ p.1) && decide (p.1 < base + 32)) }

/-- What a read or a write met: a single-bit correction, a page corrected, an uncorrectable page; with the address. -/
inductive EccEvt where
  | corr (a : Nat) | page (a : Nat) | unc (a : Nat)
  deriving DecidableEq, Repr

/-- The page decoder run for the word at `a` (R321, R322): the value delivered, whether it carries a mark. -/
def Mem.pageDecode (m : Mem) (a : Nat) : Nat × Bool × Mem × EccEvt :=
  let bad := m.badWords (pageBase a) (pageLen a)
  let sealedOk := isSram a || m.sealed a
  if sealedOk ∧ pageCorrects bad then
    (m.rebuilt a, false,
      if isSram a then bad.foldl (fun m x => m.putKeepParity x (m.rebuilt x)) m else m, .page a)
  else
    (m.raw64 a, true, if isSram a then bad.foldl (fun m x => m.setMark x 7) m else m, .unc a)

/-- A read of a 64-bit word (R319, R322, R323). -/
def Mem.read64 (m : Mem) (a : Nat) : Nat × Bool × Mem × List EccEvt :=
  match m.decode a with
  | .poisoned => (m.raw64 a, true, m, [])
  | .clean => (m.raw64 a, false, m, [])
  | .fixed v => (v, false, if isSram a then m.putKeepParity a v else m, [.corr a])
  | .bad =>
    if isRom a then (m.raw64 a, true, m, [.unc a])
    else let (v, p, m, e) := m.pageDecode a; (v, p, m, [e])

/-- `n` bytes read word by word: the bytes, whether any word was poisoned, the memory and the events. -/
def Mem.readBytes (m : Mem) (a n : Nat) : List Nat × Bool × Mem × List EccEvt :=
  let first := a / 8
  let words := (a + n + 7) / 8 - first
  let (l, p, m, ev) := (List.range words).foldl (fun (acc : List Nat × Bool × Mem × List EccEvt) i =>
    let (l, p, m, ev) := acc
    let (v, p', m, ev') := m.read64 ((first + i) * 8)
    (l ++ leBytes 8 v, p || p', m, ev ++ ev')) ([], false, m, [])
  ((l.drop (a % 8)).take n, p, m, ev)

/-- `n` bytes as they are read, with the corrections of the codes; none of them poisoned (R319, R322). What Keeper found in its own
reads of the memory, whose effects are those of the reads themselves (`keeperRead`). -/
def Mem.seen (m : Mem) (a n : Nat) : List Nat := (m.readBytes a n).1
def Mem.seenOk (m : Mem) (a n : Nat) : Bool := !(m.readBytes a n).2.1

/-- The bytes of one word replaced from offset `o` on. -/
def mergeBytes (old : Nat) (o : Nat) (l : List Nat) : Nat :=
  let b := leBytes 8 old
  leNat (b.take o ++ l ++ b.drop (o + l.length))

/-- A write of at most 8 bytes into one SRAM word (R324, R325). -/
def Mem.sramWord (m : Mem) (a : Nat) (l : List Nat) : Mem × List EccEvt :=
  let w := a / 8 * 8
  let full := decide (l.length = 8)
  let fin (m : Mem) (old : Nat) (clear : Bool) : Mem :=
    -- the parity takes (old ⊕ new): the difference takes up only what the old word's decoding changed
    let m := m.putKeepParity w old
    let m := (m.setBytes w (leBytes 8 (mergeBytes old (a % 8) l))).setSyn w 0
    if clear then m.setMark w 0 else m
  match m.decode w with
  | .poisoned => (fin m (m.raw64 w) full, [])
  | .clean => (fin m (m.raw64 w) full, [])
  | .fixed v => (fin m v full, [.corr w])
  | .bad =>
    let (v, p, m, e) := m.pageDecode w
    let m := fin m v full
    (if p then m.freshParity (pageBase w) else m, [e])

/-- A write of a list of bytes to SRAM, word by word. -/
def Mem.sramWrite (m : Mem) (a : Nat) (l : List Nat) : Nat → Mem × List EccEvt
  | 0 => (m, [])
  | fuel + 1 =>
    if l = [] then (m, [])
    else
      let k := 8 - a % 8
      let (m, e) := m.sramWord a (l.take k)
      let (m, e') := Mem.sramWrite m (a + k) (l.drop k) fuel
      (m, e ++ e')

/-- A flash page erased (R326). -/
def Mem.flashErase (m : Mem) (a : Nat) : Mem :=
  let base := a / 4096 * 4096
  let inPage (k : Nat) : Bool := decide (base ≤ k) && decide (k < base + 4096)
  { m with
    cells := m.cells.filter fun p => !inPage p.1
    syn := m.syn.filter fun p => !inPage p.1
    mark := m.mark.filter fun p => !inPage p.1
    par := m.par.filter fun p => !inPage p.1
    prog := Tab.del m.prog (a / 4096) }

/-- A word of a flash page is programmed. -/
def Mem.programmed (m : Mem) (a : Nat) : Bool := bit (Tab.get m.prog 0 (a / 4096)) (a / 8 % 512)

/-- A 64-bit word programmed: refused for a word programmed before and in a sealed page; the last word of a page seals it, with the parity
of its data (R326). -/
def Mem.flashProgram (m : Mem) (a v : Nat) : Option Mem :=
  let w := a / 8 * 8
  if m.sealed w || m.programmed w then none
  else
    let m := (m.setBytes w (leBytes 8 v)).setSyn w 0
    let m := { m with prog := Tab.put m.prog 0 (w / 4096) (setBit (Tab.get m.prog 0 (w / 4096)) (w / 8 % 512)) }
    some (if m.sealed w then m.freshParity (w / 4096 * 4096) else m)

/-- Bytes programmed into erased flash word by word, the last word filled with 0xFF; words refused are left. -/
def Mem.flashWrite (m : Mem) (a : Nat) (l : List Nat) : Nat → Mem
  | 0 => m
  | fuel + 1 =>
    if l = [] then m
    else
      let w := l.take 8
      let v := leNat (w ++ List.replicate (8 - w.length) 255)
      Mem.flashWrite ((m.flashProgram a v).getD m) (a + 8) (l.drop 8) fuel

/-- The flash controller takes a program of `n` words from an address on: none of them programmed before, none in a sealed page
(R326). -/
def Mem.flashTakes (m : Mem) (a n : Nat) : Bool :=
  (List.range n).all fun i => !m.sealed (a + 8 * i) && !m.programmed (a + 8 * i)

end Sys2Proof.Machine
end

