-- ==== Sys2Proof/Machine/Ops.lean ====
section
/-! DEFINITION. The named operations over register fields, input signals, samples and error lines. -/
namespace Sys2Proof.Machine

/-- The value of a field of instance `i`. -/
def Blk.f (b : Blk) (F : Fld) (i : Nat) : Nat := Tab.get b.regs (F.rstAt i) (F.key i)

/-- A field of instance `i` set; the value is cut to the field's width. -/
def Blk.setF (b : Blk) (F : Fld) (i v : Nat) : Blk :=
  { b with regs := Tab.put b.regs (F.rstAt i) (F.key i) (v % 2 ^ F.w) }

/-- A field read as a signed number. -/
def Blk.fi (b : Blk) (F : Fld) (i : Nat) : Int := sx F.w (b.f F i)

/-- A field set to a signed number. -/
def Blk.setFi (b : Blk) (F : Fld) (i : Nat) (v : Int) : Blk := b.setF F i (ux F.w v)

/-- A one-bit field read as a condition. -/
def Blk.on (b : Blk) (F : Fld) (i : Nat) : Bool := b.f F i == 1

/-- A one-bit field set to a condition. -/
def Blk.setOn (b : Blk) (F : Fld) (i : Nat) (p : Bool) : Blk := b.setF F i (b2n p)

/-- A count incremented, stopping at the field's largest value. -/
def Blk.bump (b : Blk) (F : Fld) (i : Nat) : Blk := b.setF F i (satInc (2 ^ F.w - 1) (b.f F i))

/-- A count incremented, wrapping at the field's width. -/
def Blk.incr (b : Blk) (F : Fld) (i : Nat) : Blk := b.setF F i (b.f F i + 1)

/-- Bit `j` of a field set. -/
def Blk.setBitF (b : Blk) (F : Fld) (i j : Nat) : Blk := b.setF F i (setBit (b.f F i) j)

/-- Bit `j` of a field cleared. -/
def Blk.clrBitF (b : Blk) (F : Fld) (i j : Nat) : Blk := b.setF F i (clrBit (b.f F i) j)

/-! Bits that a 1 clears (R6). Beside the fields, under keys above the address space, the registers keep which such bits the device has
set: since the edge (base 2^40), and in the edge or the tick before it (base 2^41). -/

/-- Bits `m` at bit address `key` noted as set in this tick. -/
def Blk.note (b : Blk) (key m : Nat) : Blk :=
  { b with regs := Tab.put b.regs 0 (2 ^ 40 + key) (Tab.get b.regs 0 (2 ^ 40 + key) ||| m) }

/-- The bits at `key` that a clear made now does not remove. -/
def Blk.noted (b : Blk) (key : Nat) : Nat := Tab.get b.regs 0 (2 ^ 40 + key) ||| Tab.get b.regs 0 (2 ^ 41 + key)

/-- The key under which the bits of a port's ATTN_CAUSE are noted. -/
def attnKey (p : Nat) : Nat := 2 ^ 39 + 32 * p

/-- Bits `m` of a W1C field set by the device. -/
def Blk.flag (b : Blk) (F : Fld) (i : Nat) (m : Nat := 1) : Blk := (b.setF F i (b.f F i ||| m)).note (F.key i) m

/-- Bits `m` of a W1C field cleared by a write: not those set in the same tick. -/
def Blk.unflag (b : Blk) (F : Fld) (i : Nat) (m : Nat := 1) : Blk :=
  b.setF F i ((b.f F i &&& ((2 ^ F.w - 1) ^^^ (m % 2 ^ F.w))) ||| (b.f F i &&& b.noted (F.key i)))

/-- The notes of the running span become those of the one before, which are dropped. -/
def Blk.ageNotes (b : Blk) : Blk :=
  { b with regs := (b.regs.filter fun p => decide (p.1 < 2 ^ 41)).map fun p =>
      if p.1 < 2 ^ 40 then p else (p.1 + 2 ^ 40, p.2) }

/-- A pair of fields that hold the low and high half of a 64-bit number. -/
def Blk.set64 (b : Blk) (lo hi : Fld) (i v : Nat) : Blk := (b.setF lo i (v % 2 ^ 32)).setF hi i (v / 2 ^ 32)

/-- The 64-bit number two fields hold. -/
def Blk.f64 (b : Blk) (lo hi : Fld) (i : Nat) : Nat := b.f lo i + b.f hi i * 2 ^ 32

/-- An input signal as last latched. -/
def Blk.sig (b : Blk) (s : Sig) : Int := Tab.get b.env 0 s.key

/-- An input signal set. -/
def Blk.setSig (b : Blk) (s : Sig) (v : Int) : Blk := { b with env := Tab.put b.env 0 s.key v }

/-- The last sample of a channel (R173). -/
def Blk.sample (b : Blk) (c : Nat) : Smp := Tab.get b.smp {} c

/-- The calibrated value of the last unpoisoned sample of a channel. -/
def Blk.cal (b : Blk) (c : Nat) : Int := (b.sample c).cal

/-- An error line raised in tick `t` for an object: it is latched at the next run of the collector (R296). -/
def Blk.raiseFor (b : Blk) (t src detail : Nat) (o : Obj) : Blk :=
  { b with lines := b.lines ++ [⟨src, detail, o, t⟩] }

/-- An error line without an object of its own. -/
def Blk.raise (b : Blk) (t src detail : Nat) : Blk := b.raiseFor t src detail .none

/-- The lines an object raised in this tick withdrawn: only the source of the event that acts is raised (R38). -/
def Blk.dropLines (b : Blk) (t : Nat) (o : Obj) : Blk :=
  { b with lines := b.lines.filter fun l => !(l.obj == o && l.tk == t) }

/-- The state an event of place `prio` finds at an object in state `now`: the state before the event that acted in this
tick when that event comes later in the order, none when it comes first (R38, R122, R139). -/
def Blk.found (b : Blk) (t : Nat) (o : Obj) (prio now : Nat) : Option Nat :=
  let e := Tab.get b.evts {} o.key
  if o = .none ∨ e.tk ≠ t + 1 then some now else if prio < e.prio then some e.found else none

/-- An event of place `prio` acts on an object it found in state `st`. -/
def Blk.acted (b : Blk) (t : Nat) (o : Obj) (prio st : Nat) : Blk :=
  { (b.dropLines t o) with evts := Tab.put b.evts {} o.key ⟨t + 1, prio, st⟩ }

/-- A berth's state beside its registers. -/
def Blk.brt (b : Blk) (nn : Nat) : Berth := Tab.get b.berth {} nn

/-- The same, replaced. -/
def Blk.setBrt (b : Blk) (nn : Nat) (x : Berth) : Blk := { b with berth := Tab.put b.berth {} nn x }

/-- A feed's state beside its registers. -/
def Blk.fd (b : Blk) (n : Nat) : Feed := Tab.get b.feed {} n

/-- The same, replaced. -/
def Blk.setFd (b : Blk) (n : Nat) (x : Feed) : Blk := { b with feed := Tab.put b.feed {} n x }

/-- A loop's state beside its registers. -/
def Blk.lp (b : Blk) (n : Nat) : Loop := Tab.get b.loop {} n

/-- The same, replaced. -/
def Blk.setLp (b : Blk) (n : Nat) (x : Loop) : Blk := { b with loop := Tab.put b.loop {} n x }

/-- A phase's state beside its registers. -/
def Blk.ph (b : Blk) (p : Nat) : Phase := Tab.get b.phase {} p

/-- The same, replaced. -/
def Blk.setPh (b : Blk) (p : Nat) (x : Phase) : Blk := { b with phase := Tab.put b.phase {} p x }

/-- A buck's state beside its registers. -/
def Blk.bk (b : Blk) (n : Nat) : Buck := Tab.get b.buck {} n

/-- The same, replaced. -/
def Blk.setBk (b : Blk) (n : Nat) (x : Buck) : Blk := { b with buck := Tab.put b.buck {} n x }

/-- An LDO's state beside its registers. -/
def Blk.ld (b : Blk) (n : Nat) : Ldo := Tab.get b.ldo {} n

/-- The same, replaced. -/
def Blk.setLd (b : Blk) (n : Nat) (x : Ldo) : Blk := { b with ldo := Tab.put b.ldo {} n x }

/-- A monitor's state beside its registers. -/
def Blk.mn (b : Blk) (n : Nat) : Mon := Tab.get b.mon {} n

/-- The same, replaced. -/
def Blk.setMn (b : Blk) (n : Nat) (x : Mon) : Blk := { b with mon := Tab.put b.mon {} n x }

/-- A sensor's state beside its registers. -/
def Blk.sn (b : Blk) (s : Nat) : Sens := Tab.get b.sens {} s

/-- The same, replaced. -/
def Blk.setSn (b : Blk) (s : Nat) (x : Sens) : Blk := { b with sens := Tab.put b.sens {} s x }

/-- The divider ratio of monitor `nn` (R195); for the code 3, which the checker refuses, the spec gives none. -/
def Blk.monRatio (b : Blk) (nn : Nat) : Nat :=
  match b.f MON_CFG.DIV nn with
  | 0 => 1
  | 1 => 4
  | 2 => 16
  | _ => Config.monRatio

/-- The monitor whose divided input channel `c` is: 0x090 + nn. -/
def monOf (c : Nat) : Option Nat := if 0x90 ≤ c ∧ c < 0xB0 then some (c - 0x90) else none

/-- The value of channel `c` that a converter sees: of a monitor the input after its divider, rounded down to a whole unit. -/
def Blk.chan (b : Blk) (c : Nat) : Int :=
  match monOf c with
  | some nn => b.sig (.cal c) / (b.monRatio nn : Int)
  | none => b.sig (.cal c)

/-- The raw code of channel `c` before a converter's own deviation, as `Blk.chan`. -/
def Blk.chanCode (b : Blk) (c : Nat) : Int :=
  match monOf c with
  | some nn => b.sig (.raw c) / (b.monRatio nn : Int)
  | none => b.sig (.raw c)

/-- A throttle channel's state beside its registers. -/
def Blk.th (b : Blk) (k : Nat) : Thr := Tab.get b.thr {} k

/-- The same, replaced. -/
def Blk.setTh (b : Blk) (k : Nat) (x : Thr) : Blk := { b with thr := Tab.put b.thr {} k x }

/-- A group's state beside its registers. -/
def Blk.gr (b : Blk) (g : Nat) : Grp := Tab.get b.grp {} g

/-- The same, replaced. -/
def Blk.setGr (b : Blk) (g : Nat) (x : Grp) : Blk := { b with grp := Tab.put b.grp {} g x }

/-- The value a reference to sensor `s` uses: USED in m°C (R78, R207). -/
def Blk.temp (b : Blk) (s : Nat) : Int := b.fi TS_VAL.USED s * 10

/-- The device is in SAFE, in this tick or from the next edge, or the safe-state line is asserted: nothing leaves off (R464). -/
def Blk.safeNow (b : Blk) : Bool := b.dev == .safe || b.devEdge == .safe || b.on FAULT_STATE.SAFE_LINE 0

/-- Output `o` is a member of the ALL-OFF domain and the line is held: it cannot be enabled (R231). -/
def Blk.lineBars (b : Blk) (o : Nat) : Bool :=
  b.on SEQ_DOMAIN.ALLOFF_LINE 0 && decide (b.f SEQ_OUT_CFG.GROUP o < 8) && b.on SEQ_GRP_CFG.DOMAIN (b.f SEQ_OUT_CFG.GROUP o)

/-- Output `o` cannot be enabled now (R231, R464). -/
def Blk.barred (b : Blk) (o : Nat) : Bool := b.safeNow || b.lineBars o

/-! The scrubber ends (R333) -/

/-- The end of a pass; its summary stays. -/
def scrubEnd (b : Blk) (aborted : Bool) : Blk :=
  let b := (b.setF SCRUB_STATUS.BUSY 0 0).flag SCRUB_STATUS.DONE 0
  if aborted then b.setF SCRUB_STATUS.ABORTED 0 1 else b

/-- An entry to STANDBY or device OFF. -/
def scrubStop (b : Blk) : Blk := if b.on SCRUB_STATUS.BUSY 0 then scrubEnd b true else b

/-- A write of ABORT: the pass ends at the next word. -/
def scrubAbort (b : Blk) : Blk := if b.on SCRUB_STATUS.BUSY 0 then { b with scrub := { b.scrub with abort := true } } else b

/-- The run of a condition over consecutive ticks: any tick that fails it restarts the count (R63). -/
def Run.tick (r : Run) (p : Bool) : Run := if p then { r with n := r.n + 1 } else {}

/-- A count of consecutive ticks of a condition. -/
def runN (n : Nat) (p : Bool) : Nat := if p then n + 1 else 0

end Sys2Proof.Machine
end

