-- ==== Sys2Proof/Machine/State.lean ====
section
/-! DEFINITION. The state of the device: its waiting commands, its tick counter, its memories and the rest of the block; the
stops; the state after reset. -/
namespace Sys2Proof.Machine

/-- The device. `pending`: the commands that wait, first in, first out. `tick`: the tick counter (R10, R11). -/
structure State where
  pending : List Instr := []
  tick : Nat := 0
  mem : Mem := {}
  b : Blk := {}
  deriving DecidableEq, Repr

/-- The faults of a run: no command of this device ends in one. -/
inductive Fault where
  deriving DecidableEq, Repr

/-- The refusals. -/
inductive Refusal where
  /-- No meaning yet: raised by an arm of the dispatch and by nothing else. Safe: nothing is proved of what the command does. -/
  | notModelled (mnemonic : String)
  /-- An instruction other than BYPASS and IDCODE shifted into an unlocked test port (R347): raised by TEST_PORT_INSTRUCTION. The
  spec names no such instruction and no effect of one. Safe: the run stops where the device might go on. -/
  | testInstruction (code : Nat)
  deriving DecidableEq, Repr

/-- Right after POWERUP: every register at its reset value, memories erased or cleared, ADDR_SEL read as shorted to GND, no
command waiting. -/
def State.reset : State := { b := Blk.setF {} HOST_TW_CFG.TW0_ADDR 0 0x40 }

end Sys2Proof.Machine
end

