-- ==== Sys2Proof/Machine/Otp.lean ====
section
/-! DEFINITION. The one-time-programmable store (spec/13_memories_otp.md, R334 to R347) and the use of spares (R384). -/
namespace Sys2Proof.Machine

/-- A list of words as bytes. -/
def wordBytes (l : List Nat) : List Nat := l.flatMap fun w => leBytes 4 w

/-- The digest of the FACTORY region as shipped (R337). -/
def factoryDigest : List Nat :=
  sha256 (wordBytes ((List.range 248).map fun w => Config.factoryWord w % 2 ^ 32))

/-- What an OTP word holds at device test: the FACTORY region with its digest, bit 0 of every counter (R344). -/
def otpShipped (k : Nat) : Nat :=
  if k = 0x30000 ∨ k = 0x30001 ∨ k = 0x30002 then 1
  else if 12288 ≤ k then 0
  else
    let w := k % 4096
    if w < 248 then Config.factoryWord w % 2 ^ 32
    else if w < 256 then leAt factoryDigest (4 * (w - 248)) 4
    else if 1024 ≤ w ∧ w < 1280 ∧ w % 8 = 0 then 1 else 0

/-- A physical OTP location. -/
def Blk.otpLoc (b : Blk) (k : Nat) : Nat := Tab.get b.otp (otpShipped k) k

/-- Bits of a physical location programmed: an erased bit reads 0 and programming only sets bits. -/
def Blk.otpSet (b : Blk) (k v : Nat) : Blk := { b with otp := Tab.put b.otp (otpShipped k) k (b.otpLoc k ||| v) }

/-- A redirection entry, and the finalise word, read as the majority of three copies (R335). -/
def Blk.redir (b : Blk) (e : Nat) : Nat :=
  maj3 (b.otpLoc (0x20000 + e)) (b.otpLoc (0x20040 + e)) (b.otpLoc (0x20080 + e))
def Blk.finWord (b : Blk) : Nat := maj3 (b.otpLoc 0x30000) (b.otpLoc 0x30001) (b.otpLoc 0x30002)

/-- The entry value that redirects row `r` of copy `c`. -/
def redirVal (c r : Nat) : Nat := 0x8000 + c * 256 + r

/-- The physical place of word `w` of copy `c`, by way of a valid redirection entry. -/
def Blk.otpPlace (b : Blk) (c w : Nat) : Nat :=
  match (List.range 64).find? fun e => b.redir e == redirVal c (w / 8) with
  | some e => 0x10000 + 8 * e + w % 8
  | none => c * 4096 + w

/-- A logical word (R335). -/
def Blk.otpRead (b : Blk) (w : Nat) : Nat :=
  maj3 (b.otpLoc (b.otpPlace 0 w)) (b.otpLoc (b.otpPlace 1 w)) (b.otpLoc (b.otpPlace 2 w))

/-- Logical bytes of the OTP. -/
def Blk.otpBytes (b : Blk) (a n : Nat) : List Nat :=
  (List.range n).map fun i => b.otpRead ((a + i) / 4) / 256 ^ ((a + i) % 4) % 256

/-- The number of valid redirection entries. -/
def Blk.redirUsed (b : Blk) : Nat := ((List.range 64).filter fun e => decide (0x8000 ≤ b.redir e)).length

/-- The value of counter `k` (R344). -/
def Blk.counter (b : Blk) (k : Nat) : Nat :=
  Nat.log2 (leNat ((List.range 32).map fun i => b.otpRead (1024 + 8 * k + i / 4) / 256 ^ (i % 4) % 256))

/-- Counter `k` with the increments of it that Keeper has still to make. -/
def Blk.counterDue (b : Blk) (k : Nat) : Nat := b.counter k + b.otpWait.count k

/-- The end of an OTP command with an error code (0 = OK). -/
def otpErr (b : Blk) (e : Nat) : Blk := b.setF OTP_STATUS.ERR 0 e

/-- A command accepted: BUSY, no error and no pulse yet (R338). -/
def otpStart (b : Blk) : Blk := ((otpErr b 0).setF OTP_STATUS.BUSY 0 1).setF OTP_STATUS.MAXPULSE 0 0

/-- MAXPULSE with the pulses of one copy. -/
def otpPulsed (b : Blk) (n : Nat) : Blk := b.setF OTP_STATUS.MAXPULSE 0 (max n (b.f OTP_STATUS.MAXPULSE 0))

/-- Copy `c` of a word programmed (R338 steps 2 and 3): nothing where no bit must become 1; else 1 to 8 pulses, or, where it still
fails after 8, a redirection to be made. -/
def otpCopy (b : Blk) (w v c : Nat) : Blk :=
  let k := b.otpPlace c w
  if b.otpLoc k &&& v = v then b
  else if b.sig (.otpFail c) = 0 then otpPulsed (b.otpSet k v) (clampN 1 8 (b.sig .otpPulses).toNat)
  else otpPulsed { b with otpRedir := b.otpRedir ++ [(c, w, v)] } 8

/-- A word programmed copy by copy, and verified once no copy of it has a redirection to come (R338 steps 2 to 4). -/
def otpProgramWord (b : Blk) (w v : Nat) : Blk :=
  let b := forAll 3 b fun c b => otpCopy b w v c
  if b.otpRead w = v ∨ b.otpRedir.any (fun r => r.2.1 == w) then b else otpErr b 8

/-- INCREMENT of counter `k` carried out: its next bit programmed, or FULL (R345). -/
def otpIncrement (b : Blk) (k : Nat) : Blk :=
  let v := b.counter k
  if 255 ≤ v then otpErr b 6
  else
    let w := 1024 + 8 * k + (v + 1) / 32
    let b := otpProgramWord (otpStart b) w (b.otpRead w ||| 2 ^ ((v + 1) % 32))
    b.setF OTP_CNT.VALUE k (b.counter k)

/-- Keeper may start an OTP command: none runs, no record is being programmed (R350), no hold-up. -/
def otpFree (b : Blk) : Bool := !b.on OTP_STATUS.BUSY 0 && b.log.writing.isNone && b.holdup.isNone

/-- Keeper's next increment started, once it may. -/
def otpNext (b : Blk) : Blk :=
  match b.otpWait with
  | k :: rest => if otpFree b then otpIncrement { b with otpWait := rest } k else b
  | [] => b

/-- An increment by Keeper (R345): the INCREMENT command, started at once or in its turn. -/
def otpUp (b : Blk) (k : Nat) : Blk := otpNext { b with otpWait := b.otpWait ++ [k] }

/-- The spares of a class by its counter (table Spare inventory; SRAM_ROW has two counters of 128). -/
def spareTotal (k : Nat) : Nat :=
  match k with
  | 4 | 5 | 11 | 12 | 13 => 1
  | 6 | 14 => 128
  | 7 | 8 => 64
  | 9 | 10 => 2
  | _ => 0

/-- The spares left of a class (R385), less those whose increment is still to come. -/
def Blk.sparesLeft (b : Blk) (k : Nat) : Nat := spareTotal k - b.counterDue k

/-- SPARE_LEFT shown from the counters. -/
def spareShow (b : Blk) : Blk :=
  let b := ((b.setF SPARE_LEFT_0.SENSE_AMP 0 (b.sparesLeft 10)).setF SPARE_LEFT_0.CMP_CORE 0 (b.sparesLeft 9))
  let b := ((b.setF SPARE_LEFT_0.CHARGE_PUMP 0 (b.sparesLeft 13)).setF SPARE_LEFT_0.SYSPLL 0 (b.sparesLeft 12))
  let b := ((b.setF SPARE_LEFT_0.BANDGAP 0 (b.sparesLeft 11)).setF SPARE_LEFT_0.ENGINE 0 (b.sparesLeft 5))
  let b := ((b.setF SPARE_LEFT_0.CONVERTER 0 (b.sparesLeft 4)).setF SPARE_LEFT_1.OTP_ROW 0 (b.sparesLeft 8))
  (b.setF SPARE_LEFT_1.FLASH_BLOCK 0 (b.sparesLeft 7)).setF SPARE_LEFT_1.SRAM_ROW 0 (b.sparesLeft 6 + b.sparesLeft 14)

/-- A spare of class `k` taken for a unit: SPARE_USED, the counter incremented, a spare-map entry (R384); none when none is left. -/
def takeSpare (t : Nat) (b : Blk) (k unit : Nat) : Option Blk :=
  if b.sparesLeft k = 0 then none
  else
    let n := b.counterDue k
    some (spareShow (otpUp ({ b with mapOut := b.mapOut ++ [(k, unit, n)] }.raise t 44 0xFFFF) k))

/-- The same; a failed unit without a spare raises SPARE_EXHAUSTED (R386). -/
def useSpare (t : Nat) (b : Blk) (k unit : Nat) : Blk := (takeSpare t b k unit).getD (b.raise t 12 0xFFFF)

/-- The region of a logical byte: 0 FACTORY, 1 LIMITS, 2 KEYS, 3 OWNER; 4 = COUNTERS (R337). -/
def otpRegion (a : Nat) : Nat :=
  if a < 0x400 then 0 else if a < 0xC00 then 1 else if a < 0x1000 then 2 else if a < 0x1400 then 4 else 3

/-- First byte and length of a region, and the byte its digest field begins at. -/
def regionBase (r : Nat) : Nat := if r = 0 then 0 else if r = 1 then 0x400 else if r = 2 then 0xC00 else 0x1400
def regionEnd (r : Nat) : Nat := if r = 0 then 0x400 else if r = 1 then 0xC00 else if r = 2 then 0x1000 else 0x2000
def digestAt (r : Nat) : Nat := regionEnd r - 0x20

/-- A logical byte takes part in the digest of its region: every byte outside the digest field; in KEYS not the owner
slots and slot digests (table OTP regions). -/
def inDigest (r a : Nat) : Bool :=
  decide (regionBase r ≤ a) && decide (a < digestAt r) && !(r == 2 && decide (0xD00 ≤ a) && decide (a < 0xE80))

/-- The digest of a region from its present contents (R337). -/
def Blk.regionDigest (b : Blk) (r : Nat) : List Nat :=
  sha256 (((List.range (regionEnd r - regionBase r)).filter fun i => inDigest r (regionBase r + i)).map fun i =>
    b.otpRead ((regionBase r + i) / 4) / 256 ^ ((regionBase r + i) % 4) % 256)

/-- Region `r` is finalised. -/
def Blk.finalised (b : Blk) (r : Nat) : Bool := bit b.finWord r

/-- A copy of row `w / 8` redirected to the lowest free spare row that verifies (R339). -/
def otpRedirect (t : Nat) (b : Blk) (c w v : Nat) : Blk :=
  match (List.range 64).find? fun e => decide (b.redir e < 0x8000) && decide (b.sig (.otpSpareFail e) = 0) with
  | none => (otpErr b 7).raise t 12 0xFFFF
  | some e =>
    let row := w / 8
    let b := forAll 8 b fun i b =>
      b.otpSet (0x10000 + 8 * e + i) (b.otpRead (8 * row + i) ||| (if i = w % 8 then v else 0))
    let b := forAll 3 b fun k b => b.otpSet (0x20000 + 64 * k + e) (redirVal c row)
    let b := b.setF OTP_STATUS.REDIR_USED 0 b.redirUsed
    useSpare t b 8 (c * 256 + row)

/-- The running OTP command ends (R338): its redirections made, but for `hold` = a hold-up has begun (R340), the words concerned verified,
BUSY cleared. -/
def otpEnd (t : Nat) (hold : Bool) (b : Blk) : Blk :=
  let due := b.otpRedir
  let b := { b with otpRedir := [] }
  let b := if hold then b else due.foldl (fun b r => otpRedirect t b r.1 r.2.1 r.2.2) b
  let b := if due.any fun r => b.otpRead r.2.1 != r.2.2 then otpErr b 8 else b
  let b := b.setF OTP_STATUS.BUSY 0 0
  if due = [] then b else forAll 32 b fun k b => b.setF OTP_CNT.VALUE k (b.counter k)

/-- The row OTP_COMMAND_DONE: the running command ends; then Keeper's next increment. -/
def otpCommandDone (t : Nat) (b : Blk) : Blk := if b.on OTP_STATUS.BUSY 0 then otpNext (otpEnd t b.holdup.isSome b) else b

/-- The first refusal of a PROGRAM command, 0 when none (R338 step 1). -/
def otpProgramErr (b : Blk) (w v : Nat) : Nat :=
  let a := 4 * w
  let r := otpRegion a
  if 2048 ≤ w ∨ r = 4 ∨ (digestAt r ≤ a ∧ a < regionEnd r) then 3
  else if b.finalised r then 4
  else if b.otpRead w &&& v ≠ b.otpRead w then 5 else 0

/-- The guard of every OTP_CMD write: only Keeper's act (R336), and Keeper makes none while a record is being programmed (R350); BUSY and
KEY come first (R338). -/
def otpGuard (b : Blk) (who : Writer) (key : Nat) (run : Blk → Blk) : Blk :=
  if who ≠ .keeper ∨ b.log.writing.isSome then b
  else if b.on OTP_STATUS.BUSY 0 then otpErr b 1
  else if key ≠ 0xC3 then otpErr b 2
  else run b

/-- The PROGRAM command (R338). -/
def otpCmdProgram (b : Blk) (who : Writer) (key : Nat) : Blk :=
  otpGuard b who key fun b =>
    let w := b.f OTP_ADDR.INDEX 0
    let v := b.f OTP_DATA.DATA 0
    let e := otpProgramErr b w v
    if e ≠ 0 then otpErr b e else otpProgramWord (otpStart b) w v

/-- The INCREMENT command (R345). -/
def otpCmdIncrement (b : Blk) (who : Writer) (key : Nat) : Blk :=
  otpGuard b who key fun b =>
    let k := b.f OTP_ADDR.INDEX 0
    if 32 ≤ k then otpErr b 3 else spareShow (otpIncrement b k)

/-- FINAL shown from the finalise word. -/
def finalShow (b : Blk) : Blk := b.setF OTP_STATUS.FINAL 0 b.finWord

/-- A region finalised: digest, bit in three copies, check (R342). -/
def otpFinalise (b : Blk) (r : Nat) : Blk :=
  let d := b.regionDigest r
  let b := forAll 8 b fun i b => otpProgramWord b (digestAt r / 4 + i) (leAt d (4 * i) 4)
  let b := finalShow (forAll 3 b fun c b => b.otpSet (0x30000 + c) (2 ^ r))
  if b.otpRedir ≠ [] ∨ b.regionDigest r = b.otpBytes (digestAt r) 32 then b else otpErr b 8

/-- The FINALISE command (R342). -/
def otpCmdFinalise (b : Blk) (who : Writer) (key : Nat) : Blk :=
  otpGuard b who key fun b =>
    let r := b.f OTP_ADDR.INDEX 0
    if r = 0 ∨ 3 < r then otpErr b 3
    else if b.finalised r then otpErr b 4
    else otpFinalise (otpStart b) r

/-- The active owner key slot and whether it is blank (R343, R346). -/
def ownerSlot (b : Blk) : Nat := min (b.counter 3) 3
def ownerBlank (b : Blk) : Bool :=
  (b.otpBytes (0xD00 + 64 * ownerSlot b) 64).all (· == 0) && (b.otpBytes (0xE00 + 32 * ownerSlot b) 32).all (· == 0)
def ownerKey (b : Blk) : List Nat := b.otpBytes (0xD00 + 64 * ownerSlot b) 64

/-- The vendor firmware key and the serial number of the FACTORY region. -/
def vendorKey (b : Blk) : List Nat := b.otpBytes Config.vendorKeyAt 64
def serial (b : Blk) : List Nat := b.otpBytes Config.serialAt 16

/-- The minority bits of three copies of a word that are 1. -/
def minorityOnes (x y z : Nat) : Nat :=
  let m := maj3 x y z
  (bitsSet 32 (x ^^^ (x &&& m))).length + (bitsSet 32 (y ^^^ (y &&& m))).length + (bitsSet 32 (z ^^^ (z &&& m))).length

/-- The start-up scan: minority zeros programmed as a PROGRAM command does, minority ones counted (R341). A word of the control array has
no spare row: a copy of it that fails stands. -/
def otpScan (t : Nat) (b : Blk) : Blk :=
  let word (acc : Blk × Nat) (w : Nat) : Blk × Nat :=
    let (b, n) := acc
    let x (c : Nat) : Nat := b.otpLoc (b.otpPlace c w)
    let m := b.otpRead w
    if (List.range 3).all fun c => x c == m then acc
    else
      let b' := forAll 3 b fun c b =>
        if x c &&& m = m then b
        else if b.sig (.otpFail c) = 0 then otpPulsed (b.otpSet (b.otpPlace c w) m) (clampN 1 8 (b.sig .otpPulses).toNat)
        else otpRedirect t (otpPulsed b 8) c w m
      (b', n + minorityOnes (x 0) (x 1) (x 2))
  let ctl (acc : Blk × Nat) (k : Nat → Nat) : Blk × Nat :=
    let (b, n) := acc
    let m := maj3 (b.otpLoc (k 0)) (b.otpLoc (k 1)) (b.otpLoc (k 2))
    if (List.range 3).all fun c => b.otpLoc (k c) == m then acc
    else
      (forAll 3 b fun c b => if b.sig (.otpFail c) = 0 then b.otpSet (k c) m else b,
        n + minorityOnes (b.otpLoc (k 0)) (b.otpLoc (k 1)) (b.otpLoc (k 2)))
  let acc := (List.range 2048).foldl word (b, 0)
  let acc := (List.range 64).foldl (fun acc e => ctl acc fun c => 0x20000 + 64 * c + e) acc
  let (b, n) := ctl acc fun c => 0x30000 + c
  let b := (b.setF OTP_MINORITY.COUNT 0 (min n 65535)).setF OTP_STATUS.REDIR_USED 0 b.redirUsed
  forAll 32 (finalShow b) fun k b => b.setF OTP_CNT.VALUE k (b.counter k)

/-- The digest checks of a start: OTP_DIGEST on a mismatch (R343). -/
def otpDigestCheck (t : Nat) (b : Blk) : Blk :=
  let bad := (List.range 4).any fun r => b.finalised r && b.regionDigest r != b.otpBytes (digestAt r) 32
  let k := ownerSlot b
  let badKey := !ownerBlank b && sha256 (ownerKey b) != b.otpBytes (0xE00 + 32 * k) 32
  if bad || badKey then b.raise t 7 0xFFFF else b

end Sys2Proof.Machine
end

