-- ==== Sys2Proof/Machine/Operands.lean ====
section
/-! DEFINITION. The quantities an operand or a field stands for: samples in physical units and the applied values that
the KO limits and the stated ranges give a written field. -/
namespace Sys2Proof.Machine

/-- The value of a raw code of channel `c` from converter `k`, in the channel's unit. -/
def Blk.rawOf (b : Blk) (k c raw : Nat) : Rat := Config.rawValue c (b.f ADC_CAL.GAIN k) (b.fi ADC_CAL.OFFSET k) raw

/-- What a deadline task makes of the last sample of a channel, which it receives as a raw code (R173). -/
def Blk.rawCal (b : Blk) (c : Nat) : Rat := b.rawOf (b.sample c).conv c (b.sample c).raw

/-- The same of the channel as it stands in this tick, where no slot converts it. DESIGN CHOICE: with GAIN and OFFSET of converter A. -/
def Blk.rawNow (b : Blk) (c : Nat) : Rat := b.rawOf 0 c (clampI 0 16383 (b.sig (.raw c))).toNat

/-- An unpoisoned sample of a channel was delivered in tick `t`. -/
def Blk.fresh? (b : Blk) (t c : Nat) : Bool := (b.sample c).tk == t + 1 && !(b.sample c).psn

/-- VNET and a berth's output voltage as the ME receives them, in mV. -/
def Blk.vnetRaw (b : Blk) : Rat := b.rawCal 0x70 * 2
def Blk.voutRaw (b : Blk) (nn : Nat) : Rat := b.rawCal (0x20 + nn) * 2

/-- A berth's current as the ME receives it, in A. -/
def Blk.ampsRaw (b : Blk) (nn : Nat) : Rat := quot (b.rawCal nn * 10) (b.f ADC_BSHUNT.SHUNT nn)

/-- VNET as last sampled, in mV (channel 0x070, 2 mV). -/
def Blk.vnetMv (b : Blk) : Rat := b.cal 0x70 * 2

/-- KBUS as last sampled, in mV. -/
def Blk.kbusMv (b : Blk) : Rat := b.cal 0x71 * 2

/-- A berth's output voltage as last sampled, in mV (R33, R44). -/
def Blk.voutMv (b : Blk) (nn : Nat) : Rat := b.cal (0x20 + nn) * 2

/-- A berth's current as last sampled, in A: 10 µV of shunt voltage over the shunt in µΩ. -/
def Blk.berthAmps (b : Blk) (nn : Nat) : Rat := quot (b.cal nn * 10) (b.f ADC_BSHUNT.SHUNT nn)

/-- The pack current as last sampled, in A (2 µV of shunt voltage). -/
def Blk.packAmps (b : Blk) : Rat := quot (b.cal 0x79 * 2) (b.f ADC_PSHUNT.SHUNT 0)

/-- The charger current as last sampled, in A (10 µV of shunt voltage). -/
def Blk.chgAmps (b : Blk) : Rat := quot (b.cal 0x7A * 10) (b.f ADC_CSHUNT.SHUNT 0)

/-- A feed's current as last sampled, in A. -/
def Blk.feedAmps (b : Blk) (n : Nat) : Rat := quot (b.cal (0x72 + n) * 10) (b.f ADC_FSHUNT.SHUNT n)

/-- A phase's current from its monitor pin, in A: 100 µV units over the gain in µV/A (R102). -/
def Blk.phaseAmps (b : Blk) (p : Nat) : Rat := quot (b.cal (0x40 + p) * 100) (b.f PHASE_CFG.IMON_GAIN p)

/-- A loop's output voltage as last sampled, in µV: 0.25 mV units, 1 mV with SCALE = 1. -/
def Blk.vspUv (b : Blk) (n : Nat) : Int := b.cal (0x58 + n) * (if b.on LOOP_CFG.SCALE n then 1000 else 250)

/-- The same as the loop's task receives it (R173). -/
def Blk.vspRaw (b : Blk) (n : Nat) : Rat := b.rawCal (0x58 + n) * (if b.on LOOP_CFG.SCALE n then 1000 else 250)

/-- The same at this instant, ahead of any sample: what the window comparator sees (R112). -/
def Blk.vspNow (b : Blk) (n : Nat) : Int := b.sig (.cal (0x58 + n)) * (if b.on LOOP_CFG.SCALE n then 1000 else 250)

/-- A buck's output voltage as last sampled, in µV. -/
def Blk.ibfbUv (b : Blk) (n : Nat) : Int := b.cal (0x60 + n) * 250

/-- The same as the buck's task receives it (R173); with `Blk.rawOf` a value the spec leaves open. -/
def Blk.ibfbRaw (b : Blk) (n : Nat) : Rat := b.rawCal (0x60 + n) * 250

/-- An LDO's output voltage at this instant, in µV. -/
def Blk.ldoUv (b : Blk) (n : Nat) : Int := b.sig (.cal (0x68 + n)) * 250

/-- The applied junction limit of a berth, 0.1 °C (R50). -/
def Blk.tjLim (b : Blk) (nn : Nat) : Nat := min (b.f BERTH_SOA_LIM.TJ_LIM nn) (b.f BERTH_LIM.TJ_LIM_MAX 0)

/-- The applied fast-trip code, in 0.5 mV (R71). -/
def Blk.ftApplied (b : Blk) (F : Fld) (nn : Nat) : Nat := clampN 8 200 (min (b.f F nn) (b.f BERTH_PLIM.FT_MAX nn))

/-- The slow-drive limit in µA: 50 µA steps, a 0 and values above 600 taken as 600. -/
def Blk.igateMax (b : Blk) (nn : Nat) : Rat :=
  let v := b.f BERTH_GATE.IGATE_MAX nn
  50 * ((if v = 0 ∨ 600 < v then 600 else v : Nat) : Rat)

/-- The applied twin trip temperature, 0.1 °C (R79). -/
def Blk.twTrip (b : Blk) (nn : Nat) : Int := (min (b.f BERTH_TW_LIM.TRIP nn) (b.f BERTH_TLIM.TRIP_MAX nn) : Nat)

/-- The applied twin warning temperature, 0.1 °C (R79). -/
def Blk.twWarn (b : Blk) (nn : Nat) : Int := min (b.f BERTH_TW_LIM.WARN nn : Int) (b.twTrip nn)

/-- The applied twin re-arm temperature, 0.1 °C, never below -273.0 °C (R79). -/
def Blk.twRearm (b : Blk) (nn : Nat) : Int :=
  max (-2730) (min (b.fi BERTH_TW_REARM.REARM nn) (b.twTrip nn - b.f BERTH_TLIM.RGAP_MIN nn))

/-- A token count field: 0 is taken as 1 and 7 as 6 (R40). -/
def tokCount (v : Nat) : Nat := if v = 0 then 1 else if 6 < v then 6 else v

/-- The tokens in use (R40). -/
def Blk.tokensInUse (b : Blk) : Nat := min (tokCount (b.f BERTH_TOKENS.TOK_CFG 0)) (tokCount (b.f BERTH_TOKENS.TOK_LIMIT 0))

/-- The berth that holds a token, if any. -/
def Blk.tokenOwner (b : Blk) (tok : Nat) : Option Nat := (List.range 32).find? fun nn => b.f BERTH_STATE.TOKEN nn == tok

/-- The applied set-point code of a loop index (R118). -/
def Blk.vsetCode (b : Blk) (n k : Nat) : Nat := min (b.f (LOOP_VSET.CODE k) n) (b.f LOOP_KLIM.VSET_CEIL n)

/-- A set-point code in µV: 0.5 mV steps, 2 mV with SCALE = 1. -/
def Blk.codeUv (b : Blk) (n c : Nat) : Int := c * (if b.on LOOP_CFG.SCALE n then 2000 else 500)

/-- The applied overcurrent level of a loop, 0.1 A (R130). -/
def Blk.iocApplied (b : Blk) (n : Nat) : Nat := min (b.f LOOP_ILIM.IOC n) (b.f LOOP_KLIM.IOC_MAX n)

/-- The applied current limit of a buck, mA. -/
def Blk.ibIlim (b : Blk) (n : Nat) : Nat := min (b.f IB_ILIM.ILIM n) (b.f IB_KLIM.ILIM_MAX n)

/-- The applied set-point of a buck in µV (2.5 mV steps). -/
def Blk.ibVset (b : Blk) (n : Nat) : Int := (min (b.f IB_VSET.CODE n) (b.f IB_KLIM.VSET_CEIL n) : Nat) * 2500

/-- The applied LDO code (R141). -/
def Blk.ldoCode (b : Blk) (n : Nat) : Nat := min (min (b.f LDO_CTL.CODE n) 168) (b.f LDO_KLIM.CODE_CEIL n)

/-- The LDO set-point in µV: 0.800 V + CODE × 25 mV (R141). -/
def Blk.ldoVset (b : Blk) (n : Nat) : Int := 800000 + (b.ldoCode n : Int) * 25000

/-- The limits of a loop's profile (R462). -/
def Blk.loopLim (b : Blk) (n : Nat) : Lim :=
  limOf (b.f LOOP_PROF_V.VMAX n) (b.f LOOP_PROF_AJ.AMAX n) (b.f LOOP_PROF_AJ.JMAX n)

/-- The limits of a berth's inrush profile (R45, R462). -/
def Blk.berthLim (b : Blk) (nn : Nat) : Lim :=
  limOf (b.f BERTH_PROF_V.VMAX nn) (b.f BERTH_PROF_AJ.AMAX nn) (b.f BERTH_PROF_AJ.JMAX nn)

end Sys2Proof.Machine
end

