-- ==== Sys2Proof/Machine/Store.lean ====
section
/-! DEFINITION. The engine stores: the coefficient and state words of the loops and the gains of the bucks as (39,32) codewords with
their poison marks (spec/13_memories_otp.md, R318, R319, R323, R328). A word's data are the fields and states that use it; the store
adds the syndrome of its check bits (0 = a clean codeword) and its 3-bit mark. Word `16 n + w` is word `w` of loop `n`: 0 to 7 the
coefficient words, 8 to 13 the LO and HI halves of s1 to s3; word `128 + n` holds KP and KI of buck `n`; word `taskKey kind i w` is
state word `w` of a task without registers of its own: of those the spec gives no format, so that the store keeps which data bits of
such a word are wrong, and a wrong one that goes on uncorrected has a free value (DESIGN CHOICE). -/
namespace Sys2Proof.Machine

/-- The engine-store word of state word `w` of task `i` of a type: 1 a buck, 2 the charger, 3 the gate loop and 4 the SOA terms of a
token, 5 the twin of a berth, 6 the gauge. -/
def taskKey (kind i w : Nat) : Nat := 0x1000 + kind * 0x400 + i * 8 + w

/-- A word of an engine store is a state word, of which LE4 holds its own copy (R168). -/
def engState (k : Nat) : Bool := decide (k < 128 ∧ 8 ≤ k % 16) || decide (0x1000 ≤ k)

/-- The address at which a word of an engine store is read (table Registers of spec/06_control_engines.md, IB_n_PI). DESIGN CHOICE: a state
word without a register stands at its number. -/
def engAddr (k : Nat) : Nat :=
  if 0x1000 ≤ k then k
  else if k < 128 then 0x40070000 + k / 16 * 256 + (if k % 16 < 8 then 0x10 + 4 * (k % 16) else 0x40 + 4 * (k % 16 - 8))
  else 0x40060014 + (k - 128) * 64

/-- The word of an engine store that a register address shows. -/
def engKey (a : Nat) : Option Nat :=
  let n := (a - 0x40070000) / 256
  let off := a % 256
  if 0x40070000 ≤ a ∧ a < 0x40070800 ∧ a % 4 = 0 then
    if 0x10 ≤ off ∧ off < 0x30 then some (16 * n + (off - 0x10) / 4)
    else if 0x40 ≤ off ∧ off < 0x58 then some (16 * n + 8 + (off - 0x40) / 4)
    else none
  else if 0x40060000 ≤ a ∧ a < 0x40060200 ∧ a % 64 = 0x14 then some (128 + (a - 0x40060000) / 64)
  else none

/-- The loop whose coefficient word lies at an address. -/
def coefLoop (a : Nat) : Option Nat :=
  match engKey a with
  | some k => if k < 128 ∧ k % 16 < 8 then some (k / 16) else none
  | none => none

/-- The 40 bits of a compensator state. -/
def state40 (b : Blk) (n i : Nat) : Nat := ux 40 ((b.lp n).s.getD i 0)

/-- The data of a word of an engine store; of a state word without a register its wrong bits. -/
def engWord (b : Blk) (k : Nat) : Nat :=
  let n := k / 16
  let w := k % 16
  if 0x1000 ≤ k then Tab.get b.eng.err 0 k
  else if 128 ≤ k then b.f IB_PI.KP (k - 128) + b.f IB_PI.KI (k - 128) * 2 ^ 16
  else if w < 4 then b.f (ENG_LOOP_B.COEF w) n
  else if w < 7 then b.f (ENG_LOOP_A.COEF (w - 4)) n
  else if w = 7 then b.f ENG_LOOP_DCLAMP.DMIN n + b.f ENG_LOOP_DCLAMP.DMAX n * 2 ^ 16
  else if w % 2 = 0 then state40 b n ((w - 8) / 2) % 2 ^ 32
  else state40 b n ((w - 8) / 2) / 2 ^ 32

/-- The data of a word of an engine store replaced. -/
def engPut (b : Blk) (k v : Nat) : Blk :=
  let n := k / 16
  let w := k % 16
  if 0x1000 ≤ k then { b with eng := { b.eng with err := Tab.put b.eng.err 0 k v } }
  else if 128 ≤ k then (b.setF IB_PI.KP (k - 128) v).setF IB_PI.KI (k - 128) (v / 2 ^ 16)
  else if w < 4 then b.setF (ENG_LOOP_B.COEF w) n v
  else if w < 7 then b.setF (ENG_LOOP_A.COEF (w - 4)) n v
  else if w = 7 then (b.setF ENG_LOOP_DCLAMP.DMIN n v).setF ENG_LOOP_DCLAMP.DMAX n (v / 2 ^ 16)
  else
    let i := (w - 8) / 2
    let old := state40 b n i
    let new := if w % 2 = 0 then old / 2 ^ 32 * 2 ^ 32 + v % 2 ^ 32 else old % 2 ^ 32 + v % 256 * 2 ^ 32
    b.setLp n { b.lp n with s := (b.lp n).s.set i (sx 40 new) }

/-- A word of an engine store written: a fresh codeword without a mark. -/
def engClean (b : Blk) (k : Nat) : Blk :=
  { b with eng := { b.eng with syn := Tab.put b.eng.syn 0 k 0, mark := Tab.put b.eng.mark 0 k 0 } }

/-- What the word code says of a stored word of an engine store (R319): none = its data carry the poison mark; else its data, and
whether a bit was corrected. -/
def engDecode (b : Blk) (k : Nat) : Option (Nat × Bool) :=
  let s := Tab.get b.eng.syn 0 k
  let v := engWord b k
  if 2 ≤ (bitsSet 3 (Tab.get b.eng.mark 0 k)).length then none
  else if s = 0 then some (v, false)
  else match (List.range 32).find? fun i => engineColumn i == s with
    | some i => some (if bit v i then clrBit v i else setBit v i, true)
    | none => if (List.range 7).any fun j => s == 2 ^ j then some (v, true) else none

/-- The event recorded in ECC_LAST: of two in one tick the lower address (R328). -/
def eccLast (t : Nat) (b : Blk) (a mem kind : Nat) : Blk :=
  if b.eccAt = t + 1 ∧ b.f ECC_LAST_ADDR.ADDR 0 ≤ a then b
  else
    let b := { b.setF ECC_LAST_ADDR.ADDR 0 a with eccAt := t + 1 }
    ((b.setF ECC_LAST_INFO.MEM 0 mem).setF ECC_LAST_INFO.KIND 0 kind).setF ECC_LAST_INFO.TICK16 0 t

/-- A read of a word of an engine store by its engine: whether it carries a poison mark, and the device after. A corrected word is
counted and written back (R323); an uncorrectable one is counted and recorded (R328), its mark in the store left as it is (R319).
LE4's own run reads its own copy of the state (R168). -/
def engRead (t : Nat) (b : Blk) (k : Nat) : Bool × Blk :=
  if b.eng.asSpare && engState k then (false, b) else
  match engDecode b k with
  | some (v, true) => (false, (engClean (engPut b k v) k).bump ECC_CNT.CORR 2)
  | some (_, false) => (false, b)
  | none =>
    if 2 ≤ (bitsSet 3 (Tab.get b.eng.mark 0 k)).length then (true, b)
    else (true, eccLast t (b.bump ECC_CNT.UNC 2) (engAddr k) 2 3)

/-- The words of a list that carry a poison mark, read in order. -/
def engReads (t : Nat) (b : Blk) (l : List Nat) : List Nat × Blk :=
  l.foldl (fun (acc : List Nat × Blk) k =>
    let (p, b) := engRead t acc.2 k
    (if p then acc.1 ++ [k] else acc.1, b)) ([], b)

/-- A word of an engine store written whole: a fresh codeword, no wrong bit, no mark. -/
def engFresh (b : Blk) (k : Nat) : Blk := engClean (if 0x1000 ≤ k then engPut b k 0 else b) k

/-- LE4's copy keeps the compensator state that a bit error changes (R168). -/
def engKept (old new : Blk) (k : Nat) : Blk :=
  let n := k / 16
  let i := (k % 16 - 8) / 2
  if k < 128 ∧ 8 ≤ k % 16 then
    let d : Rat := (old.lp n).s.getD i 0 - (new.lp n).s.getD i 0
    { new with eng := { new.eng with flips := new.eng.flips ++ [(0, n, i, d)] } }
  else new

/-- A bit error of the environment in a word of an engine store: 0 to 31 data, 32 to 38 check bits, 39 to 41 the mark. -/
def engFlip (b : Blk) (k bitNo : Nat) : Blk :=
  let s := Tab.get b.eng.syn 0 k
  if bitNo < 32 then
    let v := engWord b k
    let b := engKept b (engPut b k (if bit v bitNo then clrBit v bitNo else setBit v bitNo)) k
    { b with eng := { b.eng with syn := Tab.put b.eng.syn 0 k (s ^^^ engineColumn bitNo) } }
  else if bitNo < 39 then { b with eng := { b.eng with syn := Tab.put b.eng.syn 0 k (s ^^^ 2 ^ (bitNo - 32)) } }
  else { b with eng := { b.eng with mark := Tab.put b.eng.mark 0 k (Tab.get b.eng.mark 0 k ^^^ 2 ^ ((bitNo - 39) % 3)) } }

end Sys2Proof.Machine
end

