-- ==== Sys2Proof/Machine/Loops.lean ====
section
/-! DEFINITION. Multiphase loops, their compensators and the spare engine: spec/04_multiphase_loops.md and
spec/06_control_engines.md. -/
namespace Sys2Proof.Machine

/-! Loop states (LOOP_n_STATE) -/
def lDISABLED : Nat := 0
def lPRECHECK : Nat := 1
def lSOFTSTART : Nat := 2
def lREGULATING : Nat := 3
def lBURST : Nat := 4
def lOPEN : Nat := 5
def lFAULTED : Nat := 6
def lSTOPPING : Nat := 7

/-- A loop's state. -/
def Blk.lst (b : Blk) (n : Nat) : Nat := b.f LOOP_STATE.STATE n

/-- The phases assigned to a loop, in ascending number (R100). -/
def loopPhases (b : Blk) (n : Nat) : List Nat := (List.range 24).filter fun p => b.f PHASE_CFG.LOOP p == n

/-- The active phases of a loop. -/
def activePhases (b : Blk) (n : Nat) : List Nat := (loopPhases b n).filter fun p => b.on PHASE_STAT.ACTIVE p

/-- N_ACT shown from the phases. -/
def showActive (b : Blk) (n : Nat) : Blk := b.setF LOOP_STATE.N_ACT n (activePhases b n).length

/-- Every phase of a loop at MID (R101). -/
def phasesMid (b : Blk) (n : Nat) : Blk :=
  showActive ((loopPhases b n).foldl (fun b p =>
    (b.setF PHASE_STAT.ACTIVE p 0).setPh p
      { b.ph p with ton := none, high := false, skip := false, shed := false, wait := false }) b) n

/-! The modulator (R103 to R106): carriers in DPWM periods of 625 ps, of which a tick has 800; on-times in steps of 1/40 period -/

/-- The carrier position of the on-edge of the `k`-th of `N` phases (R103). DESIGN CHOICE: a tie goes up. -/
def onEdge (per k N : Nat) : Nat := (roundHalfUp (((k * per : Nat) : Rat) / N)).toNat

/-- The periods from the carrier position of an edge to the next on-edge of phase `p` of a loop. -/
def edgeIn (b : Blk) (n p : Nat) : Nat :=
  let ps := loopPhases b n
  let per := b.f LOOP_PER.PER n
  (onEdge per (ps.findIdx (· == p)) ps.length + per - (b.lp n).carrier % per) % per

/-- The on-time of a phase from the duty (R105). DESIGN CHOICE: a tie goes up. -/
def phaseTon (b : Blk) (n p : Nat) : Nat :=
  let per : Int := b.f LOOP_PER.PER n
  let ton := roundHalfUp (((b.lp n).duty : Rat) / 16777216 * (40 * per : Int)) + b.fi PHASE_TRIM.TRIM p
  let ton := if ton < b.f LOOP_TON.TON_MIN n * 64 then 0 else ton
  (min ton (40 * per - b.f LOOP_TON.TOFF_MIN n * 64)).toNat

/-- What a tick makes of a phase whose next on-edge lies `r` periods after the tick's edge, with `left` periods to the end of a burst:
a pulse begins at each on-edge that is not skipped and ends with its on-time; a shed phase ends at its on-edge (R106, R108, R110,
R111). -/
def Phase.pass (x : Phase) (per r left : Nat) : Phase :=
  if 800 ≤ r then { x with high := x.high && decide ((per - r + 800) * 40 < x.ton.getD 0) }
  else if x.shed then { x with ton := none, high := false, skip := false, shed := false }
  else if x.ton.isNone ∨ left ≤ r then { x with high := false, skip := false }
  else
    let last := r + per * ((799 - r) / per)
    { x with
      high := (decide (r < last) || !x.skip) && decide ((800 - last) * 40 < x.ton.getD 0), skip := false, wait := false }

/-- A phase of a switching loop has its on-edge in the tick. -/
def Phase.begins (x : Phase) (r left : Nat) : Bool := x.ton.isSome && !x.shed && !x.skip && decide (r < 800 ∧ r < left)

/-- The on-time in force from the next edge: none in the sleep of BURST and under the guard of OPEN (R113, R155); for an active phase
that of the duty, which ends a pulse under way that is already longer (R106); a phase that has been shed keeps its own (R110). -/
def phaseLoad (b : Blk) (n p : Nat) : Blk :=
  let x := b.ph p
  if b.lst n = lBURST ∧ (b.lp n).asleep then b.setPh p { x with ton := none, high := false, shed := false, wait := true }
  else if b.lst n = lOPEN ∧ b.on ENG_LOOP_STAT.GUARD n then b.setPh p { x with ton := none, high := false, shed := false }
  else if b.on PHASE_STAT.ACTIVE p then
    let ton := phaseTon b n p
    b.setPh p { x with ton := some ton, high := x.high && decide ((b.f LOOP_PER.PER n - edgeIn b n p) * 40 < ton) }
  else if x.shed then b
  else b.setPh p { x with ton := none, high := false }

/-- The same of every phase of a loop. -/
def phasesLoad (b : Blk) (n : Nat) : Blk := (loopPhases b n).foldl (fun b p => phaseLoad b n p) b

/-- The shed phases of a loop return with trim 0, at MID until their first on-edge after the next edge (R111). -/
def phaseReturn (b : Blk) (n : Nat) : Blk :=
  showActive ((loopPhases b n).foldl (fun b p =>
    let x := b.ph p
    if b.on PHASE_STAT.ACTIVE p then (if x.ton.isNone then phaseLoad b n p else b)
    else
      phaseLoad (((b.setF PHASE_STAT.ACTIVE p 1).setF PHASE_TRIM.TRIM p 0).setPh p
        { x with trim := 0, shed := false, wait := x.ton.isNone, skip := false }) n p) b) n

/-- The tick of a switching loop's modulator: its phases through the tick, its carrier at the next edge (R104). -/
def phasesPass (b : Blk) (n : Nat) : Blk :=
  let x := b.lp n
  let per := b.f LOOP_PER.PER n
  let left := if b.lst n = lBURST ∧ !x.asleep then x.burstLeft else 800
  let ps := loopPhases b n
  let edge := ps.any fun p => (b.ph p).begins (edgeIn b n p) left
  let b' := ps.foldl (fun c p => c.setPh p ((b.ph p).pass per (edgeIn b n p) left)) b
  b'.setLp n { x with carrier := (x.carrier + 800) % per, edge := edge }

/-- The return of R111, after which no phase is shed before SHED_BEATS further beats. -/
def shedReturn (b : Blk) (n : Nat) : Blk :=
  let b := phaseReturn b n
  b.setLp n { b.lp n with shedBeats := 0 }

/-- A loop leaves switching for DISABLED or FAULTED: phases MID, carrier and open state ended. -/
def loopStop (b : Blk) (n st : Nat) : Blk :=
  let b := (phasesMid b n).setF LOOP_STATE.STATE n st
  let b := ((b.setF LOOP_STATE.ILIM_ACT n 0).setF LOOP_STATE.MOVING n 0).setF ENG_LOOP_STAT.OPEN_TICKS n 0
  let b := (b.setF ENG_LOOP_STAT.OPEN_SRC n 0).setF ENG_LOOP_STAT.GUARD n 0
  let b := if st = lDISABLED then b.setF ENG_LOOP_CTL.OPEN_REQ n 0 else b
  b.setLp n { b.lp n with clamp := none, duty := 0, asleep := false, samplePoison := false }

/-- An event of place `prio` on a loop, when the state it finds is one that `ok` admits. -/
def loopEvt (t : Nat) (b : Blk) (n prio : Nat) (ok : Nat → Bool) (act : Nat → Blk → Blk) : Blk :=
  match b.found t (.loop n) prio (b.lst n) with
  | some st => if ok st then act st (b.acted t (.loop n) prio st) else b
  | none => b

/-- A loop to FAULTED with its cause and source (R122). -/
def loopFault (t : Nat) (b : Blk) (n prio cause src : Nat) (ok : Nat → Bool) : Blk :=
  loopEvt t b n prio ok fun _ b =>
    ((loopStop b n lFAULTED).setF LOOP_STATE.CAUSE n cause).raiseFor t src n (.loop n)

/-- SAFE (cause 7) or ALL-OFF (cause 8) on a loop: DISABLED, EN cleared; a FAULTED loop keeps its cause. -/
def loopForceOff (t : Nat) (b : Blk) (n cause : Nat) : Blk :=
  loopEvt t b n 1 (· != lDISABLED) fun st b =>
    let b := (loopStop b n lDISABLED).setF LOOP_CTL.EN n 0
    if st = lFAULTED then b else b.setF LOOP_STATE.CAUSE n cause

/-- The target of a loop: the applied set-point of the index in use, in 2^-24 µV. -/
def loopTarget (b : Blk) (n : Nat) : Int := b.codeUv n (b.vsetCode n (b.f LOOP_STATE.IDX n)) * lsb

/-- The states in which the rail windows act (R123). -/
def lSwitching (st : Nat) : Bool := st == lSOFTSTART || st == lREGULATING || st == lBURST || st == lOPEN || st == lSTOPPING

/-- DMAX and DMIN extended to 24 fraction bits (R147). -/
def dMax (b : Blk) (n : Nat) : Int := b.f ENG_LOOP_DCLAMP.DMAX n * 256
def dMin (b : Blk) (n : Nat) : Int := b.f ENG_LOOP_DCLAMP.DMIN n * 256

/-- Coefficients a1 to a3 (`k` = 0 to 2) and b0 to b3 as fractions (R147). -/
def coefA (b : Blk) (n k : Nat) : Rat := (b.fi (ENG_LOOP_A.COEF k) n : Rat) / 1073741824
def coefB (b : Blk) (n k : Nat) : Rat := (b.fi (ENG_LOOP_B.COEF k) n : Rat) / 268435456

/-- The state range of 40 bits (R146). -/
def sat40 (x : Int) : Int := clampI (-549755813888) 549755813887 x

/-- The compensator state shown in its registers. -/
def showState (b : Blk) (n : Nat) : Blk :=
  forAll 3 b fun k b =>
    let v := ux 40 ((b.lp n).s.getD k 0)
    (b.setF (ENG_LOOP_S_LO.STATE k) n (v % 2 ^ 32)).setF (ENG_LOOP_S_HI.STATE k) n (v / 2 ^ 32)

/-- The states for a duty `d0` in 2^-24 (R151). -/
def statesFor (b : Blk) (n : Nat) (d0 : Rat) : List Int :=
  [sat40 (roundHalfUp d0), sat40 (roundHalfUp (-(coefA b n 1 + coefA b n 2) * d0)), sat40 (roundHalfUp (-(coefA b n 2) * d0))]

/-- State `i` of a loop written: fresh codewords in the engine store (R318). -/
def statePut (b : Blk) (n i : Nat) (v : Int) : Blk :=
  engClean (engClean (b.setLp n { b.lp n with s := (b.lp n).s.set i v }) (16 * n + 8 + 2 * i)) (16 * n + 9 + 2 * i)

/-- The three states written and shown. -/
def statesPut (b : Blk) (n : Nat) (l : List Int) : Blk := showState (forAll 3 b fun i b => statePut b n i (l.getD i 0)) n

/-- The state set for a duty `d0` (R151). -/
def compInit (b : Blk) (n : Nat) (d0 : Rat) : Blk := statesPut b n (statesFor b n d0)

/-- The profile of a loop planned in tick `t` to a target: the head of the tick plans from the position in force, and the first position
of the plan is the one of the next tick (R149, R165). -/
def headPlan (t : Nat) (b : Blk) (n : Nat) (tgt : Int) : Prof :=
  let x := b.lp n
  if x.advAt = t + 1 then (x.profWas.plan (b.loopLim n) tgt).advance (b.loopLim n) else x.prof.plan (b.loopLim n) tgt

/-- A loop's profile in force in tick `t`. -/
def headProf (t : Nat) (b : Blk) (n : Nat) : Prof :=
  if (b.lp n).advAt = t + 1 then (b.lp n).profWas else (b.lp n).prof

/-- Its position. -/
def headPos (t : Nat) (b : Blk) (n : Nat) : Int := (headProf t b n).x

/-- The profile in force in tick `t` is complete, and no new one has been planned in the tick (R167). -/
def profDone (t : Nat) (b : Blk) (n : Nat) : Bool := (headProf t b n).complete && (b.lp n).prof.complete

/-- EN = 1 latched in DISABLED: the pre-start check begins (R119); nothing leaves off in SAFE (R464) or under the ALL-OFF line (R231). -/
def loopEnable (t : Nat) (b : Blk) (n : Nat) : Blk :=
  if b.barred n then b
  else
    loopEvt t (b.setF LOOP_CTL.EN n 1) n 6 (· == lDISABLED) fun _ b =>
      let b := (phasesMid b n).setF LOOP_STATE.STATE n lPRECHECK
      (b.setF LOOP_PRE.PRE_V n 0).setLp n { b.lp n with preTicks := 0, preMax := 0, v0 := 0 }

/-- A loop leaves OPEN: under the guard of its last tick no pulse begins at the next edge (R155). -/
def guardMid (b : Blk) (n : Nat) : Blk :=
  (loopPhases b n).foldl (fun b p => b.setPh p { b.ph p with ton := none, high := false, wait := true }) b

/-- EN = 0 latched (table Loop transitions). -/
def loopDisable (t : Nat) (b : Blk) (n : Nat) : Blk :=
  loopEvt t (b.setF LOOP_CTL.EN n 0) n 6 (· != lDISABLED) fun st b =>
    if st = lFAULTED then loopStop b n lDISABLED
    else if st = lPRECHECK ∨ b.on LOOP_CFG.STOP_MODE n then (loopStop b n lDISABLED).setF LOOP_STATE.CAUSE n 1
    else if st = lSTOPPING then b
    else
      let guard := b.on ENG_LOOP_STAT.GUARD n
      let b := if st = lOPEN then compInit b n (b.lp n).duty else b
      let b := ((b.setF ENG_LOOP_STAT.OPEN_TICKS n 0).setF ENG_LOOP_STAT.OPEN_SRC n 0).setF ENG_LOOP_STAT.GUARD n 0
      let b := shedReturn ((b.setF LOOP_STATE.STATE n lSTOPPING).setLp n { b.lp n with prof := headPlan t b n 0, asleep := false }) n
      if guard then guardMid b n else b

/-- The elapsed DPWM periods at an edge: of the ring tick while ALIGN_LOCKED is 1, else of the local tick (R104). -/
def dpwmPeriods (b : Blk) (t : Nat) : Int :=
  let off := sx 64 (b.f64 RING_TICK_OFFSET_LO.OFFSET RING_TICK_OFFSET_HI.OFFSET 0)
  ((t : Int) + if b.on ALIGN_STATUS.ALIGN_LOCKED 0 then off else 0) * 800

/-- The 400th tick of PRECHECK has passed: carrier fixed (R104), profile from the present VSP, state for the duty that
holds it (R151), SOFTSTART. -/
def precheckPass (t : Nat) (b : Blk) (n : Nat) : Blk :=
  if (b.lp n).preTicks < 400 then b
  else
    loopEvt t b n 10 (· == lPRECHECK) fun _ b =>
      let per : Int := b.f LOOP_PER.PER n
      let pos := (dpwmPeriods b (t + 1) + b.f LOOP_PER.LOOP_OFS n) % per
      let vin : Rat := if b.on LOOP_CFG.KBUS_SRC n then b.vnetRaw * 1000 else (b.f ENG_LOOP_VIN.VIN_REF n : Rat) * 1000
      let d0 := clampQ (dMin b n) (dMax b n) (quot (b.vspRaw n) vin * 16777216)
      let p := (Prof.rest (toInt (b.vspRaw n * lsb))).plan (b.loopLim n) (loopTarget b n)
      let b := (b.setF LOOP_STATE.STATE n lSOFTSTART).setLp n { b.lp n with
        carrier := pos.toNat, prof := p, inside := 0, ov := 0, uv := 0, oc := 0, clamp := none, burstBeats := 0
        duty := roundHalfUp d0 }
      shedReturn (compInit b n d0) n

/-- SOFTSTART complete: profile complete and comparator inside for 16 ticks (R122). -/
def softstartComplete (t : Nat) (b : Blk) (n : Nat) : Blk :=
  if 16 ≤ (b.lp n).inside then loopEvt t b n 10 (· == lSOFTSTART) fun _ b => b.setF LOOP_STATE.STATE n lREGULATING
  else b

/-- BURST left for REGULATING with the shed phases returned (R114). -/
def burstExit (t : Nat) (b : Blk) (n : Nat) : Blk :=
  loopEvt t b n 11 (· == lBURST) fun _ b =>
    shedReturn ((b.setF LOOP_STATE.STATE n lREGULATING).setLp n { b.lp n with asleep := false }) n

/-- A burst of BURST_N + 1 carrier periods that starts at the first on-edge of an active phase after the next edge (R113). -/
def burstBegin (b : Blk) (n : Nat) : Blk :=
  let r := ((activePhases b n).map (edgeIn b n)).foldl min (b.f LOOP_PER.PER n)
  let b := b.bump LOOP_COUNT.BURSTS n
  b.setLp n { b.lp n with
    asleep := false, sleep := 0, burstIn := r + 1, burstLeft := r + (b.f LOOP_BURST.BURST_N n + 1) * b.f LOOP_PER.PER n }

/-- BURST entered after a beat evaluation (R113). -/
def burstEntry (t : Nat) (b : Blk) (n : Nat) : Blk :=
  if b.on LOOP_CFG.BURST_EN n ∧ (activePhases b n).length = b.f LOOP_SHED_N.NMIN n ∧
      b.f LOOP_SHED_N.SHED_BEATS n ≤ (b.lp n).burstBeats ∧ !b.on LOOP_STATE.MOVING n then
    loopEvt t b n 11 (· == lREGULATING) fun _ b =>
      burstBegin ((b.setF LOOP_STATE.STATE n lBURST).setLp n { b.lp n with shortBefore := false }) n
  else b

/-- A move to a new target in tick `t` (R117). -/
def setpointMove (t : Nat) (b : Blk) (n : Nat) : Blk :=
  let b := if b.lst n = lBURST then burstExit t b n else b
  if b.lst n = lSOFTSTART ∨ b.lst n = lREGULATING then
    let tgt := loopTarget b n
    let b := if headPos t b n < tgt then shedReturn b n else b
    (b.setF LOOP_STATE.MOVING n 1).setLp n { b.lp n with prof := headPlan t b n tgt }
  else b

/-- A change of VMAX, AMAX or JMAX latched in tick `t`: a profile under way is planned anew to its target (R165). -/
def loopReplan (t : Nat) (b : Blk) (n : Nat) : Blk :=
  let st := b.lst n
  if (st = lSOFTSTART ∨ st = lREGULATING ∨ st = lSTOPPING) ∧ !(b.lp n).prof.complete then
    b.setLp n { b.lp n with prof := headPlan t b n (b.lp n).prof.tgt }
  else b

/-- The index that is to be in use: enforced, forced or qualified, in this order (R116). -/
def indexChoice (b : Blk) (n : Nat) : Nat :=
  match (b.lp n).enfIdx with
  | some i => i
  | none => if b.on LOOP_CTL.FORCE_EN n then b.f LOOP_CTL.FORCE_IDX n else (b.lp n).qidx

/-- The index in use chosen anew; a change starts a move (R116, R117). -/
def indexUpdate (t : Nat) (b : Blk) (n : Nat) : Blk :=
  let idx := indexChoice b n
  if idx = b.f LOOP_STATE.IDX n then b else setpointMove t (b.setF LOOP_STATE.IDX n idx) n

/-- The raw index qualifies after VSEL_QUAL ticks (R115). -/
def vselQualify (t : Nat) (b : Blk) (n : Nat) : Blk :=
  if b.f LOOP_CFG.VSEL_QUAL n + 1 ≤ (b.lp n).rawRun then
    indexUpdate t (b.setLp n { b.lp n with qidx := b.f LOOP_STATE.RAW_IDX n }) n
  else b

/-- The enforced channels of a loop. -/
def enforcing (b : Blk) (n : Nat) : List Nat :=
  (List.range 4).filter fun k => b.on THR_CTL.ENFORCED k && b.f THR_CFG.LOOP k == n

/-- The throttle-enforced index: of those the enforced channels name the one with the lowest applied set-point, then the lower
number (R218). -/
def enforcedIdx (b : Blk) (n : Nat) : Option Nat :=
  let idxs := (enforcing b n).map fun k => b.f THR_ENF.ENF_IDX k % 8
  (List.range 8).foldl (fun best i =>
    if !idxs.contains i then best
    else match best with
      | none => some i
      | some j => if b.vsetCode n i < b.vsetCode n j then some i else best) none

/-- The limits of a loop's enforced channels act (R217). -/
def enfApply (b : Blk) (n : Nat) : Blk := (enforcing b n).foldl (fun b k => b.setTh k { b.th k with lim := true }) b

/-- The edge after an enforcement, a release or a new setting of an enforced channel: the enforced index chosen anew; the limits act
at once where no move has to come first (R217 to R219). -/
def enforceEdge (b : Blk) (n : Nat) : Blk :=
  if !(b.lp n).enfDue then b
  else
    let b := b.setLp n { b.lp n with enfIdx := enforcedIdx b n }
    let st := b.lst n
    let moves := indexChoice b n ≠ b.f LOOP_STATE.IDX n ∧ (st = lSOFTSTART ∨ st = lREGULATING ∨ st = lBURST)
    if moves ∨ b.on LOOP_STATE.MOVING n ∨ st = lOPEN then b else enfApply b n

/-- The move of that choice, an event of its tick: returning phases have their on-edges from the next edge (R111, R114, R117). -/
def enforceMove (t : Nat) (b : Blk) (n : Nat) : Blk :=
  if (b.lp n).enfDue then indexUpdate t (b.setLp n { b.lp n with enfDue := false }) n else b

/-- A new choice of the enforced index is due at the next edge. -/
def enforceDue (b : Blk) (n : Nat) : Blk := b.setLp n { b.lp n with enfDue := true }

/-- A set-point code written; of the index in use it starts a move, whatever its value (R117); enforced channels choose anew (R218). -/
def vsetWrite (t : Nat) (b : Blk) (n k v : Nat) : Blk :=
  let b := b.setF (LOOP_VSET.CODE k) n v
  let b := if enforcing b n = [] then b else enforceDue b n
  if k = b.f LOOP_STATE.IDX n then setpointMove t b n else b

/-- The profile of a loop has reached its target (R167): a move ends and the limits that waited for it act from the next edge (R217);
a stop ramp ends in DISABLED (R122). -/
def loopProfileComplete (t : Nat) (b : Blk) (n : Nat) : Blk :=
  if !profDone t b n then b
  else
    let b := enfApply (b.setF LOOP_STATE.MOVING n 0) n
    if b.lst n = lSTOPPING then
      loopEvt t b n 10 (· == lSTOPPING) fun _ b => (loopStop b n lDISABLED).setF LOOP_STATE.CAUSE n 1
    else b

/-- RAIL_OV, RAIL_UV and RAIL_OC after their counts (R123, R124). -/
def railOv (t : Nat) (b : Blk) (n : Nat) : Blk :=
  if atLeast1 (b.f LOOP_WIN.QUAL n) ≤ (b.lp n).ov then loopFault t b n 2 3 18 lSwitching else b
def railUv (t : Nat) (b : Blk) (n : Nat) : Blk :=
  if atLeast1 (b.f LOOP_WIN.QUAL n) ≤ (b.lp n).uv then loopFault t b n 4 4 17 (fun s => lSwitching s && s != lSTOPPING) else b
def railOc (t : Nat) (b : Blk) (n : Nat) : Blk :=
  if atLeast1 (b.f LOOP_ILIM2.OC_QUAL n) ≤ (b.lp n).oc then loopFault t b n 3 5 19 lSwitching else b

/-- OPEN entered with the duty held, the profile stopped and its velocity and acceleration kept (R153, R154). -/
def loopOpen (t : Nat) (b : Blk) (n prio src : Nat) : Blk :=
  loopEvt t b n prio (fun s => s == lSOFTSTART || s == lREGULATING || s == lBURST) fun st b =>
    let b := ((b.setF LOOP_STATE.STATE n lOPEN).setF ENG_LOOP_STAT.OPEN_SRC n src).setF ENG_LOOP_STAT.OPEN_TICKS n 0
    let x := b.lp n
    let b := b.setLp n
      { x with held := x.duty, openFor := 0, asleep := false, prof := { x.prof with segs := [], stop := false } }
    if st = lBURST then shedReturn b n else b

/-- OPEN_REQ = 1 latched (R153). DESIGN CHOICE: the write is the event; a 1 written before SOFTSTART and still standing opens nothing. -/
def loopOpenRequest (t : Nat) (b : Blk) (n : Nat) : Blk := loopOpen t (b.setF ENG_LOOP_CTL.OPEN_REQ n 1) n 8 1

/-- Whether a loop in OPEN may be released (R157). -/
def mayRelease (b : Blk) (n : Nat) : Bool :=
  !b.on ENG_LOOP_CTL.OPEN_REQ n && b.f ENG_LOOP_STAT.POISON n == 0 &&
    (b.f ENG_LOOP_STAT.OPEN_SRC n == 1 || !(b.lp n).samplePoison)

/-- A coefficient word is accepted (R152, R159). -/
def coefAccepted (b : Blk) (n : Nat) : Bool :=
  b.on ENG_LOOP_CFG.LIVE_TUNE n || b.lst n == lOPEN || b.lst n == lDISABLED

/-- A staged write of a coefficient word of loop `n` by the control side. -/
def coefStaged (b : Blk) (n : Nat) : Bool :=
  b.staged.any fun s => (match s.who with
    | .port _ => false
    | _ => true) && coefLoop s.addr == some n

/-- COEF_PEND: a LIVE_TUNE write waits for its edge (R159). -/
def pendShow (b : Blk) (n : Nat) : Blk :=
  b.setOn ENG_LOOP_STAT.COEF_PEND n (b.on ENG_LOOP_CFG.LIVE_TUNE n && (!(b.lp n).coef.isEmpty || coefStaged b n))

/-- A write of coefficient word `w`: it waits for its edge, or sets CFG_REJ (R152, R159). -/
def coefWrite (b : Blk) (n w v : Nat) : Blk :=
  if coefAccepted b n then
    let x := b.lp n
    pendShow (b.setLp n { x with coef := x.coef ++ [(w, v % 2 ^ 32)] }) n
  else
    let b := b.flag LOOP_STATE.CFG_REJ n
    { b with wait := b.wait.map fun w => if w.loop && w.idx == n then { w with bad := true } else w }

/-- A coefficient word placed at its edge; its poison mark and its POISON bit clear (R161, R319). -/
def coefPlace (b : Blk) (n w v : Nat) : Blk :=
  let b := engClean (engPut b (16 * n + w) v) (16 * n + w)
  (b.clrBitF ENG_LOOP_STAT.POISON n w).bump ENG_LOOP_CNT.COEF_WRITES n

/-- The waiting coefficient words at an edge: all of an ordinary loop, one of a LIVE_TUNE loop (R152, R159). -/
def coefEdge (b : Blk) (n : Nat) : Blk :=
  let x := b.lp n
  let now := if b.on ENG_LOOP_CFG.LIVE_TUNE n then x.coef.take 1 else x.coef
  let b := now.foldl (fun b p => coefPlace b n p.1 p.2) b
  let rest := x.coef.drop now.length
  pendShow (b.setLp n { b.lp n with coef := rest }) n

/-- Release from OPEN to REGULATING: state for the duty last applied, profile replanned to the target (R157). -/
def loopRelease (t : Nat) (b : Blk) (n : Nat) : Blk :=
  if !mayRelease b n then b
  else
    loopEvt t b n 9 (· == lOPEN) fun _ b =>
      let guard := b.on ENG_LOOP_STAT.GUARD n
      let b := compInit b n (b.lp n).duty
      let b := ((b.setF LOOP_STATE.STATE n lREGULATING).setF ENG_LOOP_STAT.OPEN_TICKS n 0).setF ENG_LOOP_STAT.OPEN_SRC n 0
      let b := (b.setF ENG_LOOP_STAT.GUARD n 0).setF LOOP_STATE.MOVING n 1
      let b := if (b.lp n).prof.x < loopTarget b n then shedReturn b n else b
      let b := if guard then guardMid b n else b
      b.setLp n { b.lp n with prof := (b.lp n).prof.plan (b.loopLim n) (loopTarget b n) }

/-- OPEN_REQ = 0 latched: the bit clears and a loop that may be released is released, with the coefficient words that take
effect at the same edge in force (R427). -/
def loopOpenClear (t : Nat) (b : Blk) (n : Nat) : Blk :=
  let b := if b.on ENG_LOOP_CFG.LIVE_TUNE n then b else coefEdge b n
  loopRelease t (b.setF ENG_LOOP_CTL.OPEN_REQ n 0) n

/-- The OPEN time limit, latched in tick m + 2,000 of a loop that entered OPEN at edge m (R156). -/
def loopOpenTime (t : Nat) (b : Blk) (n : Nat) : Blk :=
  if 2000 < (b.lp n).openFor then loopFault t b n 5 6 39 (· == lOPEN) else b

/-! The work of a tick -/

/-- The raw index from the VSEL pins (R115). -/
def rawIndex (b : Blk) (n : Nat) : Nat :=
  let pin (F : Fld) (w : Nat) : Nat := if b.f F n < 12 ∧ b.sig (.vsel (b.f F n)) ≠ 0 then w else 0
  pin LOOP_CFG.VSEL0 1 + pin LOOP_CFG.VSEL1 2 + pin LOOP_CFG.VSEL2 4

/-- What a loop latches at an edge: coefficient words, raw index, window comparator (R112), position in force (R149),
duty applied. -/
def loopLatch (b : Blk) (n : Nat) : Blk :=
  let b := coefEdge b n
  let raw := rawIndex b n
  let x := b.lp n
  let run := if raw = b.f LOOP_STATE.RAW_IDX n then x.rawRun + 1 else 1
  let vset : Rat := (x.prof.x : Rat) / lsb
  let v : Rat := b.vspNow n
  let cmp := if v ≤ vset - b.f LOOP_CMPWIN.LO_MV n * 1000 then 0
    else if vset + b.f LOOP_CMPWIN.HI_MV n * 1000 ≤ v then 2 else 1
  let b := (b.setF LOOP_STATE.RAW_IDX n raw).setFi LOOP_VSET_NOW.VALUE n (toInt vset)
  let b := b.setF ENG_LOOP_DUTY.D n x.duty.toNat
  b.setLp n { b.lp n with rawRun := run, cmp := cmp }

/-- The pre-start check of a tick (R119, R120). -/
def precheckTick (t : Nat) (b : Blk) (n : Nat) : Blk :=
  if b.lst n ≠ lPRECHECK ∨ 400 ≤ (b.lp n).preTicks then b
  else
    let v := b.vspUv n
    let x := b.lp n
    let v0 := if x.preTicks = 0 then v else x.v0
    let mx := max x.preMax v
    let vmax := (List.range 8).foldl (fun m k => max m (b.codeUv n (b.vsetCode n k))) 0
    let th0 : Rat := min ((vmax : Rat) * 11 / 10) (b.vnetMv * 600)
    let th := if b.on LOOP_CFG.PREBIAS n then max th0 ((v0 + b.f LOOP_PRE.PRE_RISE n * 1000 : Int) : Rat) else th0
    let b := b.setLp n { x with preTicks := x.preTicks + 1, v0 := v0, preMax := mx }
    let b := b.setF LOOP_PRE.PRE_V n (toInt ((mx : Rat) / 1000)).toNat
    if th < (v : Rat) then loopFault t b n 2 2 20 (· == lPRECHECK) else b

/-- ITOT: the sum of the latest samples of the active phases, in A (R109). -/
def itot (b : Blk) (n : Nat) : Rat := ((activePhases b n).map fun p => b.phaseAmps p).sum

/-- The applied current limit of a loop, 0.1 A: the least of its own and those of the enforced channels that act (R217, R218). -/
def ilimApplied (b : Blk) (n : Nat) : Nat :=
  ((enforcing b n).filter fun k => (b.th k).lim).foldl (fun m k => min m (b.f THR_ENF.ENF_ILIM k)) (b.f LOOP_ILIM.ILIM n)

/-- The lowered upper clamp of R109. -/
def currentClamp (b : Blk) (n : Nat) : Blk :=
  let x := b.lp n
  let step : Int := b.f LOOP_ILIM2.ILIM_STEP n * 4096
  if (ilimApplied b n : Rat) / 10 < itot b n then
    (b.setF LOOP_STATE.ILIM_ACT n 1).setLp n { x with clamp := some (max 0 (x.clamp.getD (dMax b n) - step)) }
  else
    match x.clamp with
    | none => b
    | some c =>
      if dMax b n ≤ c + step then (b.setF LOOP_STATE.ILIM_ACT n 0).setLp n { x with clamp := none }
      else b.setLp n { x with clamp := some (c + step) }

/-- The upper clamp in force. -/
def dHi (b : Blk) (n : Nat) : Int := min (dMax b n) ((b.lp n).clamp.getD (dMax b n))

/-- One computation of the compensator from a raw sample (R146, R147). -/
def compStep (b : Blk) (n : Nat) (r v : Int) : Blk :=
  let x := b.lp n
  let e := clampI (-16383) 16383 (r - v)
  let s (k : Nat) : Rat := x.s.getD k 0
  let one : Rat := 16777216
  let y := clampI (dMin b n) (dHi b n) (roundHalfUp (coefB b n 0 * e * one + s 0))
  let yq : Rat := y
  let s1 := sat40 (roundHalfUp (coefB b n 1 * e * one - coefA b n 0 * yq + s 1))
  let s2 := sat40 (roundHalfUp (coefB b n 2 * e * one - coefA b n 1 * yq + s 2))
  let s3 := sat40 (roundHalfUp (coefB b n 3 * e * one - coefA b n 2 * yq))
  statesPut ((b.setLp n { x with duty := y }).setFi ENG_LOOP_ERR.E n e) n [s1, s2, s3]

/-- The engine that runs a loop's task, as a DETAIL names it (R301). -/
def loopEngine (b : Blk) (n : Nat) : Nat :=
  let e := b.f ENG_LOOP_CFG.ENGINE n
  if b.f ENG_STATUS.LE4_ROLE 0 = e + 1 then 5 else e

/-- The mark of the voltage sample of a tick. -/
def sampleMark (b : Blk) (n : Nat) : Blk := b.setLp n { b.lp n with samplePoison := (b.sample (0x58 + n)).psn }

/-- The poisoned state words in STOPPING set anew for the duty held (R161). -/
def stateMend (b : Blk) (n : Nat) (bad : List Nat) : Blk :=
  let l := statesFor b n (b.lp n).duty
  showState (forAll 3 b fun i b => if bad.any (fun k => (k % 16 - 8) / 2 == i) then statePut b n i (l.getD i 0) else b) n

/-- The compensator of a tick with its poison check: every coefficient and state word is read from its engine store, and the sample
in the LSB of the slot that made it (R146, R161). -/
def compTick (t : Nat) (b : Blk) (n : Nat) : Blk :=
  let (bad, b) := engReads t (sampleMark b n) ((List.range 14).map (16 * n + ·))
  let b := (bad.filter (· % 16 < 8)).foldl (fun b k => b.setBitF ENG_LOOP_STAT.POISON n (k % 16)) b
  let x := b.lp n
  if bad ≠ [] ∨ x.samplePoison then
    let b := b.raiseFor t 4 (loopEngine b n + n * 256) .none
    if b.lst n = lSTOPPING then stateMend b n (bad.filter (8 ≤ · % 16))
    else loopOpen t b n 7 (if bad ≠ [] then 3 else 2)
  else
    let s := b.sample (0x58 + n)
    let r := Config.rawReference (b.f LOOP_CFG.SCALE n) (b.f ADC_CAL.GAIN s.conv) (b.fi ADC_CAL.OFFSET s.conv) ((x.prof.x : Rat) / lsb)
    compStep b n r s.raw

/-- A sleep of BURST (R113, R114). An aborted task ends none (R24). -/
def sleepTick (t : Nat) (run : Bool) (b : Blk) (n : Nat) : Blk :=
  let x := b.lp n
  let len := x.sleep + 1
  if x.cmp ≠ 0 ∨ !run then b.setLp n { x with sleep := len }
  else
    let short := decide (len < b.f LOOP_BURST.SLEEP_MIN n)
    if short ∧ x.shortBefore then burstExit t b n
    else burstBegin (b.setLp n { x with shortBefore := short }) n

/-- A burst: BURST is left when the output is low in a burst that has begun (R114); sleep begins when the carrier periods have passed.
An aborted task does neither (R24). -/
def burstTick (t : Nat) (run : Bool) (b : Blk) (n : Nat) : Blk :=
  let x := b.lp n
  if run ∧ x.cmp = 0 ∧ x.burstIn = 0 then burstExit t b n
  else b.setLp n { x with
    burstIn := x.burstIn - 800, burstLeft := x.burstLeft - 800, asleep := run && decide (x.burstLeft ≤ 800)
    sleep := 0 }

/-- OPEN for one tick: held duty, guard, count (R154, R155). -/
def openTick (b : Blk) (n : Nat) : Blk :=
  let b := sampleMark b n
  let x := b.lp n
  let b := b.setF ENG_LOOP_STAT.OPEN_TICKS n (min 65535 (b.f ENG_LOOP_STAT.OPEN_TICKS n + 1))
  let b := b.setLp n { x with duty := min x.held (dHi b n), openFor := x.openFor + 1 }
  if x.cmp = 2 then (b.setF ENG_LOOP_STAT.GUARD n 1).bump ENG_LOOP_CNT.GUARD_COUNT n else b.setF ENG_LOOP_STAT.GUARD n 0

/-- The rail counts of a tick against the position in force (R123, R124). -/
def railCounts (b : Blk) (n : Nat) : Blk :=
  let x := b.lp n
  let v : Rat := b.vspUv n
  let vset : Rat := (x.prof.x : Rat) / lsb
  b.setLp n { x with
    ov := runN x.ov (decide (vset + b.f LOOP_WIN.OV_MV n * 1000 < v))
    uv := runN x.uv (decide (v < vset - b.f LOOP_WIN.UV_MV n * 1000) && b.lst n != lSTOPPING)
    oc := runN x.oc (decide ((b.iocApplied n : Rat) / 10 < itot b n))
    inside := runN x.inside (x.prof.complete && x.cmp == 1) }

/-- The skips of a tick: an active phase whose current sample of this tick exceeds IPH_LIM omits its first on-edge after the next
edge (R108). -/
def phaseSkips (t : Nat) (b : Blk) (n : Nat) : Blk :=
  (activePhases b n).foldl (fun b p =>
    if b.fresh? t (0x40 + p) ∧ (b.f LOOP_ILIM2.IPH_LIM n : Rat) / 10 < b.phaseAmps p then
      (b.bump LOOP_COUNT.SKIP_COUNT n).setPh p { b.ph p with skip := true }
    else b) b

/-- A loop's share of a tick after the samples. `run` is false when its task was aborted (R24). -/
def loopTick (t : Nat) (run : Bool) (b : Blk) (n : Nat) : Blk :=
  let b := (b.setFi LOOP_VSP.VALUE n (b.vspUv n)).setFi LOOP_ITOT.VALUE n (toInt (itot b n * 1000))
  let b := precheckTick t b n
  let st := b.lst n
  if !lSwitching st then b.setLp n { b.lp n with edge := false }
  else
    let b := railCounts (currentClamp (phasesPass b n) n) n
    let b := if (b.lp n).cmp = 0 ∧ st ≠ lOPEN ∧ st ≠ lBURST then shedReturn b n else b
    let b :=
      if st = lOPEN then openTick b n
      else if st = lBURST ∧ (b.lp n).asleep then sleepTick t run b n
      else
        let b := if run ∧ (st ≠ lBURST ∨ (b.lp n).burstIn ≤ 800) then compTick t b n else b
        if b.lst n = lBURST then burstTick t run b n else b
    let done := (b.lp n).prof.complete
    let b :=
      if run ∧ b.lst n ≠ lOPEN then
        b.setLp n { b.lp n with prof := (b.lp n).prof.advance (b.loopLim n), profWas := (b.lp n).prof, advAt := t + 1 }
      else b
    let b := if b.on LOOP_STATE.MOVING n ∧ done ∧ b.lst n ≠ lSTOPPING ∧ (enforcing b n).all (fun k => (b.th k).lim) then
      b.setF LOOP_STATE.MOVING n 0 else b
    let p := (b.lp n).prof
    let b := (b.setFi ENG_LOOP_PVEL.VALUE n (toInt ((p.v : Rat) * 2000 / lsb))).setFi ENG_LOOP_PACC.VALUE n
      (toInt ((p.a : Rat) * 4000000 / lsb))
    phasesLoad (phaseSkips t b n) n

/-- The phase samples of a tick added to the beat (R107): a phase sampled in this tick, and the mean at the beat's end. -/
def phaseSamples (t : Nat) (b : Blk) : Blk :=
  forAll 24 b fun p b =>
    let s := b.sample (0x40 + p)
    let x := b.ph p
    let x := if s.tk = t + 1 ∧ !s.psn then { x with sum := x.sum + b.phaseAmps p, cnt := x.cnt + 1 } else x
    if t % 16 = 15 then
      let avg := if x.cnt = 0 then x.avg else x.sum / x.cnt
      (b.setPh p { x with sum := 0, cnt := 0, avg := avg }).setFi PHASE_STAT.I_AVG p (toInt (avg * 10))
    else b.setPh p x

/-! The work of a beat -/

/-- The mean over a list of phases. -/
def meanOf (l : List Rat) : Rat := if l.isEmpty then 0 else l.sum / l.length

/-- The balance unit (R107). -/
def phaseBalance (b : Blk) (n : Nat) : Blk :=
  let act := activePhases b n
  let m := meanOf (act.map fun p => (b.ph p).avg)
  let k : Rat := (b.f LOOP_SHARE.KSHARE n : Rat) / 256
  let raw (p : Nat) : Rat := (b.ph p).trim + k * (m - (b.ph p).avg)
  let c := meanOf (act.map raw)
  let mx : Rat := (min (b.f LOOP_SHARE.TRIM_MAX n) 16000 : Nat)
  act.foldl (fun b' p =>
    let v := clampQ (-mx) mx (raw p - c)
    (b'.setPh p { b'.ph p with trim := v }).setFi PHASE_TRIM.TRIM p (toInt v)) b

/-- The counts of R110 and R113 and the return of R111 at a beat evaluation; in OPEN no phase returns (R154). -/
def shedEval (b : Blk) (n : Nat) : Blk :=
  let act := activePhases b n
  let m := meanOf (act.map fun p => (b.ph p).avg)
  let x := b.lp n
  let shedA : Rat := (b.f LOOP_SHED.SHED_A n : Rat) / 10
  let b := b.setLp n { x with
    shedBeats := runN x.shedBeats (decide (m < shedA ∧ b.f LOOP_SHED.SHED_A n ≠ 0))
    burstBeats := runN x.burstBeats (decide (m < (b.f LOOP_SHED_N.BURST_A n : Rat) / 10)) }
  if b.lst n ≠ lOPEN ∧ (b.f LOOP_SHED.ADD_A n : Rat) / 10 < m then
    shedReturn b n
  else b

/-- The phase shed next: highest SHED_RANK, then highest number (R110). -/
def shedChoice (b : Blk) (n : Nat) : Option Nat :=
  (activePhases b n).foldl (fun best p =>
    match best with
    | none => some p
    | some q => if b.f PHASE_CFG.SHED_RANK q ≤ b.f PHASE_CFG.SHED_RANK p then some p else best) none

/-- One phase shed after its beats; it completes its current period (R110). DESIGN CHOICE: with SHED_BEATS = 0 no beat need qualify. -/
def phaseShed (b : Blk) (n : Nat) : Blk :=
  let st := b.lst n
  if b.f LOOP_SHED_N.SHED_BEATS n ≤ (b.lp n).shedBeats ∧ b.f LOOP_SHED.SHED_A n ≠ 0 ∧
      b.f LOOP_SHED_N.NMIN n < (activePhases b n).length ∧ lSwitching st ∧ st ≠ lOPEN then
    match shedChoice b n with
    | some p =>
      let b := (b.setF PHASE_STAT.ACTIVE p 0).setPh p { b.ph p with shed := (b.ph p).ton.isSome }
      showActive (b.setLp n { b.lp n with shedBeats := 0 }) n
    | none => b
  else b

/-- The loops' share of a beat. -/
def loopBeat (b : Blk) (n : Nat) : Blk :=
  if lSwitching (b.lst n) then shedEval (phaseBalance b n) n else b

/-- A loop is power-good for the sequencer (R125). -/
def loopPg (b : Blk) (n : Nat) : Bool :=
  (b.lst n == lREGULATING || b.lst n == lBURST) && (b.lp n).ov == 0 && (b.lp n).uv == 0

/-- The KBUS source is present (R127). -/
def kbusSource (b : Blk) : Bool :=
  (List.range 8).any fun n => b.on LOOP_CFG.KBUS_SRC n && (b.lst n == lREGULATING || b.lst n == lBURST)

/-! The engines' task lists and the spare engine -/

/-- An engine whose task list LE4 has taken. -/
def replaced (b : Blk) (e : Nat) : Bool := b.f ENG_STATUS.LE4_ROLE 0 == e + 1

/-- The engine that LE4 shadows: 0 to 3 = LE0 to LE3, 4 = ME (R168). -/
def shadowed (b : Blk) : Option Nat :=
  let e := b.f ENG_STATUS.LE4_SHADOW 0
  if b.eng.shadowing ∧ b.f ENG_STATUS.LE4_ROLE 0 = 0 ∧ b.sparesLeft 5 ≠ 0 ∧ e < 5 ∧ b.meOn then some e else none

/-- The engine whose overruns count for the tasks of engine `e`: LE4 (5) in its place, and for LE4's own copy. -/
def runner (b : Blk) (e : Nat) : Nat := if replaced b e ∨ (b.eng.asSpare ∧ shadowed b = some e) then 5 else e

/-- An engine has overrun: LE4 takes its list as after a difference (R169, R384); with no LE4 left SPARE_EXHAUSTED (R386). -/
def overrunSpare (t : Nat) (b : Blk) (e : Nat) : Blk :=
  if e = 5 ∧ b.f ENG_STATUS.LE4_ROLE 0 = 0 ∨ b.eng.takeOver = some e ∨ b.eng.overrun = some e then b
  else if e < 5 ∧ b.f ENG_STATUS.LE4_ROLE 0 = 0 ∧ b.sparesLeft 5 ≠ 0 ∧ b.eng.takeOver = none ∧ b.eng.overrun = none then
    { b with eng := { b.eng with overrun := some e } }
  else b.raise t 12 0xFFFF

/-- The overruns and finishing cycles of a tick (R24, ENG_LOAD). An engine taken offline runs nothing; LE4 counts when it runs a
list, and ENG_LOAD shows it under the name of the engine it replaces (R170). -/
def engineTick (t : Nat) (b : Blk) : Blk :=
  let runs (e : Nat) : Bool := if e = 5 then b.f ENG_STATUS.LE4_ROLE 0 != 0 || (shadowed b).isSome else !replaced b e
  let b := forAll 6 b fun e b =>
    if b.sig (.engOverrun e) ≠ 0 ∧ runs e then
      overrunSpare t (((b.flag ENG_OVR_FLAGS.OVR 0 (2 ^ e)).bump ENG_OVR_COUNT.COUNT 0).raise t 3 e) e
    else b
  forAll 5 b fun e b =>
    let r := if replaced b e then 5 else e
    let v := if b.sig (.engOverrun r) ≠ 0 then 255 else ux 8 (b.sig (.engFinish r))
    let b := b.setF ENG_LOAD.LAST_FINISH e v
    if b.f ENG_LOAD.MAX_FINISH e < v then b.setF ENG_LOAD.MAX_FINISH e v else b

/-- Whether a sampled task runs to its end in this tick: an overrun of `k > 0` leaves the first `k - 1` sampled tasks of
the engine, in ascending slot and in the order of the list among equal slots, and aborts the rest (R22, R24). DESIGN CHOICE: the order among
equal slots. -/
def taskRuns (b : Blk) (kind inst : Nat) : Bool :=
  match b.tasks.find? fun x => x.kind == kind && x.inst == inst with
  | none => true
  | some x =>
    let o := b.sig (.engOverrun (runner b x.eng))
    if o = 0 then true
    else
      let mine (y : Task) : Bool := y.eng == x.eng && y.kind ≤ 3
      let ahead := (b.tasks.takeWhile fun y => !(y == x)).filter fun y => mine y && decide (y.slot ≤ x.slot)
      let behind := (b.tasks.dropWhile fun y => !(y == x)).filter fun y => mine y && decide (y.slot < x.slot)
      let before := ahead.length + behind.length
      decide ((before : Int) < o - 1)

/-- The output and state words of a task (R168): a loop's states, duty and profile; a buck's ramp, integrator and command; the
charger's profile, integrators and duty; for the ME a gate loop's integrator, profile and drive, the terms of a berth with a token,
two twins of the tick, the gauge's charge. -/
def taskWords (t : Nat) (b : Blk) (kind i : Nat) : List Rat :=
  let prof (p : Prof) : List Rat := [(p.x : Rat), (p.v : Rat), (p.a : Rat)]
  let ofToken (g : Berth → List Rat) : List Rat := match b.tokenOwner i with
    | some nn => g (b.brt nn)
    | none => []
  match kind with
  | 0 => (b.lp i).s.map (fun (v : Int) => (v : Rat)) ++ [((b.lp i).duty : Rat)] ++ prof (b.lp i).prof
  | 1 => [((b.bk i).ramp : Rat), (b.bk i).integ, (b.bk i).icmd]
  | 2 => prof b.chg.prof ++ [b.chg.vi, b.chg.ii, b.chg.duty]
  | 3 => ofToken fun x => x.integ :: prof x.prof ++ [match x.gate with
      | .slow ua => ua
      | _ => 0]
  | 4 => ofToken fun x => x.terms
  | 5 => let x := b.brt (2 * (t % 16) + i); [(x.tc : Rat), (x.tb : Rat)]
  | _ => [(b.gauge.q : Rat)]

/-- The words of a task replaced. -/
def putWords (t : Nat) (b : Blk) (kind i : Nat) (l : List Rat) : Blk :=
  let w (k : Nat) : Rat := l.getD k 0
  let prof (p : Prof) (k : Nat) : Prof := { p with x := toInt (w k), v := toInt (w (k + 1)), a := toInt (w (k + 2)) }
  let ofToken (g : Berth → Berth) : Blk := match b.tokenOwner i with
    | some nn => b.setBrt nn (g (b.brt nn))
    | none => b
  match kind with
  | 0 =>
    let x := b.lp i
    phasesLoad (showState (b.setLp i { x with
      s := [sat40 (toInt (w 0)), sat40 (toInt (w 1)), sat40 (toInt (w 2))], duty := toInt (w 3), prof := prof x.prof 4 }) i) i
  | 1 => b.setBk i { b.bk i with ramp := toInt (w 0), integ := w 1, icmd := w 2 }
  | 2 => { b with chg := { b.chg with prof := prof b.chg.prof 0, vi := w 3, ii := w 4, duty := w 5 } }
  | 3 => ofToken fun x => { x with
      integ := w 0, prof := prof x.prof 1
      gate := match x.gate with
        | .slow _ => .slow (w 4)
        | g => g }
  | 4 => ofToken fun x => { x with terms := [w 0, w 1, w 2] }
  | 5 => let nn := 2 * (t % 16) + i; b.setBrt nn { b.brt nn with tc := toInt (w 0), tb := toInt (w 1) }
  | _ => { b with gauge := { b.gauge with q := toInt (w 0) } }

/-- The engine-store word of state word `w` of a task other than a loop's. -/
def taskWordKey (t kind i w : Nat) : Nat := taskKey kind (if kind = 5 then 2 * (t % 16) + i else i) w

/-- The state words of a task written whole. -/
def taskFresh (t : Nat) (b : Blk) (kind i : Nat) : Blk :=
  (List.range (taskWords t b kind i).length).foldl (fun b w => engFresh b (taskWordKey t kind i w)) b

/-- The state words of a task read by its engine (R318, R319): whether one carries a poison mark. A word that goes on with wrong bits has
the free value from then on. -/
def taskRead (t : Nat) (b : Blk) (kind i : Nat) : Bool × Blk :=
  let l := taskWords t b kind i
  let ws := List.range l.length
  let (bad, b) := engReads t b (ws.map (taskWordKey t kind i))
  if bad ≠ [] then (true, b)
  else
    let wrong := ws.filter fun w => !b.eng.asSpare && Tab.get b.eng.err 0 (taskWordKey t kind i w) != 0
    if wrong = [] then (false, b)
    else
      let l' := ws.map fun w =>
        let k := taskWordKey t kind i w
        if wrong.contains w then Config.engineData k (Tab.get b.eng.err 0 k) (l.getD w 0) else l.getD w 0
      (false, wrong.foldl (fun b w => engFresh b (taskWordKey t kind i w)) (putWords t b kind i l'))

/-- The engine that runs a task outside the loops, as a DETAIL names it (R301). -/
def taskEngine (b : Blk) (kind i home : Nat) : Nat :=
  let e := match b.tasks.find? fun x => x.kind == kind && x.inst == i with
    | some x => x.eng
    | none => home
  if b.f ENG_STATUS.LE4_ROLE 0 = e + 1 then 5 else e

/-- ENGINE_POISON of a task that no loop is involved in (R25, R301). -/
def taskPoison (t : Nat) (b : Blk) (kind i home : Nat) (o : Obj) : Blk := b.raiseFor t 4 (taskEngine b kind i home + 0xF00) o

/-- The tasks of an engine's list. -/
def engineTasks (b : Blk) (e : Nat) : List Task := b.tasks.filter (·.eng == e)

/-- The words of a task of a faulty engine (0) or LE4 (1): the words computed with what the fault adds to each. -/
def slipped (b : Blk) (spare : Nat) (x : Task) (l : List Rat) : List Rat :=
  (List.range l.length).map fun w => l.getD w 0 + b.sig (.engSlip spare x.kind x.inst w)

/-- The words of the tasks as the engines that run them compute them. -/
def engineSlips (t : Nat) (b : Blk) : Blk :=
  b.tasks.foldl (fun b x =>
    let l := taskWords t b x.kind x.inst
    let l' := slipped b (b2n (replaced b x.eng)) x l
    if l' = l then b else putWords t b x.kind x.inst l') b

/-- LE4's own copy put in the place of the shadowed engine's words. -/
def ownWords (t : Nat) (b : Blk) (own : List (Nat × Nat × Nat × Rat)) : Blk :=
  own.foldl (fun b d =>
    let l := taskWords t b d.1 d.2.1
    if d.2.2.1 < l.length then putWords t b d.1 d.2.1 (l.set d.2.2.1 (l.getD d.2.2.1 0 + d.2.2.2)) else b) b

/-- The words in which LE4's copy `c` of a task list differs from the engine's `b` (R168). -/
def wordDiffs (t : Nat) (b c : Blk) (e : Nat) : List (Nat × Nat × Nat × Rat) :=
  (engineTasks b e).flatMap fun x =>
    let l := taskWords t b x.kind x.inst
    let m := slipped b 1 x (taskWords t c x.kind x.inst)
    (List.range l.length).filterMap fun w =>
      if m.getD w 0 = l.getD w 0 then none else some (x.kind, x.inst, w, m.getD w 0 - l.getD w 0)

/-- The work `f` of a tick's engines, and beside it LE4's own run of the list of the engine it shadows, on the same samples and
coefficient words and its own copy of the state; its outputs are not applied (R168). -/
def engineWork (t : Nat) (f : Blk → Blk) (b : Blk) : Blk :=
  let y := f b
  let z := engineSlips t y
  match shadowed b with
  | none => { z with eng := { z.eng with own := [], flips := [] } }
  | some e =>
    let c :=
      if b.eng.own = [] ∧ b.eng.flips = [] ∧ b.eng.syn = [] ∧ b.eng.mark = [] ∧ b.eng.err = [] ∧
          b.sig (.engOverrun e) = 0 ∧ b.sig (.engOverrun 5) = 0 then y
      else
        let b' := ownWords t b (b.eng.own ++ b.eng.flips)
        f { b' with eng := { b'.eng with asSpare := true } }
    { z with eng := { z.eng with own := wordDiffs t z c e, flips := [] } }

/-- The state words of an engine's tasks as LE4's store holds them: clean codewords. -/
def engineFresh (t : Nat) (b : Blk) (e : Nat) : Blk :=
  (engineTasks b e).foldl (fun b x =>
    if x.kind = 0 then forAll 6 b fun i b => engFresh b (16 * x.inst + 8 + i) else taskFresh t b x.kind x.inst) b

/-- What edge `t` finds of the shadowed engine (R169): a difference of the tick before is recorded, and LE4 takes the list at the edge
after, from its own copy of the state. An engine that overran is taken over likewise, from its state as it stands (R384). -/
def shadowEdge (t : Nat) (b : Blk) : Blk :=
  match b.eng.takeOver with
  | some e =>
    let own := b.eng.own.filter fun d => (engineTasks b e).any fun x => x.kind == d.1 && x.inst == d.2.1
    let b := engineFresh (t - 1) (ownWords (t - 1) b own) e
    let b := ((b.setF ENG_STATUS.LE4_ROLE 0 (e + 1)).setF ENG_STATUS.LE4_SHADOW 0 15).raise t 44 0xFFFF
    let b := (b.setF ENG_OFFLINE.RESULT 0 1).setF ENG_OFFLINE.ENGINE 0 e
    { b with eng := { b.eng with takeOver := none, shadowing := false, own := [] } }
  | none =>
    let b := { b with eng := { b.eng with takeOver := b.eng.overrun, overrun := none } }
    match shadowed b with
    | some e =>
      if b.eng.own = [] then b
      else
        let b := ((b.bump ENG_SHADOW.MISMATCHES 0).setF ENG_SHADOW.LAST_ENG 0 e).raise t 45 0xFFFF
        { b.set64 ENG_SHADOW_TICK_LO.TICK ENG_SHADOW_TICK_HI.TICK 0 t with
          eng := { b.eng with clean := false, takeOver := some e } }
    | none => b

/-- The rotation of the shadow at a slow round (R168): LE4's copy begins as the next engine's state. LE4 counted as used takes no part
(R385). -/
def shadowRotate (b : Blk) : Blk :=
  if b.f ENG_STATUS.LE4_ROLE 0 ≠ 0 ∨ b.sparesLeft 5 = 0 then b.setF ENG_STATUS.LE4_SHADOW 0 15
  else if b.eng.takeOver.isSome then b
  else if b.eng.shadowing then
    let b := if b.eng.clean then b.bump ENG_SHADOW.PASSES 0 else b
    { b.setF ENG_STATUS.LE4_SHADOW 0 ((b.f ENG_STATUS.LE4_SHADOW 0 + 1) % 5) with
      eng := { b.eng with clean := true, own := [] } }
  else if b.eng.started then
    { b.setF ENG_STATUS.LE4_SHADOW 0 0 with
      eng := { b.eng with shadowing := true, clean := true, takeOver := none, own := [] } }
  else b

end Sys2Proof.Machine
end

