-- ==== Sys2Proof/Machine/Berths.lean ====
section
/-! DEFINITION. Berths and feeds: spec/02_berths_switching.md and spec/03_berths_protection.md. Each operation takes the
tick `t` in which it happens; the states it leaves hold from the next edge. -/
namespace Sys2Proof.Machine

/-! Berth states (BERTH_nn_STATE) -/
def bOFF : Nat := 0
def bPENDING : Nat := 1
def bINRUSH : Nat := 2
def bON : Nat := 3
def bTRIPPED : Nat := 4
def bLOCKED : Nat := 5
def bHELD : Nat := 6

/-- A berth's state. -/
def Blk.bst (b : Blk) (nn : Nat) : Nat := b.f BERTH_STATE.STATE nn

/-- A berth moves to a state with its gate command set and its token, if any, released (R37). A slice whose fast-trip
latch is set refuses every gate drive (R74). -/
def berthTo (b : Blk) (nn st : Nat) (g : Gate) : Blk :=
  let was := b.f BERTH_STATE.TOKEN nn
  let b := (b.setF BERTH_STATE.STATE nn st).setF BERTH_STATE.TOKEN nn 7
  b.setBrt nn { b.brt nn with
    tokWas := if was = 7 then (b.brt nn).tokWas else was
    gate := if b.on BERTH_PSTAT.FT_LATCH nn ∧ g ≠ .off then .sink else g }

/-- A trip of this tick taken back, when an event that comes first in the order replaces it: record, LOCKED map, CAUSE and trip tick
as they stood (R38). -/
def unTrip (t : Nat) (b : Blk) (nn : Nat) : Blk :=
  match b.trips.find? fun x => x.1 == nn && x.2.2.1 == t with
  | some x =>
    let b := (b.setF BERTH_STATE.CAUSE nn (b.brt nn).causeWas).set64 BERTH_TRIP_TICK_LO.TICK BERTH_TRIP_TICK_HI.TICK nn (b.brt nn).tickWas
    { b with
      trips := b.trips.filter fun x => !(x.1 == nn && x.2.2.1 == t)
      lockedMap := if x.2.2.2 = 5 then clrBit b.lockedMap nn else b.lockedMap }
  | none => b

/-- An event acts on a berth, in place of one of the same tick that comes later in the order (R38). -/
def berthActed (t : Nat) (b : Blk) (nn prio st : Nat) : Blk :=
  (if (Tab.get b.evts {} (Obj.berth nn).key).tk = t + 1 then unTrip t b nn else b).acted t (.berth nn) prio st

/-- The retry count a trip of tick `t` is judged by: that of a window which closes in the same tick still stands (R15, R92). -/
def retryCount (t : Nat) (b : Blk) (nn : Nat) : Nat :=
  if (b.brt nn).shutAt = t + 1 then max (b.brt nn).shutCnt (b.f BERTH_PSTAT.RETRY_CNT nn) else b.f BERTH_PSTAT.RETRY_CNT nn

/-- A trip of any cause: fast sink, CAUSE, trip tick, TRIPPED or LOCKED by the retry count (R75, R81, R92). -/
def berthTrip (t : Nat) (b : Blk) (nn prio st cause src : Nat) : Blk :=
  let b := berthActed t b nn prio st
  let b := b.setBrt nn { b.brt nn with
    causeWas := b.f BERTH_STATE.CAUSE nn, tickWas := b.f64 BERTH_TRIP_TICK_LO.TICK BERTH_TRIP_TICK_HI.TICK nn }
  let lock := decide (b.f BERTH_PLIM.RETRY_MAX nn ≤ retryCount t b nn)
  let b := berthTo b nn (if lock then bLOCKED else bTRIPPED) .sink
  let b := (b.setF BERTH_STATE.CAUSE nn cause).set64 BERTH_TRIP_TICK_LO.TICK BERTH_TRIP_TICK_HI.TICK nn t
  let b := b.raiseFor t src nn (.berth nn)
  let b := b.setBrt nn { b.brt nn with zeroAt := none }
  { b with lockedMap := if lock then setBit b.lockedMap nn else b.lockedMap, trips := b.trips ++ [(nn, cause, t, if lock then 5 else 4)] }

/-- A berth placed OFF by hardware with a cause: SAFE (0x6) or ALL-OFF (0x7). ON is cleared (R94, R230). -/
def berthForceOff (t : Nat) (b : Blk) (nn st cause : Nat) : Blk :=
  let b := berthActed t b nn 2 st
  let b := (berthTo b nn bOFF (if st = bPENDING then .off else .sink)).setF BERTH_CTL.ON nn 0
  if st = bPENDING then b else b.setF BERTH_STATE.CAUSE nn cause

/-- Entry to SAFE for one berth (R94). DESIGN CHOICE: a berth that goes from ON to HELD keeps its CAUSE; one that a request of the same
tick has made PENDING leaves the queue for OFF. -/
def berthSafe (t : Nat) (b : Blk) (nn : Nat) : Blk :=
  match b.found t (.berth nn) 2 (b.bst nn) with
  | none => b
  | some st =>
    if st = bON ∧ b.on BERTH_CFG.SAFE_HELD nn then berthTo (berthActed t b nn 2 st) nn bHELD .hold
    else if st = bPENDING ∨ st = bINRUSH ∨ st = bON then berthForceOff t b nn st 6
    else if b.bst nn = bPENDING then berthForceOff t b nn bPENDING 6
    else b

/-- The ALL-OFF line for a member berth: its enable is cleared; a HELD berth stays on with its ON bit (R96, R230). DESIGN CHOICE: an ON
bit that the line clears on a TRIPPED or LOCKED berth is no latched 0 of R88; a toggle needs a written one. -/
def berthAllOff (t : Nat) (b : Blk) (nn : Nat) : Blk :=
  match b.found t (.berth nn) 2 (b.bst nn) with
  | none => if b.bst nn = bHELD then b else b.setF BERTH_CTL.ON nn 0
  | some st =>
    if st = bPENDING ∨ st = bINRUSH ∨ st = bON then berthForceOff t b nn st 7
    else if st = bHELD then b else b.setF BERTH_CTL.ON nn 0

/-- A 1 latched in ON in tick `t` completes a toggle: its 0 was latched at an edge before (R88). -/
def togglesAt (t : Nat) (b : Blk) (nn : Nat) : Bool :=
  (b.bst nn == bTRIPPED || b.bst nn == bLOCKED) &&
    (match (b.brt nn).zeroAt with
     | some z => decide (z < t)
     | none => false)

/-- The first reason that refuses a toggle, in the order CLASS, DEVICE, HOT; 0 = none (R89). -/
def toggleReason (b : Blk) (nn origin : Nat) : Nat :=
  if b.bst nn = bLOCKED ∧ origin ≠ 1 ∧ origin ≠ 2 then 2
  else if b.dev ≠ .run then 3
  else if (b.brt nn).tc < b.twRearm nn * 6553600 then 0 else 1

/-- A toggle completed on a TRIPPED or LOCKED berth (R87 to R91). -/
def berthToggle (t : Nat) (b : Blk) (nn origin : Nat) : Blk :=
  let r := toggleReason b nn origin
  let b := b.setBrt nn { b.brt nn with zeroAt := none }
  if r ≠ 0 then b.setF BERTH_PSTAT.REJ_REASON nn r
  else
    let x := b.brt nn
    let b :=
      if b.bst nn = bTRIPPED then
        (b.bump BERTH_PSTAT.RETRY_CNT nn).setBrt nn
          { x with winLeft := some (x.winLeft.getD (b.f BERTH_PLIM.RETRY_WIN nn * 2000000)) }
      else
        { (b.setF BERTH_PSTAT.RETRY_CNT nn 0).setBrt nn { x with winLeft := none } with
          lockedMap := clrBit b.lockedMap nn }
    (b.acted t (.berth nn) 9 (b.bst nn)).setF BERTH_PSTAT.FT_LATCH nn 0 |>.setF BERTH_STATE.STATE nn bPENDING

/-- A value of 1 latched in ON (R37, R88); ignored while nothing may leave off (R231, R464). DESIGN CHOICE: an ON bit that already stands
at 0 when a berth is LOCKED at a start (R93) is no latched 0; a toggle needs a fresh one. -/
def berthOnRequest (t : Nat) (b : Blk) (nn origin : Nat) : Blk :=
  if b.barred (22 + nn) then b
  else
    let b := (b.setF BERTH_CTL.ON nn 1).setBrt nn { b.brt nn with origin := origin }
    if b.bst nn = bOFF then
      if b.found t (.berth nn) 9 bOFF = some bOFF then
        (b.acted t (.berth nn) 9 bOFF).setF BERTH_STATE.STATE nn bPENDING
      else b
    else if togglesAt t b nn then berthToggle t b nn origin
    else if b.bst nn = bTRIPPED ∨ b.bst nn = bLOCKED then b.setBrt nn { b.brt nn with zeroAt := none }
    else b

/-- A value of 0 latched in ON: an off request (R37), or the first half of a toggle (R88). -/
def berthOffRequest (t : Nat) (b : Blk) (nn origin : Nat) : Blk :=
  let b := (b.setF BERTH_CTL.ON nn 0).setBrt nn { b.brt nn with origin := origin }
  match b.found t (.berth nn) 4 (b.bst nn) with
  | none => b
  | some st =>
    if st = bTRIPPED ∨ st = bLOCKED then b.setBrt nn { b.brt nn with zeroAt := some ((b.brt nn).zeroAt.getD t) }
    else if st = bPENDING ∨ (st = bOFF ∧ b.bst nn = bPENDING) then berthTo (berthActed t b nn 4 st) nn bOFF .off
    else if st = bINRUSH ∨ st = bON ∨ st = bHELD then
      (berthTo (berthActed t b nn 4 st) nn bOFF .sink).setF BERTH_STATE.CAUSE nn 1
    else b

/-- The berth served next among those PENDING in tick `t`: lowest class, then lowest number; a berth in its cool-down
hold waits, and so does one that joins the queue in this tick (R41, R68, R460). -/
def nextPending (t : Nat) (b : Blk) : Option Nat :=
  (List.range 32).foldl (fun best nn =>
    if b.bst nn = bPENDING ∧ b.found t (.berth nn) 8 bPENDING = some bPENDING ∧ !(b.brt nn).holding then
      match best with
      | none => some nn
      | some m => if b.f BERTH_CFG.CLASS nn < b.f BERTH_CFG.CLASS m then some nn else best
    else best) none

/-- A token granted: the berth enters INRUSH with its profile from the VOUT of this tick to the VNET of this tick and its integrator at 0
(R42, R45 to R47); of zero length at or above VNET - DONE_MV. -/
def grantTo (t : Nat) (b : Blk) (nn tok : Nat) : Blk :=
  let b := b.acted t (.berth nn) 8 bPENDING
  let b := (b.setF BERTH_STATE.STATE nn bINRUSH).setF BERTH_STATE.TOKEN nn tok
  let v0 := b.rawNow (0x20 + nn) * 2
  let p := Prof.rest (toInt (v0 * 1000 * lsb))
  let done := decide (b.vnetRaw - b.f BERTH_INRUSH_T.DONE_MV nn ≤ v0)
  let b := taskFresh t (taskFresh t b 3 tok) 4 tok
  b.setBrt nn { b.brt nn with
    prof := if done then p else p.plan (b.berthLim nn) (toInt (b.vnetRaw * 1000 * lsb))
    integ := 0, power := 0, drop := 0, done := 0, inTicks := 0, holding := false, gate := .off }

/-- A token is not free in tick `t`: a berth holds it, or released it by an event of this tick, to be free in the next (R42). -/
def tokenHeld (t : Nat) (b : Blk) (tok : Nat) : Bool :=
  (b.tokenOwner tok).isSome || (List.range 32).any fun nn =>
    let e := Tab.get b.evts {} (Obj.berth nn).key
    e.tk == t + 1 && e.found == bINRUSH && (b.brt nn).tokWas == tok

/-- The arbitration of R41 to R43 and R69; none while nothing may leave off (R464). -/
def arbitrate (t : Nat) (b : Blk) : Blk :=
  if b.safeNow then b
  else forAll 6 b fun tok b =>
    let held := ((List.range 6).filter (tokenHeld t b)).length
    if tok < b.tokensInUse ∧ held < b.tokensInUse ∧ !tokenHeld t b tok then
      match nextPending t b with
      | some nn => grantTo t b nn tok
      | none => b
    else b

/-- Done qualified: full enhancement, token released, ON (R51, R52); without effect before the count of 16. -/
def inrushDone (t : Nat) (b : Blk) (nn : Nat) : Blk :=
  match b.found t (.berth nn) 6 (b.bst nn) with
  | some st => if st = bINRUSH ∧ 16 ≤ (b.brt nn).done then berthTo (berthActed t b nn 6 st) nn bON .full else b
  | none => b

/-- The inrush time beyond TMAX without done qualifying (R53). -/
def inrushTimeout (t : Nat) (b : Blk) (nn : Nat) : Blk :=
  match b.found t (.berth nn) 7 (b.bst nn) with
  | some st =>
    if st = bINRUSH ∧ (b.brt nn).done < 16 ∧ b.f BERTH_INRUSH_T.TMAX nn * 2000 < (b.brt nn).inTicks then berthTrip t b nn 7 st 5 22
    else b
  | none => b

/-- The cool-down hold has elapsed (R68). -/
def holdElapsed (b : Blk) (nn : Nat) : Blk :=
  if (b.brt nn).holding ∧ (b.brt nn).holdLeft = 0 then b.setBrt nn { b.brt nn with holding := false } else b

/-- A crossing of the fast-trip threshold by a shunt voltage in µV: pull-down, hold latch and FT_LATCH (R71 to R74); the
trip is recorded at the next edge. -/
def fastTrip (t : Nat) (b : Blk) (nn : Nat) (uv : Int) : Blk :=
  match b.found t (.berth nn) 1 (b.bst nn) with
  | none => b
  | some st =>
    let code := if st = bHELD then b.ftApplied BERTH_FT.FT_HELD nn else b.ftApplied BERTH_FT.FT_CODE nn
    let thr : Int := (code : Int) * 500
    if (st = bINRUSH ∨ st = bON ∨ st = bHELD) ∧ (thr < uv ∨ (b.on BERTH_FT.REV_EN nn ∧ uv < -thr)) then
      (b.setF BERTH_PSTAT.FT_LATCH nn 1).setBrt nn { b.brt nn with gate := .sink, tripped := true }
    else b

/-- The current sample of largest magnitude of the last 16, in steps of 100 mA (R75). -/
def tripCurrent (l : List Rat) : Int :=
  toInt (10 * l.foldl (fun m x => if (if m < 0 then -m else m) < (if x < 0 then -x else x) then x else m) 0)

/-- The record of a fast trip at the edge that latches it; TRIP_I follows at the next edge (R75). -/
def fastTripRecord (t : Nat) (b : Blk) (nn : Nat) : Blk :=
  let x := b.brt nn
  if !x.tripped then b
  else
    let b := b.setBrt nn { x with tripped := false, tripAt := some t }
    (berthTrip t b nn 1 (b.bst nn) 2 22).bump BERTH_FT_STAT.FT_COUNT nn

/-- TRIP_I of a fast trip latched in this tick, from the samples of the 16 ticks before it, all of which have arrived (R75). -/
def tripCurrentRecord (b : Blk) (nn : Nat) : Blk :=
  let x := b.brt nn
  match x.tripAt with
  | some n =>
    let l := (x.last16.filter fun s => decide (n ≤ s.1 + 16 ∧ s.1 < n)).map (·.2)
    (b.setBrt nn { x with tripAt := none }).setFi BERTH_FT_STAT.TRIP_I nn (tripCurrent l)
  | none => b

/-- The retry window has been open for RETRY_WIN seconds in tick `t` (R91). -/
def retryWindowClose (t : Nat) (b : Blk) (nn : Nat) : Blk :=
  if (b.brt nn).winLeft = some 0 then
    (b.setF BERTH_PSTAT.RETRY_CNT nn 0).setBrt nn
      { b.brt nn with winLeft := none, shutAt := t + 1, shutCnt := b.f BERTH_PSTAT.RETRY_CNT nn }
  else b

/-- VNET below the hold minimum of 7.0 V: every HELD berth goes OFF with cause SAFE and ON cleared (R95, R96). -/
def heldVnetLow (t : Nat) (b : Blk) : Blk :=
  if b.sig (.cal 0x70) * 2 < 7000 then
    forAll 32 b fun nn b =>
      match b.found t (.berth nn) 2 (b.bst nn) with
      | some st =>
        if st = bHELD then
          ((berthTo (berthActed t b nn 2 st) nn bOFF .off).setF BERTH_STATE.CAUSE nn 6).setF BERTH_CTL.ON nn 0
        else b
      | none => b
  else b

/-- The twin parameters that make a twin configured (R468). -/
def twinConfigured (b : Blk) (nn : Nat) : Bool :=
  b.f BERTH_TW_RTH.RCB nn != 0 && b.f BERTH_TW_RTH.RBA nn != 0 && b.f BERTH_TW_C.CC nn != 0 && b.f BERTH_TW_C.CB nn != 0

/-- A HELD berth at the entry to RUN (R95, R96); a twin that is not configured is below any trip (R468). -/
def heldExit (t : Nat) (b : Blk) (nn : Nat) : Blk :=
  if b.bst nn ≠ bHELD then b
  else if b.twTrip nn * 6553600 < (b.brt nn).tc ∧ twinConfigured b nn then berthTrip t b nn 5 bHELD 3 24
  else if b.on BERTH_CTL.ON nn ∧ b.vnetMv - b.voutMv nn ≤ b.f BERTH_INRUSH_T.DONE_MV nn ∧
      ((b.brt nn).tc < b.twTrip nn * 6553600 ∨ !twinConfigured b nn) then
    berthTo (b.acted t (.berth nn) 5 bHELD) nn bON .full
  else (berthTo (b.acted t (.berth nn) 5 bHELD) nn bOFF .sink).setF BERTH_STATE.CAUSE nn 6

/-! The work of a tick -/

/-- The gate loop of one berth in INRUSH (R47, R51, R55): the request in µA before the scaling of R36. DESIGN CHOICE: while the ME stands,
in a hold-up as before its start, any berth in INRUSH is driven open-loop with IGATE_MAX. `run` is false when its task was
aborted: its outputs keep their values (R24). A poisoned sample or state word computes nothing and raises ENGINE_POISON (R25, R327);
DESIGN CHOICE: the outputs then keep their values as after an abort. -/
def gateLoop (t : Nat) (run : Bool) (b : Blk) (nn : Nat) : Blk :=
  let tok := b.f BERTH_STATE.TOKEN nn
  let (word, b) := if b.meOn ∧ run then taskRead t b 3 tok else (false, b)
  let x := b.brt nn
  let mx := b.igateMax nn
  let margin : Rat := b.f BERTH_INRUSH_T.DONE_MV nn
  if !b.meOn then
    let vnet : Rat := b.sig (.cal 0x70) * 2
    let vout : Rat := b.sig (.cal (0x20 + nn)) * 2
    b.setBrt nn { x with gate := .slow mx, done := runN x.done (vnet - margin ≤ vout), inTicks := x.inTicks + 1 }
  else if !run then b.setBrt nn { x with inTicks := x.inTicks + 1 }
  else if word ∨ (b.sample 0x70).psn ∨ (b.sample (0x20 + nn)).psn then
    taskPoison t (b.setBrt nn { x with inTicks := x.inTicks + 1 }) 3 tok 4 .none
  else
    let vset : Rat := min ((x.prof.x : Rat) / (1000 * lsb)) b.vnetRaw
    let err := vset - b.voutRaw nn
    let integ := clampQ (-mx) mx (x.integ + (b.f BERTH_GLOOP.KI nn : Rat) / 65536 * err)
    let ig := clampQ (-mx) mx ((b.f BERTH_GLOOP.KP nn : Rat) / 256 * err + integ)
    let drive : Rat := 50 * (truncQ (ig / 50) : Int)
    let done := runN x.done (x.prof.complete && decide (b.vnetRaw - b.voutRaw nn ≤ margin))
    b.setBrt nn { x with
      integ := integ, gate := if drive = 0 then .off else .slow drive, done := done, inTicks := x.inTicks + 1
      prof := x.prof.advance (b.berthLim nn) }

/-- The charge pump limit: the sources of one tick scaled to 36 mA together (R36). -/
def pumpScale (b : Blk) : Blk :=
  let want : Rat := ((List.range 32).map fun nn =>
    match (b.brt nn).gate with
    | .slow ua => if b.bst nn = bINRUSH then max ua 0 else 0
    | _ => 0).sum
  if want ≤ 36000 then b
  else forAll 32 b fun nn b =>
    match (b.brt nn).gate with
    | .slow ua => if 0 < ua ∧ b.bst nn = bINRUSH then b.setBrt nn { b.brt nn with gate := .slow (ua * 36000 / want) } else b
    | _ => b

/-- The predicted junction temperature in m°C. -/
def junction (b : Blk) (nn : Nat) : Rat := (b.temp (b.f BERTH_CFG.SOA_REF nn) : Rat) + (b.brt nn).terms.sum

/-- The SOA registers of a berth shown from its terms. -/
def soaShow (b : Blk) (nn : Nat) : Blk :=
  let x := b.brt nn
  let b := forAll 3 b fun k b => b.setFi (BERTH_SOA_T.TERM k) nn (toInt (x.terms.getD k 0))
  let tj := toInt (junction b nn / 100)
  let b := b.setFi BERTH_SOA_TJ.TJ_PRED nn tj
  if b.fi BERTH_SOA_TJ.TJ_PEAK nn < tj then b.setFi BERTH_SOA_TJ.TJ_PEAK nn tj else b

/-- A sample from which the power of the previous tick is taken carried a poison mark (R25). -/
def powerPoisoned (t : Nat) (b : Blk) (nn : Nat) : Bool :=
  (b.brt nn).psn || ((b.sample nn).psn && (b.sample nn).tk == t + 1 && (b.sample nn).at_ + 1 == t)

/-- The SOA integrator of one berth in INRUSH, on the power of the previous tick, and its abort (R48). A poisoned sample or term computes
nothing and raises ENGINE_POISON (R25, R327). -/
def soaTick (t : Nat) (b : Blk) (nn : Nat) : Blk :=
  let tok := b.f BERTH_STATE.TOKEN nn
  let (word, b) := taskRead t b 4 tok
  if word ∨ powerPoisoned t b nn then taskPoison t b 4 tok 4 .none else
  let x := b.brt nn
  let terms := (List.range 3).map fun k =>
    let v := x.terms.getD k 0
    v + (b.f (BERTH_SOA_B.BETA k) nn : Rat) / 4294967296 * ((b.f (BERTH_SOA_R.RTH k) nn : Rat) * x.power - v)
  let b := soaShow (b.setBrt nn { x with terms := terms }) nn
  if (b.tjLim nn : Rat) * 100 < junction b nn then
    match b.found t (.berth nn) 3 (b.bst nn) with
    | some st => if st = bINRUSH then berthTrip t b nn 3 st 4 23 else b
    | none => b
  else b

/-- The decay factors of a berth: its registers, or what a Keeper restart found there (R49, R67). -/
def soaFactors (b : Blk) (nn : Nat) : List Nat :=
  (b.brt nn).rd.getD ((List.range 3).map fun k => b.f (BERTH_SOA_RD.ROUND_DECAY k) nn)

/-- The decay unit outside INRUSH, once per round (R49). -/
def soaDecay (b : Blk) : Blk :=
  forAll 32 b fun nn b =>
    if b.bst nn = bINRUSH then b
    else
      let x := b.brt nn
      let terms := (List.range 3).map fun k => x.terms.getD k 0 * ((soaFactors b nn).getD k 0 : Rat) / 4294967296
      soaShow (b.setBrt nn { x with terms := terms }) nn

/-- The ambient of a twin, m°C (R78). -/
def twinAmbient (b : Blk) (nn : Nat) : Int := b.temp (b.f BERTH_TW_AMB.AMB_SRC nn)

/-- The twin registers shown from its nodes. -/
def twinShow (b : Blk) (nn : Nat) : Blk :=
  let x := b.brt nn
  let s := b.f BERTH_TW_AMB.AMB_SRC nn
  let b := (b.setFi BERTH_TW_TC.TEMP nn (toInt ((x.tc : Rat) / 65536))).setFi BERTH_TW_TB.TEMP nn (toInt ((x.tb : Rat) / 65536))
  (b.setFi BERTH_TW_TA.TEMP nn (twinAmbient b nn)).setF BERTH_PSTAT.AMB_SUBST nn (b.f TS_STAT.BROKEN s)

/-- One update of a twin from the beat sum (R77, R468). -/
def twinStep (b : Blk) (nn : Nat) : Blk :=
  let x := b.brt nn
  let ta : Int := twinAmbient b nn
  if !twinConfigured b nn then b.setBrt nn { x with tc := ta * 65536, tb := ta * 65536 }
  else
    let deg (u : Int) : Rat := (u : Rat) / 65536000
    let tc := deg x.tc
    let tb := deg x.tb
    let r : Rat := (b.f BERTH_TW_R.R20 nn : Rat) / 1000000 * (1 + (b.f BERTH_TW_R.ALPHA nn : Rat) / 1000000 * (tc - 20))
    let e := r * (x.beat2 / 2000000)
    let qcb := (tc - tb) / ((b.f BERTH_TW_RTH.RCB nn : Rat) / 1000) * (8 / 1000000)
    let qba := (tb - (ta : Rat) / 1000) / ((b.f BERTH_TW_RTH.RBA nn : Rat) / 1000) * (8 / 1000000)
    let tc' := tc + (e - qcb) / ((b.f BERTH_TW_C.CC nn : Rat) / 10)
    let tb' := tb + (qcb - qba) / ((b.f BERTH_TW_C.CB nn : Rat) / 10)
    b.setBrt nn { x with tc := toInt (tc' * 65536000), tb := toInt (tb' * 65536000) }

/-- An update with its limits: WARN, TWIN_HOT and the twin trip (R80 to R82). DESIGN CHOICE: where the conductor is both at or above the
applied warning and below the applied re-arm temperature, WARN is set. A poisoned node computes nothing and raises ENGINE_POISON
(R327). -/
def twinTick (t : Nat) (b : Blk) (nn : Nat) : Blk :=
  let (word, b) := taskRead t b 5 (nn % 2)
  if word then taskPoison t b 5 (nn % 2) 4 .none else
  let b := twinShow (twinStep b nn) nn
  if !twinConfigured b nn then (b.setF BERTH_PSTAT.WARN nn 0).setF BERTH_PSTAT.TWIN_HOT nn 0
  else
    let tc := (b.brt nn).tc
    let b :=
      if b.twWarn nn * 6553600 ≤ tc then b.setF BERTH_PSTAT.WARN nn 1
      else if tc < b.twRearm nn * 6553600 then b.setF BERTH_PSTAT.WARN nn 0 else b
    if b.twTrip nn * 6553600 < tc then
      match b.found t (.berth nn) 5 (b.bst nn) with
      | some st =>
        if st = bINRUSH ∨ st = bON then berthTrip t b nn 5 st 3 24 else b.setF BERTH_PSTAT.TWIN_HOT nn 1
      | none => if b.bst nn = bINRUSH ∨ b.bst nn = bON then b else b.setF BERTH_PSTAT.TWIN_HOT nn 1
    else if tc < b.twTrip nn * 6553600 then b.setF BERTH_PSTAT.TWIN_HOT nn 0 else b

/-- The current sample of a berth delivered in tick `t` and sampled `d` ticks before: added to the beat of its sampling and to the
last samples, and the power of that tick taken with it (R44, R75, R76). -/
def currentTake (t d : Nat) (b : Blk) (nn : Nat) : Blk :=
  let s := b.sample nn
  let x := b.brt nn
  if b.fresh? t nn ∧ s.at_ + d = t then
    let i := b.berthAmps nn
    let past := decide (s.at_ / 16 < t / 16)
    b.setBrt nn { x with
      live2 := if past then x.live2 else x.live2 + i * i, beat2 := if past then x.beat2 + i * i else x.beat2
      last16 := (x.last16 ++ [(s.at_, i)]).drop (x.last16.length + 1 - 18)
      power := max 0 (x.drop * b.ampsRaw nn) }
  else b

/-- The registers of a slice at the end of a tick: VNET - VOUT of the tick, its current where it has arrived, the beat sum (R76), hold
and retry counters (R68, R91), a TRIP_I that is due. -/
def sliceTick (t : Nat) (b : Blk) (nn : Nat) : Blk :=
  let x := b.brt nn
  let drop : Rat := if b.meOn then (b.vnetRaw - b.voutRaw nn) / 1000 else 0
  let b := currentTake t 0 (b.setBrt nn { x with
    drop := drop, power := max 0 (drop * b.ampsRaw nn)
    psn := (b.sample 0x70).psn || (b.sample (0x20 + nn)).psn || ((b.sample nn).psn && (b.sample nn).at_ == t), vPrev := x.vNow, vNow := b.rawNow (0x20 + nn) * 2
    holdLeft := x.holdLeft - 1, winLeft := x.winLeft.map (· - 1) }) nn
  let x := b.brt nn
  tripCurrentRecord (if t % 16 = 15 then b.setBrt nn { x with live2 := 0, beat2 := x.live2 } else b) nn

/-- The berths' share of a tick after the samples: currents that arrive a tick after their sampling, gate loops, SOA terms on the power
of the tick before (R48), two twins (R77), the slices. `run` says of a token whether its gate loop's task ran (R24). -/
def berthsTick (t : Nat) (run : Nat → Bool) (b : Blk) : Blk :=
  let b := forAll 32 b fun nn b => currentTake t 1 b nn
  let b := forAll 32 b fun nn b =>
    let b := if b.bst nn = bINRUSH then gateLoop t (run (b.f BERTH_STATE.TOKEN nn)) b nn else b
    if b.bst nn = bINRUSH ∧ b.meOn then soaTick t b nn else b
  let b := pumpScale b
  let b := if b.meOn then forAll 2 b fun k b => twinTick t b (2 * (t % 16) + k) else b
  forAll 32 b fun nn b => sliceTick t b nn

/-- An EARLY berth still in INRUSH when the ME starts (R56). DESIGN CHOICE: the power that the SOA integrator uses in the first tick, the
integrator of the gate loop and its done count start at 0. -/
def meTakeover (b : Blk) : Blk :=
  forAll 32 { b with meOn := true } fun nn b =>
    if b.bst nn = bINRUSH then
      let x := b.brt nn
      let v : Int := toInt (x.vNow * 1000 * lsb)
      let p : Prof := { Prof.rest v with v := toInt ((x.vNow - x.vPrev) * 1000 * lsb) }
      let b := taskFresh 0 b 3 (b.f BERTH_STATE.TOKEN nn)
      b.setBrt nn { x with prof := p.plan (b.berthLim nn) (toInt (b.rawNow 0x70 * 2000 * lsb)), integ := 0, power := 0, drop := 0, done := 0 }
    else b

/-! Feeds -/

/-- The forward voltage of a feed below -REV_MV: gate off, FEED_REVERSE, REV_COUNT (R59). -/
def feedReverse (t : Nat) (b : Blk) (n : Nat) (uv : Int) : Blk :=
  if uv < -((b.f FEED_CFG.REV_MV n : Int) * 1000) ∧ !(b.fd n).blocked ∧ b.f FEED_STATUS.STATE n ≠ 3 then
    ((b.bump FEED_STATUS.REV_COUNT n).setF FEED_STATUS.STATE n 0).setFd n { blocked := true, rearm := 0 } |>.raise t 25 n
  else b

/-- The re-arm of a feed after 2 consecutive ticks above REARM_MV (R59). -/
def feedRearm (b : Blk) (n : Nat) : Blk :=
  if (b.fd n).blocked ∧ 2 ≤ (b.fd n).rearm then b.setFd n {} else b

/-- FORCE_OFF written (R61). -/
def feedForce (b : Blk) (n v : Nat) : Blk :=
  let b := b.setF FEED_CTL.FORCE_OFF n v
  if v % 2 = 1 then b.setF FEED_STATUS.STATE n 3
  else if b.f FEED_STATUS.STATE n = 3 then b.setF FEED_STATUS.STATE n 0 else b

/-- The feeds' share of a tick: the state shown (R58, R61) and the re-arm count (R59). -/
def feedsTick (b : Blk) : Blk :=
  forAll 2 b fun n b =>
    let fwd := b.sig (.feedFwd n)
    let x := b.fd n
    let b := b.setFd n { x with rearm := runN x.rearm (x.blocked && decide ((b.f FEED_CFG.REARM_MV n : Int) * 1000 < fwd)) }
    b.setF FEED_STATUS.STATE n
      (if b.on FEED_CTL.FORCE_OFF n then 3 else if x.blocked then 0
       else if (b.f FEED_CFG.FWD_MV n : Int) * 1000 < fwd then 2 else 1)

/-- The VNET window counts of a tick (R63); a tick without a sample of VNET ends both runs. -/
def vnetTick (t : Nat) (b : Blk) : Blk :=
  { b with
    vnetUv := b.vnetUv.tick (b.fresh? t 0x70 && decide (b.vnetMv < b.f FEED_VNET_WIN.UV_MV 0 * 100))
    vnetOv := b.vnetOv.tick (b.fresh? t 0x70 && decide (b.f FEED_VNET_WIN.OV_MV 0 * 100 < b.vnetMv)) }

/-- VNET_UV after QUAL ticks, once per run (R63). -/
def vnetUvRaise (t : Nat) (b : Blk) : Blk :=
  if atLeast1 (b.f FEED_VNET_WIN.QUAL 0) ≤ b.vnetUv.n ∧ !b.vnetUv.raised then
    { b with vnetUv := { b.vnetUv with raised := true } }.raise t 30 0xFFFF
  else b

/-- VNET_OV after QUAL ticks, once per run (R63). -/
def vnetOvRaise (t : Nat) (b : Blk) : Blk :=
  if atLeast1 (b.f FEED_VNET_WIN.QUAL 0) ≤ b.vnetOv.n ∧ !b.vnetOv.raised then
    { b with vnetOv := { b.vnetOv with raised := true } }.raise t 31 0xFFFF
  else b

end Sys2Proof.Machine
end

