-- ==== Sys2Proof/Machine/Frames.lean ====
section
/-! DEFINITION. Hawser frames as the device originates them (spec/16_host_links.md, R406 to R416), and what it drives on its
links in a tick. -/
namespace Sys2Proof.Machine

/-- Bytes driven on a link in this tick. -/
def Blk.emit (b : Blk) (link : Nat) (l : List Nat) : Blk := { b with out := b.out ++ [(link, l)] }

/-- The ring tick of a local tick (R30). -/
def ringTick (b : Blk) (t : Nat) : Int := (t : Int) + sx 64 (b.f64 RING_TICK_OFFSET_LO.OFFSET RING_TICK_OFFSET_HI.OFFSET 0)

/-- The node originates and accepts frames (R409). -/
def hwNode (b : Blk) : Bool := b.f HW_CFG.NODE_ID 0 != 0 && !b.on HW_STATUS.DUP_ID 0

/-- The bytes of a frame from TYPE to CRC (table Hawser frame). -/
def hwBytes (ty src dst fseq hops : Nat) (corr : Int) (pay : List Nat) : List Nat :=
  let body := [ty] ++ leBytes 2 src ++ leBytes 2 dst ++ leBytes 2 fseq ++ leBytes 2 hops ++ leInt 4 corr ++
    leBytes 2 pay.length ++ pay
  body ++ leBytes 4 (crc32 body)

/-- A frame transmitted on a ring side (0 A, 1 B); none on a side that is not fitted (R440). -/
def hwOut (b : Blk) (side : Nat) (l : List Nat) : Blk := if bit b.hw.unfit side then b else b.emit (3 + side) l

/-- A frame of this node put on the sides given. -/
def hwSendOn (b : Blk) (ty dst : Nat) (sides : Nat → Bool) (pay : List Nat) : Blk :=
  if hwNode b then
    let l := hwBytes ty (b.f HW_CFG.NODE_ID 0) dst (b.hw.sent % 65536) 0 0 pay
    let b : Blk := { b with hw := { b.hw with sent := b.hw.sent + 1 } }
    forAll 2 b fun s b => if sides s then hwOut b s l else b
  else b

/-- A frame of this node put on both sides, or on side A alone (table Frame types). -/
def hwSend (b : Blk) (ty dst : Nat) (both : Bool) (pay : List Nat) : Blk := hwSendOn b ty dst (fun s => both || s == 0) pay

/-- The FAULT frame of an ALL-OFF assertion in force from edge `te` (R413). -/
def faultFrame (b : Blk) (te cause : Nat) : Blk :=
  if b.on HW_CFG.BCAST_TX 0 then
    hwSend b 4 0 true ([b.f HW_CFG.ZONE_TX 0, Config.bcastSource cause % 256] ++ leInt 8 (ringTick b te))
  else b

/-- A TOKEN frame (R228, R415). -/
def tokenFrame (b : Blk) (id : Nat) (target : Int) : Blk := hwSend b 5 0 true (id :: leInt 8 target)

/-- A transfer of the device as controller of port 1 (TW0) or 2 (TW1): its bytes from the address on. -/
def twSend (b : Blk) (p : Nat) (l : List Nat) : Blk :=
  { b.emit p l with tw := { b.tw with own := Tab.put b.tw.own [] p l } }

/-- The same with its PEC byte (R392). -/
def twSendPec (b : Blk) (p : Nat) (l : List Nat) : Blk := twSend b p (l ++ [crc8 l])

end Sys2Proof.Machine
end

