-- ==== Sys2Proof/Machine/Iregs.lean ====
section
/-! DEFINITION. The integrated bucks and LDOs: spec/05_integrated_rails.md. -/
namespace Sys2Proof.Machine

/-! Buck and LDO states (IB_n_STATE, LDO_n_STATE; an LDO has no OPEN) -/
def iDISABLED : Nat := 0
def iSOFTSTART : Nat := 1
def iREGULATING : Nat := 2
def iOPEN : Nat := 3
def iFAULTED : Nat := 4

/-- A buck's state. -/
def Blk.ist (b : Blk) (n : Nat) : Nat := b.f IB_STATE.STATE n

/-- An LDO's state. -/
def Blk.dst (b : Blk) (n : Nat) : Nat := b.f LDO_STATE.STATE n

/-- The states in which a buck or an LDO is on (R136, R142). -/
def iRunning (st : Nat) : Bool := st == iSOFTSTART || st == iREGULATING || st == iOPEN

/-- An event of place `prio` on a buck, when the state it finds is one that `ok` admits (R139). -/
def buckEvt (t : Nat) (b : Blk) (n prio : Nat) (ok : Nat → Bool) (act : Nat → Blk → Blk) : Blk :=
  match b.found t (.buck n) prio (b.ist n) with
  | some st => if ok st then act st (b.acted t (.buck n) prio st) else b
  | none => b

/-- Both switches off; the counts of R136 stand until the next start, for an event of this tick that comes first in the order (R139).
DESIGN CHOICE: ICMD and ILIM_ACT of a buck that is off read 0. -/
def buckStop (b : Blk) (n st : Nat) : Blk :=
  let b := ((b.setF IB_STATE.STATE n st).setF IB_STATE.ILIM_ACT n 0).setF IB_ICMD.VALUE n 0
  b.setBk n { b.bk n with icmd := 0, skipped := false }

/-- A buck to FAULTED with its cause and source. -/
def buckFault (t : Nat) (b : Blk) (n prio cause src : Nat) (ok : Nat → Bool) : Blk :=
  buckEvt t b n prio ok fun _ b =>
    ((buckStop b n iFAULTED).setF IB_STATE.CAUSE n cause).raiseFor t src (8 + n) (.buck n)

/-- Device SAFE (cause 6) or ALL-OFF (cause 7): a FAULTED buck keeps its cause. -/
def buckForceOff (t : Nat) (b : Blk) (n cause : Nat) : Blk :=
  buckEvt t b n 1 (· != iDISABLED) fun st b =>
    let b := (buckStop b n iDISABLED).setF IB_CTL.EN n 0
    if st = iFAULTED then b else b.setF IB_STATE.CAUSE n cause

/-- EN = 1 latched: SOFTSTART with the ramp at the IBFB_n voltage and the integrator at 0 (R132, R135); nothing leaves
off in SAFE (R464) or under the ALL-OFF line (R231). -/
def buckEnable (t : Nat) (b : Blk) (n : Nat) : Blk :=
  if b.barred (8 + n) then b
  else
    buckEvt t (b.setF IB_CTL.EN n 1) n 7 (· == iDISABLED) fun _ b =>
      taskFresh t ((b.setF IB_STATE.STATE n iSOFTSTART).setBk n { b.bk n with
        ramp := toInt (b.ibfbRaw n), integ := 0, icmd := 0, skipped := true, inside := 0, ssTicks := 0, openTicks := 0, ov := 0, uv := 0, oc := 0 }) 1 n

/-- EN = 0 latched. -/
def buckDisable (t : Nat) (b : Blk) (n : Nat) : Blk :=
  buckEvt t (b.setF IB_CTL.EN n 0) n 7 (· != iDISABLED) fun st b =>
    let b := buckStop b n iDISABLED
    if st = iFAULTED then b else b.setF IB_STATE.CAUSE n 1

/-- The ramp at the applied VSET and IBFB_n inside the window for 16 consecutive ticks (R136). -/
def buckSoftstartComplete (t : Nat) (b : Blk) (n : Nat) : Blk :=
  if 16 ≤ (b.bk n).inside then buckEvt t b n 10 (· == iSOFTSTART) fun _ b => b.setF IB_STATE.STATE n iREGULATING else b

/-- SS_TMAX exceeded, counted from the edge of entry; a completion of the same tick wins (R15, R136). -/
def buckSsTimeout (t : Nat) (b : Blk) (n : Nat) : Blk :=
  if atLeast1 (b.f IB_RAMP.SS_TMAX n) * 2000 < (b.bk n).ssTicks ∧ (b.bk n).inside < 16 then
    buckFault t b n 5 3 17 (· == iSOFTSTART)
  else b

/-- RAIL_OV, RAIL_UV and RAIL_OC of a buck after their counts (R136). DESIGN CHOICE: an OC_QUAL of 0, outside its range, counts as 1, as
QUAL does. -/
def buckRailOv (t : Nat) (b : Blk) (n : Nat) : Blk :=
  if atLeast1 (b.f IB_WIN.QUAL n) ≤ (b.bk n).ov then buckFault t b n 3 2 18 iRunning else b
def buckRailUv (t : Nat) (b : Blk) (n : Nat) : Blk :=
  if atLeast1 (b.f IB_WIN.QUAL n) ≤ (b.bk n).uv then buckFault t b n 5 3 17 iRunning else b
def buckRailOc (t : Nat) (b : Blk) (n : Nat) : Blk :=
  if atLeast1 (b.f IB_ILIM.OC_QUAL n) ≤ (b.bk n).oc then buckFault t b n 4 4 19 iRunning else b

/-- 2,000 ticks in OPEN without a release: LOOP_OPEN_TIME in the tick after (R15, as R156). -/
def buckOpenTime (t : Nat) (b : Blk) (n : Nat) : Blk :=
  if 2000 < (b.bk n).openTicks then buckFault t b n 6 5 39 (· == iOPEN) else b

/-- IBVIN_n at `mv`: below 7.2 V the buck stops (R137). -/
def buckVinUv (t : Nat) (b : Blk) (n : Nat) (mv : Int) : Blk :=
  if mv < 7200 then buckFault t b n 2 8 40 iRunning else b

/-- The local switch temperature in m°C: above 170 °C the buck stops (R137). -/
def buckThermal (t : Nat) (b : Blk) (n : Nat) (mc : Int) : Blk :=
  if 170000 < mc then buckFault t b n 2 9 40 iRunning else b

/-- A ramp moved by one tick towards its target (R135, R141). -/
def rampStep (pos tgt : Int) (rate : Nat) : Int :=
  let r : Int := atLeast1 rate
  if pos < tgt then min (pos + r) tgt else max (pos - r) tgt

/-- The minimum peak current in mA (table Buck characteristics). -/
def buckMinPeak (n : Nat) : Rat := if n < 4 then 150 else 75

/-- The PI loop of a tick towards the reference `pos` (R132, R133), from the raw code of IBFB_n (R173): the spec states no conversion,
so its value in mV is the free `Blk.rawOf` (DESIGN CHOICE, log entry 145). DESIGN CHOICE: ILIM_ACT is judged here alone; in OPEN and in an
aborted tick it stays as the last computation left it, whatever is written to ILIM meanwhile. -/
def buckPi (b : Blk) (n : Nat) (pos : Int) : Blk :=
  let x := b.bk n
  let lim : Rat := b.ibIlim n
  let err : Rat := ((pos : Rat) - b.ibfbRaw n) / 1000
  let integ := clampQ 0 lim (x.integ + (b.f IB_PI.KI n : Rat) / 65536 * err)
  let icmd := clampQ 0 lim ((b.f IB_PI.KP n : Rat) / 256 * err + integ)
  let b := b.setBk n { x with integ := integ, icmd := icmd, skipped := decide (icmd < buckMinPeak n) }
  (b.setOn IB_STATE.ILIM_ACT n (icmd == lim)).setF IB_ICMD.VALUE n (toInt icmd).toNat

/-- A buck's share of a tick after the samples: the ramp, the counts of R136, the PI loop with its poison check, OPEN and its
release. `run` is false when its task was aborted: ramp, command and state stay (R24), while the counts go on against the held ramp. In
the first tick of SOFTSTART the ramp stands at its start, so that the error and the first command are 0 (R132, R135). DESIGN CHOICE: in
a tick whose sample is poisoned the counts of R136 compare the last unpoisoned sample once more; the state words of a buck that a
poison mark takes to OPEN are written anew as they are held. -/
def buckTick (t : Nat) (run : Bool) (b : Blk) (n : Nat) : Blk :=
  let b := b.setF IB_VOUT.VALUE n (ux 32 (b.ibfbUv n))
  let st := b.ist n
  if !iRunning st then b
  else
    let x := b.bk n
    let v := b.ibfbUv n
    let pos := if !run ∨ (st = iSOFTSTART ∧ x.ssTicks = 0) then x.ramp else rampStep x.ramp (b.ibVset n) (b.f IB_RAMP.SS_RATE n)
    let ov := decide (pos + b.f IB_WIN.OV_MV n * 1000 < v)
    let uv := decide (v < pos - b.f IB_WIN.UV_MV n * 1000)
    let (gain, b) := if run then engRead t b (128 + n) else (false, b)
    let (word, b) := if run then taskRead t b 1 n else (false, b)
    let psn := (b.sample (0x60 + n)).psn || gain || word
    let b := b.setBk n { b.bk n with
      ramp := pos, ov := runN x.ov ov, uv := runN x.uv uv
      inside := runN x.inside (!ov && !uv && decide (pos = b.ibVset n))
      ssTicks := if st = iSOFTSTART then x.ssTicks + 1 else x.ssTicks
      openTicks := if st = iOPEN then x.openTicks + 1 else 0 }
    let b :=
      if !run then b
      else if st = iOPEN then
        if psn then b else buckEvt t b n 9 (· == iOPEN) fun _ b => b.setF IB_STATE.STATE n iREGULATING
      else if psn then
        buckEvt t b n 8 (fun s => s == iSOFTSTART || s == iREGULATING) fun _ b =>
          taskPoison t (taskFresh t ((b.setF IB_STATE.STATE n iOPEN).setBk n { b.bk n with openTicks := 0 }) 1 n) 1 n (n / 2) (.buck n)
      else buckPi b n pos
    b.setBk n { b.bk n with oc := runN (b.bk n).oc (b.on IB_STATE.ILIM_ACT n) }

/-- A buck is power-good (R140). -/
def buckPg (b : Blk) (n : Nat) : Bool :=
  b.ist n == iREGULATING && (b.bk n).ov == 0 && (b.bk n).uv == 0 && (b.bk n).oc == 0

/-! LDOs -/

/-- An event of place `prio` on an LDO (R142: the priority of R139). -/
def ldoEvt (t : Nat) (b : Blk) (n prio : Nat) (ok : Nat → Bool) (act : Nat → Blk → Blk) : Blk :=
  match b.found t (.ldo n) prio (b.dst n) with
  | some st => if ok st then act st (b.acted t (.ldo n) prio st) else b
  | none => b

/-- An LDO off in a state. -/
def ldoStop (b : Blk) (n st : Nat) : Blk :=
  b.setF LDO_STATE.STATE n st

/-- An LDO to FAULTED with its cause and source (R142). -/
def ldoFault (t : Nat) (b : Blk) (n prio cause src : Nat) : Blk :=
  ldoEvt t b n prio iRunning fun _ b =>
    ((ldoStop b n iFAULTED).setF LDO_STATE.CAUSE n cause).raiseFor t src (16 + n) (.ldo n)

/-- Device SAFE (cause 6) or ALL-OFF (cause 7) on an LDO. -/
def ldoForceOff (t : Nat) (b : Blk) (n cause : Nat) : Blk :=
  ldoEvt t b n 1 (· != iDISABLED) fun st b =>
    let b := (ldoStop b n iDISABLED).setF LDO_CTL.EN n 0
    if st = iFAULTED then b else b.setF LDO_STATE.CAUSE n cause

/-- EN = 1 latched: the reference ramps from the output voltage of the tick before (R141). -/
def ldoEnable (t : Nat) (b : Blk) (n : Nat) : Blk :=
  if b.barred (16 + n) then b
  else
    ldoEvt t (b.setF LDO_CTL.EN n 1) n 7 (· == iDISABLED) fun _ b =>
      (b.setF LDO_STATE.STATE n iSOFTSTART).setLd n
        { b.ld n with ramp := b.ldoUv n, inside := 0, ov := 0, uv := 0, oc := 0 }

/-- EN = 0 latched. -/
def ldoDisable (t : Nat) (b : Blk) (n : Nat) : Blk :=
  ldoEvt t (b.setF LDO_CTL.EN n 0) n 7 (· != iDISABLED) fun st b =>
    let b := ldoStop b n iDISABLED
    if st = iFAULTED then b else b.setF LDO_STATE.CAUSE n 1

/-- CODE written: when the applied code changes, the ramp starts anew from the output voltage (R141). -/
def ldoCodeWrite (b : Blk) (n v : Nat) : Blk :=
  let old := b.ldoCode n
  let b := b.setF LDO_CTL.CODE n v
  if b.ldoCode n ≠ old ∧ iRunning (b.dst n) then b.setLd n { b.ld n with ramp := (b.ld n).vPrev } else b

/-- 16 consecutive ticks inside the window with the ramp at its target (R142). -/
def ldoSoftstartComplete (t : Nat) (b : Blk) (n : Nat) : Blk :=
  if 16 ≤ (b.ld n).inside then ldoEvt t b n 10 (· == iSOFTSTART) fun _ b => b.setF LDO_STATE.STATE n iREGULATING else b

/-- RAIL_UV and RAIL_OV after 4 ticks, RAIL_OC after 64, the thermal stop (R142, R137). -/
def ldoRailUv (t : Nat) (b : Blk) (n : Nat) : Blk := if 4 ≤ (b.ld n).uv then ldoFault t b n 5 3 17 else b
def ldoRailOv (t : Nat) (b : Blk) (n : Nat) : Blk := if 4 ≤ (b.ld n).ov then ldoFault t b n 3 2 18 else b
def ldoRailOc (t : Nat) (b : Blk) (n : Nat) : Blk := if 64 ≤ (b.ld n).oc then ldoFault t b n 4 4 19 else b
def ldoThermal (t : Nat) (b : Blk) (n : Nat) (mc : Int) : Blk := if 170000 < mc then ldoFault t b n 2 9 40 else b

/-- An LDO's share of a tick: its ramp, its window at 90 % and 110 % of the ramp, its current limit (R141, R142). -/
def ldoTick (b : Blk) (n : Nat) : Blk :=
  let v := b.ldoUv n
  let x := b.ld n
  if !iRunning (b.dst n) then b.setLd n { x with vPrev := v }
  else
    let pos := rampStep x.ramp (b.ldoVset n) (b.f LDO_CFG.SS_RATE n)
    let uv := decide (v * 10 < pos * 9)
    let ov := decide (pos * 11 < v * 10)
    b.setLd n { x with
      uv := runN x.uv uv, ov := runN x.ov ov, oc := runN x.oc (b.sig (.ldoLimit n) != 0)
      inside := runN x.inside (!uv && !ov && decide (pos = b.ldoVset n))
      ramp := pos, vPrev := v }

/-- IREG_PG of a tick edge (R140, R142). -/
def iregPgShow (b : Blk) : Blk :=
  let b := b.setF IREG_PG.IB_PG 0 (maskOf ((List.range 8).filter fun n => buckPg b n))
  b.setF IREG_PG.LDO_PG 0 (maskOf ((List.range 6).filter fun n => b.dst n == iREGULATING))

end Sys2Proof.Machine
end

