-- ==== Sys2Proof/Machine/Adc.lean ====
section
/-! DEFINITION. Converters, slot tables, check channel, shadow, calibration, accumulators, trackers and the legacy data
register: spec/07_measurement.md. -/
namespace Sys2Proof.Machine

/-- A result of channel `c` on converter `k` before its GAIN and OFFSET. -/
def chanVal (b : Blk) (k c : Nat) : Int := b.chan c + b.sig (.dev k c)

/-- A result `v` with the GAIN and OFFSET of converter `k` in force now, saturated at 16 bits (R173, R186). -/
def calibrate (b : Blk) (k c : Nat) (v : Int) : Int :=
  let g := b.f ADC_CAL.GAIN k
  let o := b.fi ADC_CAL.OFFSET k
  clampI (-32768) 32767 (if g = 0x8000 ∧ o = 0 then v else Config.corrected g o c v)

/-- The raw code of channel `c` on converter `k` (R172). -/
def chanRaw (b : Blk) (k c : Nat) : Nat := (clampI 0 16383 (b.chanCode c + b.sig (.rawDev k c))).toNat

/-- The result converter `k` makes of channel `c`: value before its calibration, raw code, poison by a failed parity (R172). -/
def conversion (b : Blk) (k c : Nat) : Int × Nat × Bool := (chanVal b k c, chanRaw b k c, b.sig (.parity k c) != 0)

/-- The converter that runs the slot table of A (0) or B (1): S once it has taken its place (R183). -/
def tableConv (b : Blk) (k : Nat) : Nat := if b.f ADC_STATUS.SUBST 0 = k + 1 then 2 else k

/-- S shadows table `k` (R182). -/
def shadows (b : Blk) (k : Nat) : Bool := b.f ADC_STATUS.SHADOW 0 == k + 1

/-- The channel slot `i` of table `k` converts in tick `t`, and whether it is the housekeeping entry (R175, R179). -/
def slotChannel (t : Nat) (b : Blk) (k i : Nat) : Option (Nat × Bool) :=
  let g (A B : Fld) : Nat := if k = 0 then b.f A i else b.f B i
  let ch := g ADC_SLOT_A.CH ADC_SLOT_B.CH
  let ch2 := g ADC_SLOT_A.CH2 ADC_SLOT_B.CH2
  let some? (c : Nat) : Option (Nat × Bool) := if c = 0x3FF then none else some (c, false)
  match g ADC_SLOT_A.MODE ADC_SLOT_B.MODE with
  | 0 => some? ch
  | 1 => some? (if t % 2 = 0 then ch else ch2)
  | 2 => some? (ch + t % 16)
  | 3 => (b.tokenOwner ch).map fun nn => (0x20 + nn, false)
  | 4 => if b.adc.hkCh = 0x3FF then none else some (b.adc.hkCh, true)
  | 5 => some? (ch + t % 4)
  | _ => none

/-- A difference beyond a tolerance. -/
def beyond (tol : Nat) (x y : Int) : Bool := decide (tol < (x - y).natAbs)

/-- The channel and tick of the last dispute or check difference. -/
def dispRecord (t : Nat) (b : Blk) (ch : Nat) : Blk :=
  (b.setF ADC_STATUS.DISP_CH 0 ch).set64 ADC_DISP_TICK_LO.TICK ADC_DISP_TICK_HI.TICK 0 t

/-! Accumulators and trackers -/

/-- A sample added to an accumulator (R188, R190). -/
def Acc1.take (a : Acc1) (v : Int) (psn : Bool) : Acc1 :=
  if psn then { a with psn := satInc 65535 a.psn }
  else
    let s := a.sum + v
    let q := a.sq + sqI v
    let n := a.cnt + 1
    let lim : Int := 9223372036854775807
    { a with
      sum := clampI (-lim) lim s, sq := min q 18446744073709551615, cnt := min n 4294967295
      sat := a.sat || decide (lim < s) || decide (s < -lim) || decide (18446744073709551615 < q) ||
        decide (4294967295 < n) }

/-- A sample taken by a tracker in its tick of delivery (R191). -/
def Trk1.take (x : Trk1) (t : Nat) (v : Int) : Trk1 :=
  { min := match x.min with
      | some (m, k) => if v < m then some (v, t) else some (m, k)
      | none => some (v, t)
    max := match x.max with
      | some (m, k) => if m < v then some (v, t) else some (m, k)
      | none => some (v, t) }

/-- The latch of accumulator `a`, requested in tick `t` and in force from edge `t + 1` (R189). -/
def accLatch (t : Nat) (b : Blk) (a : Nat) : Blk :=
  if !b.on ACC_CFG.EN a then b
  else
    let x := Tab.get b.acc {} a
    let s := ux 64 x.sum
    let b := ((b.setF ACC_CNT.VALUE a x.cnt).set64 ACC_SUM_LO.VALUE ACC_SUM_HI.VALUE a s)
    let b := b.set64 ACC_SUMSQ_LO.VALUE ACC_SUMSQ_HI.VALUE a x.sq
    let b := ((b.setF ACC_STAT.PSN_CNT a x.psn).setOn ACC_STAT.SAT a x.sat).incr ACC_STAT.SEQ a
    { b with acc := Tab.put b.acc {} a { ch := some (b.f ACC_CFG.CH a) }, accAt := Tab.put b.accAt 0 a (t + 1) }

/-- The latch of tracker `i` (R191). -/
def trkLatch (b : Blk) (i : Nat) : Blk :=
  if !b.on ACC_TRK_CFG.EN i then b
  else
    let x := Tab.get b.trk {} i
    let mn := x.min.getD (32767, 0)
    let mx := x.max.getD (-32768, 0)
    let b := (b.setFi ACC_TRK_MINMAX.MIN i mn.1).setFi ACC_TRK_MINMAX.MAX i mx.1
    let b := (b.setF ACC_TRK_TMIN.TICK i mn.2).setF ACC_TRK_TMAX.TICK i mx.2
    { b with trk := Tab.del b.trk i }

/-- A latch register written: each bit set requests a latch (R189, R191). -/
def accLatchMask (t : Nat) (b : Blk) (k m : Nat) : Blk :=
  (bitsSet 32 m).foldl (fun b j => accLatch t b (32 * k + j)) b
def trkLatchMask (b : Blk) (k m : Nat) : Blk := (bitsSet 32 m).foldl (fun b j => trkLatch b (32 * k + j)) b

/-- The latches of the first edge of every WIN-th round (R189, R191). -/
def accAutoLatch (t : Nat) (b : Blk) : Blk :=
  let due (w : Nat) : Bool := w != 0 && t / 2048 % w == 0
  let b := forAll 128 b fun a b => if due (b.f ACC_CFG.WIN a) then accLatch t b a else b
  forAll 128 b fun i b => if due (b.f ACC_TRK_CFG.WIN i) then trkLatch b i else b

/-- A calibrated sample given to the accumulators and trackers of its channel (R188, R191). DESIGN CHOICE: a CH written before the first
sample or latch acts at once; the live sums and the channel they hold outlast a Keeper restart. -/
def accTake (t : Nat) (accs trks : List Nat) (b : Blk) (d : Dlv) : Blk :=
  let b := accs.foldl (fun b a =>
    let x := Tab.get b.acc {} a
    let c := x.ch.getD (b.f ACC_CFG.CH a)
    if c = d.ch then { b with acc := Tab.put b.acc {} a { (x.take d.cal d.psn) with ch := some c } } else b) b
  if d.psn then b
  else trks.foldl (fun b i =>
    if b.f ACC_TRK_CFG.CH i = d.ch then
      { b with trk := Tab.put b.trk {} i ((Tab.get b.trk {} i).take t d.cal) }
    else b) b

/-! The legacy data register -/

/-- A sample of CH copied when it is the first of its period (R193, R194); `ts` is its tick of sampling. -/
def legacyTake (ts : Nat) (b : Blk) (d : Dlv) : Blk :=
  if b.on LEGACY_ADC_CTL.EN 0 ∧ d.ch = b.f LEGACY_ADC_CTL.CH 0 ∧ !b.adc.copied ∧ !d.psn then
    let b := (b.setF LEGACY_ADC_DATA.CODE 0 d.raw).setF LEGACY_ADC_DATA.TICK16 0 ts
    { b with adc := { b.adc with copied := true, legOvr := b.adc.legOvr ||| b.adc.legNew, legNew := 15 } }
  else b

/-- The start of a legacy period: NOCONV when no slot converted CH in the one that ended (R193). -/
def legacyPeriod (t : Nat) (b : Blk) : Blk :=
  if b.on LEGACY_ADC_CTL.EN 0 ∧ t % 4 ^ b.f LEGACY_ADC_CTL.RATE 0 = 0 then
    { b.setOn LEGACY_ADC_CTL.NOCONV 0 (!b.adc.conv) with adc := { b.adc with copied := false, conv := false } }
  else b

/-- A conversion of channel `c` counted for NOCONV (R193). -/
def legacyConv (b : Blk) (c : Nat) : Blk :=
  if c = b.f LEGACY_ADC_CTL.CH 0 then { b with adc := { b.adc with conv := true } } else b

/-- EN or CH rewritten: the running period has no copy yet, and it is no whole period (R193). -/
def legacyRestart (b : Blk) : Blk := { b with adc := { b.adc with copied := false, conv := true } }

/-- The bits of the ports that read the register clear at the next edge (R194). -/
def legacyClear (b : Blk) : Blk :=
  let keep (m : Nat) : Nat := maskOf ((bitsSet 4 m).filter fun p => !bit b.adc.legClear p)
  { b with adc := { b.adc with legNew := keep b.adc.legNew, legOvr := keep b.adc.legOvr, legClear := 0 } }

/-- A read of LEGACY_ADC_DATA from port `p`: the value, and its NEW and OVR due to clear (R194). -/
def legacyValue (b : Blk) (p : Nat) : Nat :=
  b.f LEGACY_ADC_DATA.TICK16 0 * 65536 + b2n (bit b.adc.legOvr p) * 32768 + b2n (bit b.adc.legNew p) * 16384 +
    b.f LEGACY_ADC_DATA.CODE 0
def legacyRead (b : Blk) (p : Nat) : Blk := { b with adc := { b.adc with legClear := setBit b.adc.legClear p } }

/-! Conversion and delivery -/

/-- The last sample of a channel after a result sampled in tick `ts` and delivered in tick `t`; a poisoned one leaves the value in
place. -/
def Smp.take (old : Smp) (t ts : Nat) (d : Dlv) : Smp :=
  if d.psn then { old with psn := true, at_ := ts, tk := t + 1 }
  else { cal := d.cal, raw := d.raw, conv := d.conv, psn := false, at_ := ts, tk := t + 1 }

/-- A result delivered: to accumulators, trackers and the legacy register (R188, R191, R193), and from a claimed entry to every other
consumer and the housekeeping sum (R178, R179). `ts` is the tick of sampling. -/
def deliver (t ts : Nat) (accs trks : List Nat) (b : Blk) (d : Dlv) : Blk :=
  let b := { b with
    smp := if d.use then Tab.put b.smp {} d.ch ((b.sample d.ch).take t ts d) else b.smp
    adc := { b.adc with lastDlv := Tab.put b.adc.lastDlv (0, 0) (d.k * 64 + d.slot) (d.cal, d.raw) } }
  let b := legacyTake ts (accTake t accs trks b d) d
  if d.hk ∧ d.use ∧ !d.psn then
    { b with adc := { b.adc with hkSum := b.adc.hkSum + d.cal, hkCnt := b.adc.hkCnt + 1 } }
  else b

/-- A dispute opened by a shadow difference (R183). -/
def disputeOpen (t : Nat) (b : Blk) (ch : Nat) : Blk :=
  let b := dispRecord t (b.setF ADC_STATUS.DISPUTE 0 1) ch
  { b with adc := { b.adc with arbWait := some ch } }

/-- The result of slot `i` of table `k` for a channel, with S's result for the same slot while S shadows the table (R182). -/
def convertSlot (b : Blk) (k i ch : Nat) (use hk : Bool) : Dlv :=
  let c := tableConv b k
  let (v, raw, psn) := conversion b c ch
  ⟨k, i, ch, v, raw, psn, c, use, hk, if shadows b k then some (conversion b 2 ch) else none⟩

/-- A result as it is delivered: calibrated with what is in force then (R186). -/
def Dlv.calibrated (b : Blk) (d : Dlv) : Dlv :=
  { d with cal := calibrate b d.conv d.ch d.cal, shadow := d.shadow.map fun s => (calibrate b 2 d.ch s.1, s.2) }

/-- A result with the median of three values in its place: its own, S's for the slot and the one last delivered for the slot
(R183); poisoned when its own or S's is. -/
def disputeMedian (b : Blk) (d : Dlv) : Dlv :=
  match d.shadow with
  | some (v, r, p) =>
    let (lc, lr) := Tab.get b.adc.lastDlv (0, 0) (d.k * 64 + d.slot)
    { d with cal := med3 d.cal v lc, raw := (med3 d.raw r lr).toNat, psn := d.psn || p }
  | none => d

/-- A result that departs from S's by more than SHD_TOL (R183). -/
def shadowDiffers (b : Blk) (d : Dlv) : Bool :=
  match d.shadow with
  | some (v, _, p) => !d.psn && !p && beyond (b.f ADC_CFG.SHD_TOL 0) d.cal v
  | none => false

/-- A result that arrives in tick `t`: compared with S's, delivered as it is or, from the edge after a dispute was opened, as the
median (R182, R183). -/
def arrive (t ts : Nat) (median : Bool) (accs trks : List Nat) (b : Blk) (d : Dlv) : Blk :=
  let b := if shadowDiffers b d ∧ !b.on ADC_STATUS.DISPUTE 0 then disputeOpen t b d.ch else b
  deliver t ts accs trks b (if median then disputeMedian b d else d)

/-- The CLAIM bit of an entry. -/
def slotClaimed (b : Blk) (k i : Nat) : Bool := if k = 0 then b.on ADC_SLOT_A.CLAIM i else b.on ADC_SLOT_B.CLAIM i

/-- The conversions of one tick in the order of the slots; those of slots 40 to 47 arrive in the next tick (R12, R175). -/
def slotsTick (t : Nat) (median : Bool) (accs trks : List Nat) (b : Blk) : Blk :=
  forAll 96 b fun j b =>
    let i := j / 2
    let k := j % 2
    match slotChannel t b k i with
    | none => b
    | some (ch, hk) =>
      let b := legacyConv b ch
      let d := convertSlot b k i ch (slotClaimed b k i) hk
      if i < 40 then arrive t t median accs trks b (d.calibrated b) else { b with adc := { b.adc with late := b.adc.late ++ [d] } }

/-- The results of slots 40 to 47 of the tick before. -/
def lateTick (t : Nat) (median : Bool) (accs trks : List Nat) (b : Blk) : Blk :=
  b.adc.late.foldl (fun b d => arrive t (t - 1) median accs trks b (d.calibrated b)) { b with adc := { b.adc with late := [] } }

/-- Slot 48 of the next tick in which it may converts a channel again. -/
def chkAgain (b : Blk) (ch : Nat) : Blk := { b with adc := { b.adc with chkRepeat := some ch } }

/-- What the results of slot 48 mean: `z` is S's value and its poison, where S converted with A and B (R181, R183, R185). A poisoned
repeat or arbitration is converted again. DESIGN CHOICE: a confirmed difference without a third value of S raises ADC_PLAUS and decides
nothing. -/
def checkJudge (t : Nat) (b : Blk) (q : Slot48) (z : Option (Int × Bool)) : Blk :=
  let x := q.x.cal
  let y := q.y.cal
  let bad := q.x.psn || q.y.psn
  let diff := beyond (b.f ADC_CFG.CHK_TOL 0) x y
  let due (kind : Nat) (v : Int) : Blk := { b with adc := { b.adc with dec := b.adc.dec ++ [(kind, x, y, v)] } }
  match q.kind, z with
  | 0, _ => if !bad && diff then chkAgain (dispRecord t b q.x.ch) q.x.ch else b
  | 1, z =>
    if bad || (z.map (·.2)).getD false then chkAgain b q.x.ch
    else if !diff then b.bump ADC_COUNTS.CHK_TRANSIENT 0
    else
      let b := match z with
        | some v => due 1 v.1
        | none => b
      let b := (dispRecord t b q.x.ch).raise t 11 0xFFFF
      if b.f ADC_STATUS.SUBST 0 ≠ 0 then b.raise t 12 0xFFFF else b
  | _, some (v, p) => if bad || p then { b with adc := { b.adc with arbWait := some q.x.ch } } else due 0 v
  | _, none => b

/-- The results of slot 48 of the tick before: delivered to accumulators, trackers and the legacy register, and judged (R180, R188). -/
def checkArrive (t : Nat) (median : Bool) (accs trks : List Nat) (b : Blk) : Blk :=
  match b.adc.s48 with
  | none => b
  | some q =>
    let b := { b with adc := { b.adc with s48 := none } }
    let q : Slot48 := { q with x := q.x.calibrated b, y := q.y.calibrated b }
    let b := arrive t (t - 1) median accs trks (arrive t (t - 1) median accs trks b q.x) q.y
    checkJudge t b q ((q.x.shadow <|> q.y.shadow).map fun s => (s.1, s.2.2))

/-- What slot 48 converts in tick `t`, of what was due before it: a check repeat, which holds the list back by one, else an
arbitration, else the check list (R180, R181, R184). -/
def checkConvert (t : Nat) (rep arb : Option Nat) (b : Blk) : Blk :=
  let entry := b.f ADC_CHK.CH ((t - b.adc.chkOff) % (b.f ADC_CFG.CHK_LEN 0 + 1))
  let (ch, kind) := match rep, arb with
    | some c, _ => (c, 1)
    | none, some c => (c, 2)
    | none, none => (entry, 0)
  if ch = 0x3FF then b
  else
    let b := legacyConv b ch
    let q : Slot48 := ⟨kind, convertSlot b 0 48 ch false false, convertSlot b 1 48 ch false false⟩
    { b with adc := { b.adc with
      s48 := some q
      chkOff := if kind = 1 then b.adc.chkOff + 1 else b.adc.chkOff
      arbWait := if kind = 2 then none else b.adc.arbWait } }

/-- The converter S shadows in tick `t`: A in even rounds, B in odd ones (R182). -/
def shadowOf (t : Nat) : Nat := t / 2048 % 2 + 1

/-- S in the place of table `k`, with no shadowing and no dispute left; without a spare SPARE_EXHAUSTED (R183, R185). -/
def convReplace (t : Nat) (b : Blk) (k : Nat) : Blk :=
  match takeSpare t b 4 k with
  | some b =>
    let b := ((b.setF ADC_STATUS.SUBST 0 (k + 1)).setF ADC_STATUS.SHADOW 0 0).setF ADC_STATUS.DISPUTE 0 0
    { b with adc := { b.adc with arbWait := none } }
  | none => b.raise t 12 0xFFFF

/-- A dispute decided without a substitution: shadowing resumes with the converter of the running round (R183, R184). -/
def disputeEnd (t : Nat) (b : Blk) : Blk :=
  let b := b.setF ADC_STATUS.DISPUTE 0 0
  if b.f ADC_STATUS.SHADOW 0 ≠ 0 then b.setF ADC_STATUS.SHADOW 0 (shadowOf t) else b

/-- The majority decision on the results of A, B and S (R183): of an arbitration (`kind` 0), which ends the dispute, or of a check repeat
(R181), which leaves an open dispute to its own arbitration (R184). DESIGN CHOICE: two of the three pairs in agreement and the third not
counts as transient. -/
def majority (t : Nat) (b : Blk) (d : Nat × Int × Int × Int) : Blk :=
  let (kind, x, y, z) := d
  if b.f ADC_STATUS.SUBST 0 ≠ 0 then b
  else
    let tol := if kind = 0 then b.f ADC_CFG.SHD_TOL 0 else b.f ADC_CFG.CHK_TOL 0
    let ab := !beyond tol x y
    let az := !beyond tol x z
    let bz := !beyond tol y z
    let b := if kind = 0 then disputeEnd t b else b
    if ab ∧ az ∧ bz then b.bump ADC_COUNTS.SHD_TRANSIENT 0
    else if az ∧ !bz ∧ !ab then convReplace t b 1
    else if bz ∧ !az ∧ !ab then convReplace t b 0
    else if ab ∧ !az ∧ !bz then b.raise t 12 0xFFFF
    else if ab ∨ az ∨ bz then b.bump ADC_COUNTS.SHD_TRANSIENT 0
    else if kind = 0 then b.raise t 11 0xFFFF else b

/-- The decisions that are due. -/
def disputeDecide (t : Nat) (b : Blk) : Blk := b.adc.dec.foldl (majority t) { b with adc := { b.adc with dec := [] } }

/-- S switches between shadowing A and B at a round edge, from the first round after READY (R182, R184). -/
def adcShadowRotate (t : Nat) (b : Blk) : Blk :=
  let b := if b.eng.started ∧ b.sparesLeft 4 ≠ 0 then { b with adc := { b.adc with shadowing := true } } else b
  if b.adc.shadowing ∧ b.f ADC_STATUS.SUBST 0 = 0 ∧ !b.on ADC_STATUS.DISPUTE 0 then
    b.setF ADC_STATUS.SHADOW 0 (shadowOf t)
  else b

/-- The low-power table of converter A (R174): samples for Keeper alone. -/
def lowPowerTick (t : Nat) (b : Blk) : Blk :=
  [0x70, 0x71, 0x76, 0x77, 0x80 + t % 12, 0x78].foldl (fun b ch =>
    let b := legacyConv b ch
    let (v, raw, psn) := conversion b 0 ch
    let s := (Tab.get b.adc.lp {} ch).take t t ⟨0, 0, ch, calibrate b 0 ch v, raw, psn, 0, true, false, none⟩
    { b with adc := { b.adc with lp := Tab.put b.adc.lp {} ch s } }) b

/-- The calibration slot of a tick on each converter in service (R186); a result whose parity fails is in no mean (R172). -/
def calConvert (t : Nat) (b : Blk) : Blk :=
  let j := t % 4
  forAll 3 b fun k b =>
    if b.f ADC_STATUS.SUBST 0 = k + 1 ∨ b.sig (.parity k (0x3F0 + j)) ≠ 0 then b
    else
      let key := 4 * k + j
      { b with adc := { b.adc with
        calSum := Tab.put b.adc.calSum 0 key (Tab.get b.adc.calSum 0 key + b.sig (.ref k j))
        calCnt := Tab.put b.adc.calCnt 0 key (Tab.get b.adc.calCnt 0 key + 1) } }

/-- OFFSET and GAIN from the means of the previous round (R186). -/
def calUpdate (b : Blk) : Blk :=
  forAll 3 b fun k b =>
    let (s0, n0) := Tab.get b.adc.calLast (0, 0) (4 * k)
    let (s1, n1) := Tab.get b.adc.calLast (0, 0) (4 * k + 1)
    if n0 = 0 ∨ n1 = 0 then b
    else
      let m0 : Rat := (s0 : Rat) / n0
      let m1 : Rat := (s1 : Rat) / n1
      (b.setFi ADC_CAL.OFFSET k (Config.calOffset m0 m1)).setF ADC_CAL.GAIN k (Config.calGain m0 m1)

/-- The first edge of a round: the sums of slot 49 closed with the roles of the bandgaps in that round, OFFSET and GAIN in force for what
is delivered from this edge on, the shadow turned (R182, R186). -/
def roundEdge (t : Nat) (b : Blk) : Blk :=
  if t % 2048 ≠ 0 then b
  else
    let a := b.adc
    let cal : Tab (Int × Nat) := (List.range 12).foldl (fun l k =>
      Tab.put l (0, 0) k (Tab.get a.calSum 0 k, Tab.get a.calCnt 0 k)) []
    let role := (b.f ADC_STATUS.REF_ACT 0, b.f ADC_STATUS.REF_IDLE 0)
    adcShadowRotate t (calUpdate { b with adc := { a with calLast := cal, calSum := [], calCnt := [], calRole := role } })

/-- The housekeeping sum of a round closed at its last sample and that of the next begun (R179). -/
def roundSums (t : Nat) (b : Blk) : Blk :=
  if t % 2048 ≠ 0 then b
  else
    let a := b.adc
    { b with adc := { a with
      hkLast := if a.lpRound ∨ a.hkCh = 0x3FF then none else some (a.hkCh, a.hkSum, a.hkCnt)
      hkCh := b.f ADC_HK.CH (t / 2048 % 256), hkSum := 0, hkCnt := 0, lpRound := b.on ADC_STATUS.LP 0 } }

/-- The converters' share of a tick. What slot 48 converts was due before this tick, since a comparison in a tick comes after its
sampling (R12). -/
def adcTick (t : Nat) (b : Blk) : Blk :=
  let accs := (List.range 128).filter fun a => b.on ACC_CFG.EN a
  let trks := (List.range 128).filter fun i => b.on ACC_TRK_CFG.EN i
  let b := roundEdge t (legacyPeriod t (legacyClear b))
  if b.on ADC_STATUS.LP 0 then
    let b := roundSums t { b with adc := { b.adc with late := [], s48 := none } }
    lowPowerTick t { b with adc := { b.adc with lpRound := true } }
  else
    let median := b.on ADC_STATUS.DISPUTE 0
    let rep := b.adc.chkRepeat
    let arb := b.adc.arbWait
    let b := checkArrive t median accs trks (lateTick t median accs trks { b with adc := { b.adc with chkRepeat := none } })
    let b := slotsTick t median accs trks (roundSums t b)
    calConvert t (checkConvert t rep arb b)

/-! The work of a round and of a slow round -/

/-- The housekeeping result of the round that ended (R179). -/
def hkResult (t : Nat) (b : Blk) : Blk :=
  match b.adc.hkLast with
  | some (c, s, n) =>
    if n = 0 then b
    else
      let r := (t / 2048 + 255) % 256
      let v := toInt ((s : Rat) / n)
      let b := (b.setFi ADC_HK_RES.VALUE r v).setF ADC_HK_RES.VALID r 1
      { b with adc := { b.adc with hkOf := Tab.put b.adc.hkOf none c (some v) } }
  | none => b

/-- The round mean of input `j` of slot 49 on the converter that runs the table of A, as a ratio to the active bandgap: AGND and the
0.900 × REF point of the same round give the scale (R186, R187). -/
def bandgapRatio (b : Blk) (j : Nat) : Option Rat :=
  let mean (i : Nat) : Option Rat :=
    let (s, n) := Tab.get b.adc.calLast (0, 0) (4 * tableConv b 0 + i)
    if n = 0 then none else some ((s : Rat) / n)
  match mean 0, mean 1, mean j with
  | some m0, some m1, some m => some (quot (9 * (m - m0)) (10 * (m1 - m0)))
  | _, _, _ => none

/-- A difference of a bandgap from the active one in ppm; one beyond its field is the free value. -/
def refPpm (r : Rat) : Int :=
  let p := (r - 1) * 1000000
  if -32768 ≤ p ∧ p ≤ 32767 then toInt p else Config.refPpm p

/-- Bandgap `u` replaced by the spare, in the role it has at the next edge (R187). -/
def refReplace (t : Nat) (b : Blk) (u : Nat) : Blk :=
  match takeSpare t b 11 u with
  | some b =>
    (b.setF (if b.f ADC_STATUS.REF_ACT 0 = u then ADC_STATUS.REF_ACT else ADC_STATUS.REF_IDLE) 0 2).setF
      ADC_STATUS.REF_SPARE_USED 0 1
  | none => b.raise t 12 0xFFFF

/-- The bandgap comparison of a round edge, on the means of the round that ended and the roles in it (R187); none without means. DESIGN
CHOICE: where the spare agrees with both of a pair that differs, REF is raised and nothing is replaced. -/
def bandgapCheck (t : Nat) (b : Blk) : Blk :=
  match bandgapRatio b 2, bandgapRatio b 3 with
  | some vi, some vs =>
    let apart (x y : Rat) : Bool := decide ((if y < 0 then -y else y) < 1000 * (if x < y then y - x else x - y))
    let b := (b.setFi ADC_REF_DIFF.IDLE 0 (refPpm vi)).setFi ADC_REF_DIFF.SPARE 0 (refPpm vs)
    if b.on ADC_STATUS.REF_SPARE_USED 0 then
      if apart vi 1 then (b.raise t 10 0xFFFF).raise t 12 0xFFFF else b
    else if apart vi 1 then
      let is := !apart vs vi
      let as := !apart vs 1
      if as ∧ !is then refReplace t b b.adc.calRole.2
      else if is ∧ !as then refReplace t b b.adc.calRole.1
      else b.raise t 10 0xFFFF
    else if apart vs 1 then (b.raise t 10 0xFFFF).raise t 12 0xFFFF
    else b
  | _, _ => b

/-- The role exchange of the bandgaps at a slow round (R187). -/
def bandgapExchange (b : Blk) : Blk :=
  let act := b.f ADC_STATUS.REF_ACT 0
  (b.setF ADC_STATUS.REF_ACT 0 (b.f ADC_STATUS.REF_IDLE 0)).setF ADC_STATUS.REF_IDLE 0 act

end Sys2Proof.Machine
end

