-- ==== Sys2Proof/Machine/Monitors.lean ====
section
/-! DEFINITION. Window monitors, temperature sensors and throttle channels: spec/08_comparators_thermal.md. -/
namespace Sys2Proof.Machine

/-! Window monitors -/

/-- The comparison of a monitor's input with its thresholds, at the pin and in REF / 8,192 (R195): 0 UNDER, 1 GOOD, 2 OVER. -/
def monCompare (b : Blk) (nn : Nat) : Nat :=
  let v := b.sig (.cal (0x90 + nn))
  let r := b.monRatio nn
  if v < 8 * b.f MON_THR.LO nn * r then 0 else if 8 * b.f MON_THR.HI nn * r < v then 2 else 1

/-- A spare core: unused, the monitor it serves, retired (CMP_CFG). -/
def spareCore (b : Blk) (x : Nat) : Nat := if x = 0 then b.f CMP_CFG.SP0_MON 0 else b.f CMP_CFG.SP1_MON 0
def setSpareCore (b : Blk) (x v : Nat) : Blk := if x = 0 then b.setF CMP_CFG.SP0_MON 0 v else b.setF CMP_CFG.SP1_MON 0 v

/-- The lowest unused spare core. -/
def unusedCore (b : Blk) : Option Nat := (List.range 2).find? fun x => spareCore b x == 0xFF

/-- A monitor's core replaced by an unused spare; its former spare, if any, is retired (R205, R206). -/
def coreReplace (t : Nat) (b : Blk) (nn : Nat) : Blk :=
  match unusedCore b with
  | none => b.raise t 12 0xFFFF
  | some x =>
    let old := b.f MON_STAT.CORE nn
    let b := if old = 0 then b else setSpareCore b (old - 1) 0xFE
    (useSpare t (setSpareCore b x nn) 9 nn).setF MON_STAT.CORE nn (x + 1)

/-- The outcome of a core test: whether the monitor's core and the shadowing spare passed (table Monitor core test
outcome); without effect before the third test tick. A core that fails raises SELFTEST (R384). -/
def monTestOutcome (t : Nat) (b : Blk) (own spare : Bool) : Blk :=
  match b.mons.test with
  | some (nn, 0, _) =>
    let b := { b with mons := { b.mons with test := none } }
    let x := (unusedCore b).getD 0
    if own ∧ spare then b.bump CMP_COUNTS.CMP_TRANSIENT 0
    else if spare then coreReplace t (b.raise t 45 0xFFFF) nn
    else
      let b := useSpare t (setSpareCore (b.raise t 45 0xFFFF) x 0xFE) 9 0xFE
      if own then b else coreReplace t b nn
  | _ => b

/-- A monitor result latched at an edge, with blanking (R200, R201); in the 3 test ticks (`rep`) that of the disagreement (R205). -/
def monLatch (rep : Bool) (b : Blk) (nn : Nat) : Blk :=
  let x := b.mn nn
  let raw := x.next
  let b :=
    match b.mons.test with
    | some _ => b
    | none =>
      let s := b.sig (.monShadow nn)
      if b.f CMP_CFG.SHADOW_MON 0 = nn ∧ (unusedCore b).isSome ∧ s ≠ 0 then
        { b with mons := { b.mons with test := some (nn, 3, if raw ≠ 1 then raw else (s - 1).toNat) } }
      else b
  let res := match b.mons.test with
    | some (m, _, r) => if m = nn ∧ rep then r else raw
    | none => raw
  let k := b.f MON_CFG.BLANK nn
  let blanked := decide (k < 8) && decide (0 < Tab.get b.mons.blank 0 k) && decide (x.held < 64)
  let v := if blanked then x.seen else res
  let b := (b.setOn MON_STAT.HELD nn blanked).setF MON_STAT.STATE nn v
  let uv := x.uv.tick (v == 0)
  let ov := x.ov.tick (v == 2)
  b.setMn nn { next := monCompare b nn, seen := v, held := if blanked then x.held + 1 else 0, uv := uv, ov := ov }

/-- RAIL_UV and RAIL_OV of a monitor after MQUAL results, once per run (R197). -/
def monRailUv (t : Nat) (b : Blk) (nn : Nat) : Blk :=
  let x := b.mn nn
  if b.on MON_CFG.FLT_UV nn ∧ atLeast1 (b.f MON_CFG.MQUAL nn) ≤ x.uv.n ∧ !x.uv.raised then
    (b.setMn nn { x with uv := { x.uv with raised := true } }).raise t 17 (0x100 + nn)
  else b
def monRailOv (t : Nat) (b : Blk) (nn : Nat) : Blk :=
  let x := b.mn nn
  if b.on MON_CFG.FLT_OV nn ∧ atLeast1 (b.f MON_CFG.MQUAL nn) ≤ x.ov.n ∧ !x.ov.raised then
    (b.setMn nn { x with ov := { x.ov with raised := true } }).raise t 18 (0x100 + nn)
  else b

/-- The gate commands of the berths: on or off (R199). -/
def gateMap (b : Blk) : Nat :=
  maskOf ((List.range 32).filter fun nn => match (b.brt nn).gate with
    | .off => false
    | .sink => false
    | _ => true)

/-- The triggers of the tick before an edge open the blanking windows, which cover the results latched from this edge on (R199). DESIGN
CHOICE: a SEL above 7 with SRC 1 or 2 is taken modulo 8. -/
def blankEdge (b : Blk) : Blk :=
  let gates := gateMap b
  let b := forAll 8 b fun k b =>
    let sel := b.f BLANK_CFG.SEL k
    let trig := match b.f BLANK_CFG.SRC k with
      | 1 => (b.lp (sel % 8)).edge
      | 2 => bit b.mons.steps (sel % 8)
      | 3 => bit gates sel != bit b.mons.gates sel
      | _ => false
    let left := Tab.get b.mons.blank 0 k
    let left := if trig then atLeast1 (b.f BLANK_CFG.LEN k) else left - 1
    { b with mons := { b.mons with blank := Tab.put b.mons.blank 0 k left } }
  { b with mons := { b.mons with gates := gates, steps := 0 } }

/-- The monitors' share of a tick: results latched, the test counted, GOOD map. -/
def monsLatch (b : Blk) : Blk :=
  let rep := b.mons.test.any fun (_, k, _) => k != 0
  let b := { b with mons := { b.mons with test := b.mons.test.map fun (m, k, r) => (m, k - 1, r) } }
  let b := forAll 32 b fun nn b => monLatch rep b nn
  b.setF CMP_GOOD.MAP 0 (maskOf ((List.range 32).filter fun nn => b.f MON_STAT.STATE nn == 1))

/-- The readback of a threshold DAC when its housekeeping result is written (R203). -/
def monReadback (t : Nat) (b : Blk) : Blk :=
  match b.adc.hkLast with
  | some (ch, s, n) =>
    if 0xB0 ≤ ch ∧ ch < 0xD0 ∧ n ≠ 0 then
      let nn := ch - 0xB0
      let code := if b.on MON_STAT.RB_SEL nn then b.f MON_THR.HI nn else b.f MON_THR.LO nn
      let bad := decide (((b.f CMP_CFG.DAC_TOL 0 : Nat) : Int) < (toInt ((s : Rat) / n) - 8 * code).natAbs)
      let b := b.setOn MON_STAT.DAC_ERR nn bad
      if bad then coreReplace t (b.raise t 37 0xFFFF) nn else b
    else b
  | none => b

/-- The slow-round work of the monitors: RB_SEL changes (R203), the shadow moves on (R205). -/
def monsSlow (b : Blk) : Blk :=
  let b := forAll 32 b fun nn b => b.setOn MON_STAT.RB_SEL nn (!b.on MON_STAT.RB_SEL nn)
  let m := b.f CMP_CFG.SHADOW_MON 0
  b.setF CMP_CFG.SHADOW_MON 0 (if (unusedCore b).isSome then (if m = 0xFF then 0 else (m + 1) % 32) else 0xFF)

/-- The STANDBY sample of the monitors with STBY_EN (R198). -/
def monsStandby (b : Blk) : Blk :=
  forAll 32 b fun nn b =>
    if b.on MON_CFG.STBY_EN nn ∧ monCompare b nn ≠ 1 then b.flag MON_STAT.STBY_EXC nn else b

/-! Temperature sensors -/

/-- A sensor in service: an external input with TYPE 0 is unused. -/
def sensUsed (b : Blk) (s : Nat) : Bool := decide (s < 4) || b.f TS_CFG.TYPE s != 0

/-- The latest housekeeping result of a sensor's channel in this boot (R207). -/
def sensResult (b : Blk) (s : Nat) : Option Int := Tab.get b.adc.hkOf none (0x80 + s)

/-- A value put at its place in a rising list. -/
def insertInt (x : Int) : List Int → List Int
  | [] => [x]
  | y :: r => if x ≤ y then x :: y :: r else y :: insertInt x r

/-- The median of a list: the mean of the two middle values when their number is even (R208). -/
def medianOf (l : List Int) : Rat :=
  let s := l.foldr insertInt []
  let n := s.length
  (((s.getD ((n - 1) / 2) 0) + (s.getD (n / 2) 0) : Int) : Rat) / 2

/-- The unbroken neighbours of a sensor under a set of BROKEN sensors (R208, R209). -/
def neighbours (b : Blk) (broken s : Nat) : List Nat :=
  (List.range 12).filter fun k => k != s && bit (b.f TS_NBR.NBR s) k && !bit broken k && sensUsed b k

/-- The judgement of one sensor (R208). -/
def sensJudge (t : Nat) (b : Blk) (broken s : Nat) : Blk :=
  let own := b.fi TS_VAL.OWN s
  let nb := neighbours b broken s
  let far := decide (2 ≤ nb.length) &&
    decide ((b.f TS_CFG.ALLOW s * 10 : Nat) < (let d := (own : Rat) - medianOf (nb.map fun k => b.fi TS_VAL.OWN k)
      if d < 0 then -d else d))
  let x := b.sn s
  let n := runN x.far far
  let b := b.setSn s { x with far := n }
  if bit broken s then b
  else if own < -5500 ∨ 20000 < own ∨ atLeast1 (b.f TS_CFG.BROKEN_QUAL s) ≤ n then
    (b.setF TS_STAT.BROKEN s 1).raise t 14 s
  else b

/-- The value in use of a sensor: its own result or its substitute (R207, R210). -/
def sensUse (b : Blk) (broken s : Nat) : Blk :=
  if !b.on TS_STAT.BROKEN s then (b.setFi TS_VAL.USED s (b.fi TS_VAL.OWN s)).setF TS_STAT.NO_NEIGH s 0
  else
    let nb := neighbours b broken s
    if nb ≠ [] then
      (b.setFi TS_VAL.USED s (toInt (medianOf (nb.map fun k => b.fi TS_VAL.OWN k)))).setF TS_STAT.NO_NEIGH s 0
    else
      let l := ((List.range 12).filter fun k => k != s && !bit broken k && sensUsed b k).map fun k => b.fi TS_VAL.OWN k
      match l with
      | [] => b.setF TS_STAT.NO_NEIGH s 1
      | x :: r => (b.setFi TS_VAL.USED s (r.foldl max x)).setF TS_STAT.NO_NEIGH s 1

/-- Rate of rise and limits of a sensor (R212, R213). DESIGN CHOICE: a WIN_SR out of its range is used as written: with 0 the rate is a
quotient by 0, above 229 none is computed. -/
def sensLimits (t : Nat) (b : Blk) (s : Nat) : Blk :=
  let now := b.fi TS_VAL.USED s
  let x := b.sn s
  let w := b.f TS_CFG.WIN_SR s
  let past : Option Int := if w = 0 then some now else x.hist[w - 1]?
  let b := match past with
    | some p =>
      let rate := quot ((now - p : Int) : Rat) ((w : Rat) * (262144 / 1000000))
      let past := decide ((b.f TS_RATE.RATE_LIM s : Rat) < rate)
      let n := runN x.fast past
      let b := (b.setFi TS_RATE.RATE s (clampI (-32768) 32767 (toInt rate))).setSn s { x with fast := n }
      if 2 ≤ n then (b.setF TS_STAT.RATE_EXC s 1).raise t 15 s else if past then b else b.setF TS_STAT.RATE_EXC s 0
    | none => b
  let b := b.setSn s { b.sn s with hist := (now :: x.hist).take 229 }
  let b :=
    if ((b.f TS_LIM.TABS_MAX s : Nat) : Int) < now then (b.setF TS_STAT.ABS_EXC s 1).raise t 13 s
    else b.setF TS_STAT.ABS_EXC s 0
  b.setOn TS_STAT.TTHR_EXC s (decide (((b.f TS_LIM.TTHR s : Nat) : Int) < now))

/-- The BROKEN set as THERM_BROKEN shows it. -/
def brokenMap (b : Blk) : Nat := maskOf ((List.range 12).filter fun s => b.on TS_STAT.BROKEN s)

/-- The evaluation of all sensors at a slow-round edge after BOOT (R207 to R213). -/
def sensEval (t : Nat) (b : Blk) : Blk :=
  let l := (List.range 12).filter fun s => sensUsed b s
  let b := (bitsSet 12 b.therm.clear).foldl (fun b s =>
    (b.setF TS_STAT.BROKEN s 0).setSn s { b.sn s with far := 0 }) b
  let b := { b with therm := { b.therm with clear := 0, evalAt := t + 1 } }
  let broken := brokenMap b
  let fresh := l.filter fun s => (sensResult b s).isSome
  let b := fresh.foldl (fun b s => b.setFi TS_VAL.OWN s ((sensResult b s).getD 0)) b
  let b := fresh.foldl (fun b s => sensJudge t b broken s) b
  let b := if l.all fun s => b.on TS_STAT.BROKEN s then b.raise t 12 0xFFFF else b
  let b := (l.filter fun s => fresh.contains s || b.on TS_STAT.BROKEN s).foldl (fun b s => sensUse b broken s) b
  let b := l.foldl (fun b s => sensLimits t b s) b
  b.setF THERM_BROKEN.MAP 0 (brokenMap b)

/-- A 1 written to bits of THERM_BROKEN by an OWNER-class writer clears the marks at the next evaluation (R211). -/
def brokenClear (b : Blk) (origin m : Nat) : Blk :=
  if origin = 2 then { b with therm := { b.therm with clear := b.therm.clear ||| (m % 4096) } } else b

/-- The values Keeper reads during BOOT (R78, R174). -/
def sensBoot (b : Blk) : Blk :=
  forAll 12 b fun s b => let v := (Tab.get b.adc.lp {} (0x80 + s)).cal; (b.setFi TS_VAL.OWN s v).setFi TS_VAL.USED s v

/-- The die comparators at an edge (R214). -/
def dieTick (b : Blk) : Blk :=
  let hot := (List.range 4).map fun q => runN (b.therm.hot.getD q 0) (b.sig (.dieHot q) != 0)
  let cool := runN b.therm.cool ((List.range 4).all fun q => b.sig (.dieCool q) != 0)
  { b with therm := { b.therm with hot := hot, cool := cool } }

/-! Throttle channels -/

/-- KBUS is carried by the backup pack: the hand-over is not in ON_SOURCE (HO_STATE). -/
def onPack (b : Blk) : Bool := b.f KEEP_STATUS.HO_STATE 0 != 0

/-- The temperature sources of a channel at an evaluation. -/
def thrTemp (b : Blk) (k : Nat) : Bool :=
  (List.range 12).any fun s => (bit (b.f THR_CFG.SRC_TTHR k) s && b.on TS_STAT.TTHR_EXC s) ||
    (bit (b.f THR_CFG.SRC_RATE k) s && b.on TS_STAT.RATE_EXC s)

/-- A channel whose condition is latched present becomes ACTIVE (R215). -/
def thrActivate (t : Nat) (b : Blk) (k : Nat) : Blk :=
  if b.on THR_CTL.ACTIVE k then b
  else (b.setF THR_CTL.ACTIVE k 1).setTh k { b.th k with since := t + 1, absent := 0 }

/-- The tick-evaluated sources (R215, R219). -/
def throttleTick (t : Nat) (b : Blk) : Blk :=
  forAll 4 b fun k b =>
    let now := b.on THR_CTL.HOST_REQ k || (b.on THR_CFG.SRC_PACK k && onPack b)
    let x := b.th k
    let b := b.setTh k { x with now := now, seen := x.seen || now, absent := if now then 0 else x.absent }
    if now then thrActivate t b k else b

/-- The evaluation of the channels at a slow-round edge (R215, R219). -/
def throttleEval (t : Nat) (b : Blk) : Blk :=
  forAll 4 b fun k b =>
    let temp := thrTemp b k
    let x := b.th k
    let present := temp || x.seen
    let b := b.setTh k { x with temp := temp, seen := x.now, absent := if present then 0 else x.absent + 1 }
    if temp then thrActivate t b k else b

/-- Enforcement at the first evaluation at or after the grace period that finds the condition present (R216), with its effect on the
loop from the next edge (R217). -/
def throttleEnforce (t : Nat) (b : Blk) (k : Nat) : Blk :=
  let x := b.th k
  let due := decide (x.since + b.f THR_CTL.GRACE k * 2000 ≤ t + 1)
  let present := x.now || (x.temp && b.therm.evalAt == t + 1)
  if b.on THR_CFG.ENF k ∧ b.on THR_CTL.ACTIVE k ∧ !b.on THR_CTL.ENFORCED k ∧ due ∧ present then
    let b := (b.setF THR_CTL.ENFORCED k 1).setTh k { x with lim := false }
    (enforceDue b (b.f THR_CFG.LOOP k)).raise t 41 0xFFFF
  else b

/-- Release after REL_SR absent evaluations: the limit is its own again at the next edge, when the index is chosen anew (R219). -/
def throttleRelease (t : Nat) (b : Blk) (k : Nat) : Blk :=
  if b.on THR_CTL.ACTIVE k ∧ atLeast1 (b.f THR_ENF.REL_SR k) ≤ (b.th k).absent ∧ b.therm.evalAt = t + 1 then
    let b := ((b.setF THR_CTL.ACTIVE k 0).setF THR_CTL.ENFORCED k 0).setTh k { b.th k with absent := 0, lim := false }
    enforceDue b (b.f THR_CFG.LOOP k)
  else b

/-- THROTTLE_N is driven low (R215). -/
def throttleLow (b : Blk) : Bool := (List.range 4).any fun k => b.on THR_CTL.ACTIVE k

/-- The in-service injection tests of a slow round: one berth's sense amplifier, one charge-pump stage (R384). -/
def injectionTest (t : Nat) (b : Blk) : Blk :=
  let r := t / 524288
  let one (b : Blk) (u cls unit : Nat) : Blk :=
    if b.sig (.injection u) ≠ 0 then useSpare t (b.raise t 45 0xFFFF) cls unit else b
  one (one b (r % 32) 10 (r % 32)) (32 + r % 8) 13 (r % 8)

end Sys2Proof.Machine
end

