-- ==== Sys2Proof/Machine/Sequencer.lean ====
section
/-! DEFINITION. The sequencer, the ALL-OFF domain and FOGHORN: spec/09_sequencing.md. -/
namespace Sys2Proof.Machine

/-! Group states (SEQ_GRP_g_STATE) and causes (table Group cause codes) -/
def gIDLE : Nat := 0
def gSTARTING : Nat := 1
def gUP : Nat := 2
def gSTOPPING : Nat := 3
def gALLOFF : Nat := 4

/-- A group's state. -/
def Blk.gst (b : Blk) (g : Nat) : Nat := b.f SEQ_GRP_STATE.STATE g

/-- A group is in the ALL-OFF domain. -/
def inDomain (b : Blk) (g : Nat) : Bool := b.on SEQ_GRP_CFG.DOMAIN g

/-- The pool index of step `k` of a group. -/
def poolStep (b : Blk) (g k : Nat) : Nat := b.f SEQ_GRP_CFG.FIRST g + k

/-- The pool index of the step a group has entered or is stopping. -/
def curStep (b : Blk) (g : Nat) : Nat := poolStep b g (b.f SEQ_GRP_STATE.STEP g)

/-- The output mask of a pool step and its outputs in ascending order. -/
def stepMask (b : Blk) (k : Nat) : Nat := b.f64 SEQ_STEP_OUT_LO.MASK SEQ_STEP_OUT_HI.MASK k
def stepOuts (b : Blk) (k : Nat) : List Nat := bitsSet 64 (stepMask b k)

/-- The outputs a group owns (R221). -/
def groupOuts (b : Blk) (g : Nat) : List Nat := (List.range 64).filter fun o => b.f SEQ_OUT_CFG.GROUP o == g

/-- T_OFF in ticks; a value outside 5 to 1,000 ms is taken as the nearest end (R233, R239). -/
def tOff (b : Blk) (g : Nat) : Nat := 2000 * clampN 5 1000 (b.f SEQ_GRP_CFG.T_OFF_MIN g)

/-- A group moves to a state in force from edge `te`. -/
def grpTo (b : Blk) (te g st : Nat) : Blk :=
  (b.setF SEQ_GRP_STATE.STATE g st).set64 SEQ_GRP_TICK_LO.TICK SEQ_GRP_TICK_HI.TICK g te

/-- The event that acted last on a group, if one has acted in tick `t`. -/
def Blk.grpEv (b : Blk) (t g : Nat) : Option Evt :=
  let e := Tab.get b.evts {} (Obj.grp g).key
  if e.tk = t + 1 then some e else none

/-- A group as it stands. -/
def grpIs (b : Blk) (t g : Nat) : GrpWas :=
  ⟨t + 1, b.gst g, b.f SEQ_GRP_STATE.STEP g, b.f SEQ_GRP_STATE.CAUSE g, b.f64 SEQ_GRP_TICK_LO.TICK SEQ_GRP_TICK_HI.TICK g, b.gr g⟩

/-- A group as tick `t` found it. -/
def grpFound (b : Blk) (t g : Nat) : GrpWas := if (b.grpEv t g).isSome then Tab.get b.seq.was {} g else grpIs b t g

/-- FOGHORN_IN has taken a group to ALLOFF at edge `te` (R237). -/
def foghornAt (te : Nat) (b : Blk) (g : Nat) : Bool :=
  b.gst g == gALLOFF && b.f SEQ_GRP_STATE.CAUSE g == 4 && (b.gr g).offAt == te

/-- It has done so in tick `t`: a cause of this device in the same tick still counts (R237). -/
def foghornTook (b : Blk) (t g : Nat) : Bool := (b.grpEv t g).isSome && foghornAt (t + 1) b g

/-- A group as an event of place `prio` in tick `t` finds it: as the tick found it, where the event comes before the one that acted. -/
def grpSeen (b : Blk) (t g prio : Nat) : GrpWas :=
  match b.grpEv t g with
  | some e => if prio < e.prio || foghornTook b t g then grpFound b t g else grpIs b t g
  | none => grpIs b t g

/-- An event of place `prio` is the one that acts on a group in tick `t`. -/
def grpMark (t : Nat) (b : Blk) (g prio : Nat) : Blk :=
  let w := grpFound b t g
  { b with
    evts := Tab.put b.evts {} (Obj.grp g).key ⟨t + 1, prio, w.st⟩
    seq := { b.seq with was := Tab.put b.seq.was {} g w } }

/-! Outputs -/

/-- An output enabled with the origin of its group's start (R222, R224); a berth that trips in the same tick is not toggled (R38). -/
def outEnable (t : Nat) (b : Blk) (origin o : Nat) : Blk :=
  if o < 8 then loopEnable t b o
  else if o < 16 then buckEnable t b (o - 8)
  else if o < 22 then ldoEnable t b (o - 16)
  else if o < 54 then
    let nn := o - 22
    if b.bst nn = bTRIPPED ∨ b.bst nn = bLOCKED then
      if b.barred o then b
      else
        let b' := (b.setF BERTH_CTL.ON nn 1).setBrt nn { b.brt nn with origin := origin }
        if b.found t (.berth nn) 9 (b.bst nn) = some (b.bst nn) then berthToggle t b' nn origin else b'
    else berthOnRequest t b nn origin
  else if b.barred o then b
  else { b with seq := { b.seq with en := setBit b.seq.en (o - 54), enAt := Tab.put b.seq.enAt 0 (o - 54) (t + 1) } }

/-- An EN output driven inactive. -/
def enOff (t : Nat) (b : Blk) (o : Nat) : Blk :=
  { b with seq := { b.seq with en := clrBit b.seq.en (o - 54), enAt := Tab.put b.seq.enAt 0 (o - 54) (t + 1) } }

/-- An enable of tick `t` taken back, with the state its output was found in. -/
def outUndo (t : Nat) (b : Blk) (o : Nat) : Blk :=
  let undo (x : Obj) (prio : Nat) (st en : Fld) (i : Nat) : Blk :=
    let e := Tab.get b.evts {} x.key
    let b := b.setF en i 0
    if e.tk = t + 1 ∧ e.prio = prio then { b.setF st i e.found with evts := Tab.del b.evts x.key } else b
  if o < 8 then undo (.loop o) 6 LOOP_STATE.STATE LOOP_CTL.EN o
  else if o < 16 then undo (.buck (o - 8)) 7 IB_STATE.STATE IB_CTL.EN (o - 8)
  else if o < 22 then undo (.ldo (o - 16)) 7 LDO_STATE.STATE LDO_CTL.EN (o - 16)
  else if o < 54 then undo (.berth (o - 22)) 9 BERTH_STATE.STATE BERTH_CTL.ON (o - 22)
  else { b with seq := { b.seq with en := clrBit b.seq.en (o - 54) } }

/-- What later places have done to a group in tick `t` taken back (R229): the group as the tick found it, with the enables they issued;
a start request among them waits, a SEQ_TIMEOUT is not raised, an ALL-OFF they asked for gives way. DESIGN CHOICE: a token they sent, a
toggle they counted and the SEQ_GRP_FAULT record of a timeout stand. -/
def grpUndo (t : Nat) (b : Blk) (g : Nat) : Blk :=
  match b.grpEv t g with
  | none => b
  | some e =>
    let w := grpFound b t g
    let on := if 6 ≤ e.prio ∧ (b.gr g).issued = some t then stepOuts b (curStep b g) else []
    let b := on.foldl (fun b o => outUndo t b o) b
    let b := ((b.setF SEQ_GRP_STATE.STATE g w.st).setF SEQ_GRP_STATE.STEP g w.step).setF SEQ_GRP_STATE.CAUSE g w.cause
    let b := b.set64 SEQ_GRP_TICK_LO.TICK SEQ_GRP_TICK_HI.TICK g w.tick
    let b := if (b.gr g).pendAt = t + 1 then b.setF SEQ_GRP_STATE.START_PEND g 1 else b
    let b := { b with
      lines := b.lines.filter fun l => !(l.src == 16 && l.tk == t && l.detail % 0x8000 / 16 == g)
      seq := { b.seq with offDue := b.seq.offDue.filter fun x => !(x.1 == g) } }
    b.setGr g { w.gr with pend := (b.gr g).pend, pendAt := (b.gr g).pendAt, toks := (b.gr g).toks }

/-- An event of place `prio` on a group: ignored when a more urgent one, or one of its own place, has acted in this tick; what a later
place has done is taken back (R229). -/
def grpEvt (t : Nat) (b : Blk) (g prio : Nat) (act : Blk → Blk) : Blk :=
  match b.grpEv t g with
  | some e => if e.prio ≤ prio then b else act (grpMark t (grpUndo t b g) g prio)
  | none => act (grpMark t b g prio)

/-- An output disabled (R232); a HELD berth stays on (R96). -/
def outDisable (t : Nat) (b : Blk) (origin o : Nat) : Blk :=
  if o < 8 then loopDisable t b o
  else if o < 16 then buckDisable t b (o - 8)
  else if o < 22 then ldoDisable t b (o - 16)
  else if o < 54 then (if b.bst (o - 22) = bHELD then b else berthOffRequest t b (o - 22) origin)
  else enOff t b o

/-- An output switched off by the ALL-OFF line (R230). -/
def outAllOff (t : Nat) (b : Blk) (o : Nat) : Blk :=
  if o < 8 then loopForceOff t b o 8
  else if o < 16 then buckForceOff t b (o - 8) 7
  else if o < 22 then ldoForceOff t b (o - 16) 7
  else if o < 54 then berthAllOff t b (o - 22)
  else enOff t b o

/-- An output's own power-good signal and its off signal, as it stands (R223, table Managed output IDs). -/
def outPg (b : Blk) (o : Nat) : Bool :=
  if o < 8 then loopPg b o
  else if o < 16 then buckPg b (o - 8)
  else if o < 22 then b.dst (o - 16) == iREGULATING
  else if o < 54 then b.bst (o - 22) == bON else false
def outOff (b : Blk) (o : Nat) : Bool :=
  if o < 8 then b.lst o == lDISABLED
  else if o < 16 then b.ist (o - 8) == iDISABLED
  else if o < 22 then b.dst (o - 16) == iDISABLED
  else if o < 54 then b.bst (o - 22) == bOFF || b.bst (o - 22) == bTRIPPED || b.bst (o - 22) == bLOCKED else false

/-- An output has entered its fault state (R230). -/
def outFault (b : Blk) (o : Nat) : Bool :=
  if o < 8 then b.lst o == lFAULTED
  else if o < 16 then b.ist (o - 8) == iFAULTED
  else if o < 22 then b.dst (o - 16) == iFAULTED
  else if o < 54 then b.bst (o - 22) == bTRIPPED || b.bst (o - 22) == bLOCKED else false

/-- The result of the monitor an output names, as latched. -/
def outMon (b : Blk) (o : Nat) : Nat := b.f MON_STAT.STATE (b.f SEQ_OUT_CFG.MON o)

/-- Power-good of an output in tick `t` as latched (R223). -/
def pgSeen (b : Blk) (o : Nat) : Bool :=
  match b.f SEQ_OUT_CFG.PG_SRC o with
  | 1 => outMon b o == 1
  | 2 => true
  | _ => bit b.seq.pgSeen o

/-- An output counts as off in tick `t`, by the source PG_SRC selects (R223, table Managed output IDs); `d` = tick its disable was
issued. -/
def offSeen (b : Blk) (t d o : Nat) : Bool :=
  match b.f SEQ_OUT_CFG.PG_SRC o with
  | 1 => outMon b o == 0
  | 2 => decide (d + 2 ≤ t)
  | _ => if o < 54 then bit b.seq.offSeen o else decide (d + 2 ≤ t)

/-! The ALL-OFF domain -/

/-- The ALL-OFF line asserted in force from edge `te`: tick, FAULT frame, FOGHORN drive (R230, R235, R413). `at_` = tick of its cause
plus 1: a cause of this device in the tick of FOGHORN_IN takes its place (R237). -/
def lineAssert (te at_ : Nat) (b : Blk) (cause : Nat) : Blk :=
  let own := cause != 4
  let rose := !b.on SEQ_DOMAIN.ALLOFF_LINE 0 || (own && b.seq.fhAt == at_)
  let b := b.setF SEQ_DOMAIN.ALLOFF_LINE 0 1
  let b := if rose then { b with seq := { b.seq with lineAt := te, fhAt := if own then 0 else at_ } } else b
  let b := if rose ∧ own then faultFrame b te cause else b
  if own ∧ (b.dev = .ready ∨ b.dev = .run) ∧ rose ∧ !b.on SEQ_DOMAIN.FH_DRIVE 0 then
    { b.setF SEQ_DOMAIN.FH_DRIVE 0 1 with seq := { b.seq with fhSince := te } }
  else b

/-- A domain group that the line switches off: one that is not IDLE, or that FOGHORN_IN has taken to ALLOFF at edge `te`. -/
def lineTakes (te : Nat) (b : Blk) (g : Nat) : Bool :=
  inDomain b g && b.gst g != gIDLE && (b.gst g != gALLOFF || foghornAt te b g)

/-- A group in ALLOFF from edge `te`: what it was doing has ended. -/
def grpOff (b : Blk) (te g cause : Nat) : Blk :=
  ((grpTo b te g gALLOFF).setF SEQ_GRP_STATE.CAUSE g cause).setGr g
    { b.gr g with offAt := te, delayAt := none, stopDue := none, disAt := none, issued := none, toks := [] }

/-- What the asserted line does in tick `t`: the outputs of the non-IDLE domain groups off, and the groups in ALLOFF from
edge `te`, those at fault with their cause, the others with `rest` (R230). -/
def domainOff (t te : Nat) (b : Blk) (who : List (Nat × Nat)) (rest : Nat) : Blk :=
  forAll 8 b fun g b =>
    let b := match b.grpEv t g with
      | some e => if inDomain b g ∧ 2 < e.prio ∧ e.found ≠ gALLOFF then grpUndo t b g else b
      | none => b
    if lineTakes t b g then
      let b := if b.gst g = gALLOFF then b else (groupOuts b g).foldl (fun b o => outAllOff t b o) b
      grpOff (grpMark t b g 2) te g (((who.find? fun x => x.1 == g).map (·.2)).getD rest)
    else b

/-- ALL-OFF by a cause of group `g` evaluated in tick `t`: the line asserts at edge t+1, its effects follow (R230). -/
def allOff (t : Nat) (b : Blk) (g cause : Nat) : Blk :=
  let b := lineAssert (t + 1) (t + 1) b cause
  { b with seq := { b.seq with offDue := b.seq.offDue ++ [(g, cause)] } }

/-- The effects of a line that asserted at this edge by causes of the tick before (R230). -/
def allOffDue (t : Nat) (b : Blk) : Blk :=
  match b.seq.offDue with
  | [] => b
  | who => domainOff t (t + 1) { b with seq := { b.seq with offDue := [] } } who 5

/-- Device SAFE on one group (R229): what later places have done in the tick is taken back; a group the tick found switching or UP is in
ALLOFF, cause SAFE. -/
def grpSafe (t te : Nat) (b : Blk) (g : Nat) : Blk :=
  let b := grpUndo t b g
  if b.gst g ≠ gIDLE ∧ b.gst g ≠ gALLOFF then grpOff (grpMark t b g 1) te g 6
  else if (b.grpEv t g).isSome then grpMark t b g 1 else b

/-- Device SAFE on the groups and the EN pins (R229, R303): the line is not asserted, a FOGHORN drive is released (R236). -/
def seqSafe (t te : Nat) (b : Blk) : Blk :=
  let b := forAll 10 b fun k b => enOff t b (54 + k)
  let b := forAll 8 b fun g b => grpSafe t te b g
  { b.setF SEQ_DOMAIN.FH_DRIVE 0 0 with seq := { b.seq with offDue := [] } }

/-- A group holds the ALL-OFF line: it is in an ALLOFF entered through it, which only a domain group enters (R231). -/
def lineHolder (b : Blk) : Bool := (List.range 8).any fun h => b.gst h == gALLOFF && b.f SEQ_GRP_STATE.CAUSE h != 6

/-- ALLOFF_REQ written 1: ignored outside the domain (R230). -/
def seqAllOffReq (t : Nat) (b : Blk) (g : Nat) : Blk := if inDomain b g then allOff t b g 7 else b

/-! Starting -/

/-- The enables of the entered step issued in tick `t` (R224). -/
def issueEnables (t : Nat) (b : Blk) (g : Nat) : Blk :=
  let b := b.setGr g { b.gr g with issued := some t, qual := 0 }
  if inDomain b g ∧ b.on SEQ_DOMAIN.ALLOFF_LINE 0 then b
  else (stepOuts b (curStep b g)).foldl (fun b o => outEnable t b (b.gr g).origin o) b

/-- The token a waiting step has, if any (R227). -/
def keptToken (b : Blk) (g : Nat) : Option Nat :=
  ((b.gr g).toks.find? fun p => p.1 == b.f SEQ_STEP_TOK.WAIT_ID (curStep b g)).map (·.2)

/-- Step `k` of a group entered in tick `t` (R224, R227). -/
def enterStep (t : Nat) (b : Blk) (g k : Nat) : Blk :=
  let b := (b.setF SEQ_GRP_STATE.STEP g k).setGr g
    { b.gr g with entered := t, delayAt := none, issued := none, qual := 0 }
  let b := { b with mons := { b.mons with steps := setBit b.mons.steps g } }
  if b.on SEQ_STEP_TOK.WAIT_EN (curStep b g) then
    match keptToken b g with
    | some tgt => if (tgt : Int) - 1 ≤ ringTick b t then issueEnables t b g else b
    | none => b
  else issueEnables t b g

/-- A start is permitted in tick `t` (R233). -/
def startPermitted (t : Nat) (b : Blk) (g : Nat) : Bool :=
  b.dev == .run && b.devEdge == .run && b.gst g == gIDLE &&
    (match (b.gr g).idleAt with
     | some e => decide (e + tOff b g ≤ t + 1)
     | none => true) &&
    (!inDomain b g || (!b.on SEQ_DOMAIN.ALLOFF_LINE 0 && b.on SEQ_DOMAIN.FH_LEVEL 0))

/-- A permitted start acted on: step 0 entered (table Group transitions). -/
def startGroup (t : Nat) (b : Blk) (g origin : Nat) : Blk :=
  let b := (grpTo b (t + 1) g gSTARTING).setF SEQ_GRP_STATE.START_PEND g 0
  enterStep t (b.setGr g { b.gr g with origin := origin, qualN := 0, toks := [] }) g 0

/-- A start request (R233); a group without steps has none (R239), nor a device in SAFE (R464). One that waits keeps its own origin
(R222). -/
def seqStart (t : Nat) (b : Blk) (g origin : Nat) : Blk :=
  if b.f SEQ_GRP_STEPS.COUNT g = 0 ∨ b.safeNow then b
  else
    let b := b.setGr g { b.gr g with pend := origin, pendAt := t + 1 }
    match b.grpEv t g with
    | some e => if e.prio = 8 ∧ e.found = gIDLE then b else b.setF SEQ_GRP_STATE.START_PEND g 1
    | none =>
      if startPermitted t b g then grpEvt t b g 8 fun b => startGroup t b g origin else b.setF SEQ_GRP_STATE.START_PEND g 1

/-- A pending start in the first tick in which it is permitted; a WAKE request that is gone clears it (R233); none in SAFE (R464). -/
def pendingStart (t : Nat) (b : Blk) (g : Nat) : Blk :=
  if b.on SEQ_GRP_STATE.START_PEND g ∧ startPermitted t b g ∧ !b.safeNow then
    if b.f SEQ_GRP_CFG.START_SRC g = 2 ∧ !b.seq.wakeIn then b.setF SEQ_GRP_STATE.START_PEND g 0
    else grpEvt t b g 8 fun b => startGroup t b g (b.gr g).pend
  else b

/-- The delay before the next step has passed (R224). -/
def stepDelayExpire (t : Nat) (b : Blk) (g : Nat) : Blk :=
  match (b.gr g).delayAt with
  | some d => if b.gst g = gSTARTING ∧ d ≤ t then enterStep t b g (b.f SEQ_GRP_STATE.STEP g + 1) else b
  | none => b

/-- QUAL, TMO, DELAY and OFF_TMO of a pool step in ticks (R224 to R226, R232); out of range = the nearest end (R239). -/
def qualTicks (b : Blk) (k : Nat) : Nat := 2 * clampN 10 10000 (b.f SEQ_STEP_QUAL.QUAL k)
def tmoTicks (b : Blk) (k : Nat) : Nat := 2 * clampN 100 2000000 (b.f SEQ_STEP_TMO.TMO k)
def delayTicks (b : Blk) (k : Nat) : Nat := 2 * min 10000 (b.f SEQ_STEP_QUAL.DELAY k)
def offTmoTicks (b : Blk) (k : Nat) : Nat := 2 * clampN 100 2000000 (b.f SEQ_STEP_OFF.OFF_TMO k)

/-- The enables that a token releases: an event of its group, or part of the start that the group has made in the same tick
(R227, R229). -/
def tokenIssue (t : Nat) (b : Blk) (g : Nat) : Blk :=
  if (grpFound b t g).st = gSTARTING then grpEvt t b g 7 fun b => issueEnables t b g else issueEnables t b g

/-- A token received for the groups that are STARTING (R227). -/
def tokenReceive (t : Nat) (b : Blk) (id tgt : Nat) : Blk :=
  forAll 8 b fun g b =>
    if b.gst g ≠ gSTARTING then b
    else
      let b := b.setGr g { b.gr g with toks := (b.gr g).toks ++ [(id, tgt)] }
      let k := curStep b g
      let waits := b.on SEQ_STEP_TOK.WAIT_EN k && b.f SEQ_STEP_TOK.WAIT_ID k == id && (b.gr g).issued.isNone &&
        (b.gr g).delayAt.isNone && (b.gr g).qualN == b.f SEQ_GRP_STATE.STEP g
      if waits ∧ (tgt : Int) - 1 < ringTick b t then
        tokenIssue t (b.flag SEQ_GRP_STATE.TOK_LATE g) g
      else if waits ∧ (tgt : Int) - 1 = ringTick b t then tokenIssue t b g
      else b

/-- The waiting step issues its enables one ring tick before its token's target (R227). -/
def stepTokenTarget (t : Nat) (b : Blk) (g : Nat) : Blk :=
  let k := curStep b g
  if b.gst g = gSTARTING ∧ b.on SEQ_STEP_TOK.WAIT_EN k ∧ (b.gr g).issued = none ∧ (b.gr g).delayAt = none ∧
      (b.gr g).qualN = b.f SEQ_GRP_STATE.STEP g then
    match keptToken b g with
    | some tgt => if (tgt : Int) - 1 ≤ ringTick b t then tokenIssue t b g else b
    | none => b
  else b

/-- The entered step qualifies (R225): its token is acted on by this device (R228), the next step is entered or due, or
the group is UP. -/
def stepQualified (t : Nat) (b : Blk) (g : Nat) : Blk :=
  let k := curStep b g
  let x := b.gr g
  if b.gst g = gSTARTING ∧ x.issued ≠ none ∧ qualTicks b k ≤ x.qual then
    grpEvt t b g 6 fun b =>
      let i := b.f SEQ_GRP_STATE.STEP g
      let b := b.setGr g { x with qualN := i + 1, issued := none, qual := 0 }
      let b :=
        if b.on SEQ_STEP_TOK.EMIT_EN k then
          let target := ringTick b t + atLeast1 (b.f SEQ_TIMING.TOK_LEAD 0)
          tokenReceive t (tokenFrame b (b.f SEQ_STEP_TOK.EMIT_ID k) target) (b.f SEQ_STEP_TOK.EMIT_ID k) target.toNat
        else b
      if b.f SEQ_GRP_STEPS.COUNT g ≤ i + 1 then
        (grpTo b (t + 1) g gUP).setGr g { b.gr g with toks := [] }
      else
        let d := delayTicks b (poolStep b g (i + 1))
        if d = 0 then enterStep t b g (i + 1) else b.setGr g { b.gr g with delayAt := some (t + d) }
  else b

/-! Stopping -/

/-- The disables of the stop step issued in tick `t` (R232). -/
def issueDisables (t : Nat) (b : Blk) (g : Nat) : Blk :=
  let b := b.setGr g { b.gr g with stopDue := none, disAt := some t }
  (stepOuts b (curStep b g)).foldl (fun b o => outDisable t b (b.gr g).origin o) b

/-- A stop begun at the last entered step, in force from edge `te` (R232). -/
def beginStop (t te : Nat) (b : Blk) (g cause : Nat) : Blk :=
  let b := (grpTo b te g gSTOPPING).setF SEQ_GRP_STATE.CAUSE g cause
  issueDisables t (b.setGr g { b.gr g with delayAt := none, issued := none, qual := 0, toks := [] }) g

/-- A stop request: CMD_STOP (1) or HANDOVER (9). A group that the tick found neither STARTING nor UP has no stop (table Group
transitions). -/
def seqStop (t : Nat) (b : Blk) (g cause : Nat) : Blk :=
  let w := grpSeen b t g 5
  if w.st = gSTARTING ∨ w.st = gUP then grpEvt t b g 5 fun b => beginStop t (t + 1) b g cause else b

/-- The step being stopped counted off: the next one, or IDLE (R232). -/
def stepCountedOff (t : Nat) (b : Blk) (g : Nat) : Blk :=
  let i := b.f SEQ_GRP_STATE.STEP g
  if i = 0 then
    (grpTo b (t + 1) g gIDLE).setGr g { b.gr g with idleAt := some (t + 1), stopDue := none, disAt := none, qualN := 0 }
  else
    let b := b.setF SEQ_GRP_STATE.STEP g (i - 1)
    let d := 200 * b.f SEQ_STEP_OFF.OFF_DLY (curStep b g)
    if d = 0 then issueDisables t b g else b.setGr g { b.gr g with stopDue := some (t + d), disAt := none }

/-- The delay before a stop step has passed (R232). -/
def stopStepDelay (t : Nat) (b : Blk) (g : Nat) : Blk :=
  match (b.gr g).stopDue with
  | some d => if b.gst g = gSTOPPING ∧ d ≤ t then issueDisables t b g else b
  | none => b

/-- Every output of the stop step counts as off (R232). -/
def stopStepOff (t : Nat) (b : Blk) (g : Nat) : Blk :=
  match (b.gr g).disAt with
  | some d =>
    if b.gst g = gSTOPPING ∧ d < t ∧ (stepOuts b (curStep b g)).all fun o => offSeen b t d o then stepCountedOff t b g
    else b
  | none => b

/-- An output forced off at the end of a stop timeout (R232). -/
def outForce (t : Nat) (b : Blk) (o : Nat) : Blk :=
  if o < 8 then
    if b.lst o = lDISABLED then b else (loopStop (b.setF LOOP_CTL.EN o 0) o lDISABLED).setF LOOP_STATE.CAUSE o 1
  else outDisable t b 3 o

/-- A cause of place `prio` on a group of the domain asserts ALL-OFF, on another group it acts as `act` (R229, R230); FOGHORN_IN of the
same tick gives way to it (R237). -/
def grpCause (t : Nat) (b : Blk) (g prio cause : Nat) (act : Blk → Blk) : Blk :=
  if foghornTook b t g then allOff t b g cause
  else grpEvt t b g prio fun b => if inDomain b g then allOff t b g cause else act b

/-- OFF_TMO passed without all outputs off: forced off, SEQ_TIMEOUT with STOP, the step counts off; in the domain it
asserts ALL-OFF (R230, R232). -/
def stopStepTimeout (t : Nat) (b : Blk) (g : Nat) : Blk :=
  let w := grpSeen b t g 2
  match w.gr.disAt with
  | some d =>
    let k := poolStep b g w.step
    if w.st = gSTOPPING ∧ d + offTmoTicks b k < t ∧ !((stepOuts b k).all fun o => offSeen b t d o) then
      let b := (stepOuts b k).foldl (fun b o => if offSeen b t d o then b else outForce t b o) b
      let b := (b.setF SEQ_GRP_FAULT.STOP g 1).setF SEQ_GRP_FAULT.STEP g w.step
      let b := b.raise t 16 (0x8000 + g * 16 + w.step)
      grpCause t b g 2 8 fun b => stepCountedOff t (b.setF SEQ_GRP_STATE.CAUSE g 8) g
    else b
  | none => b

/-- The entered step has not qualified in time (R226), nor in this tick (R229): ALL-OFF of the domain, or a stop. -/
def seqTimeout (t : Nat) (b : Blk) (g : Nat) : Blk :=
  let w := grpSeen b t g 4
  let x := w.gr
  let k := poolStep b g w.step
  let first : Bool := match b.grpEv t g with
    | some e => decide (4 < e.prio) || foghornTook b t g
    | none => true
  if first = true ∧ w.st = gSTARTING ∧ x.delayAt = none ∧ x.qualN = w.step ∧ x.entered + tmoTicks b k < t ∧
      ¬(x.issued ≠ none ∧ qualTicks b k ≤ x.qual) then
    let b := ((b.setF SEQ_GRP_FAULT.STOP g 0).setF SEQ_GRP_FAULT.STEP g w.step).raise t 16 (g * 16 + w.step)
    grpCause t b g 4 3 fun b => beginStop t (t + 1) b g 3
  else b

/-- ACK (R234); one made in SAFE is ignored with ACK_REJ as any other that is not permitted (R464). A start request of the same tick still
waits (R229). -/
def seqAck (t : Nat) (b : Blk) (g : Nat) : Blk :=
  if b.f SEQ_GRP_STEPS.COUNT g = 0 then b
  else if !b.safeNow ∧ b.gst g = gALLOFF ∧ (b.gr g).offAt + tOff b g ≤ t ∧ b.dev = .run then
    grpEvt t b g 8 fun b =>
      let b := grpTo b (t + 1) g gIDLE
      let b := if (b.gr g).pendAt = t + 1 then b else b.setF SEQ_GRP_STATE.START_PEND g 0
      let b := b.setGr g { b.gr g with idleAt := some (t + 1), qualN := 0 }
      if lineHolder b ∨ b.seq.offDue ≠ [] then b else b.setF SEQ_DOMAIN.ALLOFF_LINE 0 0
  else b.flag SEQ_GRP_STATE.ACK_REJ g

/-- A group in a state in which a fault of a member acts on it. -/
def gActive (st : Nat) : Bool := st == gSTARTING || st == gUP || st == gSTOPPING

/-- The fault of output `o` found at edge `t`: ALL-OFF of the domain or a stop of its group (R229, R230). The line asserts at
this edge and FOGHORN is driven in this tick (R235); by a fast trip the line has asserted before it, and the groups enter ALLOFF at it. A
second group at fault has its own cause. -/
def memberFault (t : Nat) (b : Blk) (o : Nat) : Blk :=
  let g := b.f SEQ_OUT_CFG.GROUP o
  if 8 ≤ g then b
  else if inDomain b g then
    let own := b.setF SEQ_GRP_FAULT.OUT g o
    if gActive (b.gst g) ∨ foghornAt t b g then
      let fast := decide (22 ≤ o ∧ o < 54) && b.f BERTH_STATE.CAUSE (o - 22) == 2
      let b := lineAssert t t own 2
      domainOff t (if fast then t else t + 1) { b with seq := { b.seq with fhDrv := b.on SEQ_DOMAIN.FH_DRIVE 0 } } [(g, 2)] 5
    else if (b.grpEv t g).isSome ∧ gActive (grpFound b t g).st ∧ b.f SEQ_GRP_STATE.CAUSE g = 5 then own.setF SEQ_GRP_STATE.CAUSE g 2
    else b
  else
    let st := (grpSeen b t g 3).st
    if st = gSTARTING ∨ st = gUP then grpEvt t (b.setF SEQ_GRP_FAULT.OUT g o) g 3 fun b => beginStop t (t + 1) b g 2 else b

/-- A monitor has dropped for DROP_QUAL ticks on an output whose step has qualified (R230, R231). -/
def monDrop (t : Nat) (b : Blk) (o : Nat) : Blk :=
  let g := b.f SEQ_OUT_CFG.GROUP o
  if g < 8 ∧ b.f SEQ_OUT_CFG.PG_SRC o = 1 ∧ atLeast1 (b.f SEQ_GRP_CFG.DROP_QUAL g) ≤ Tab.get b.seq.drop 0 o then
    let b := { b with seq := { b.seq with drop := Tab.del b.seq.drop o } }
    let b := b.raise t (if outMon b o = 0 then 17 else 18) (0x100 + b.f SEQ_OUT_CFG.MON o)
    let st := (grpSeen b t g 3).st
    if inDomain b g then (if gActive st then grpCause t (b.setF SEQ_GRP_FAULT.OUT g o) g 3 2 id else b)
    else if st = gSTARTING ∨ st = gUP then grpEvt t (b.setF SEQ_GRP_FAULT.OUT g o) g 3 fun b => beginStop t (t + 1) b g 2
    else b
  else b

/-! FOGHORN -/

/-- The FOGHORN drive ends (R235). -/
def foghornRelease (t : Nat) (b : Blk) : Blk :=
  if b.on SEQ_DOMAIN.FH_DRIVE 0 ∧ !b.on SEQ_DOMAIN.ALLOFF_LINE 0 ∧ b.seq.fhSince + max 2 (b.f SEQ_TIMING.FH_MIN 0) ≤ t + 1 then
    b.setF SEQ_DOMAIN.FH_DRIVE 0 0
  else b

/-- The second low sample of FOGHORN (R237). -/
def foghornIn (t : Nat) (b : Blk) : Blk :=
  if b.dev = .run ∧ 2 ≤ b.seq.fhLow ∧ b.seq.fhHigh then
    let b := ({ b with seq := { b.seq with fhHigh := false } }.bump SEQ_DOMAIN.FH_IN_COUNT 0).raise t 21 0xFFFF
    let busy := (List.range 8).any fun g => inDomain b g && b.gst g != gIDLE
    if busy ∧ !b.on SEQ_DOMAIN.ALLOFF_LINE 0 then domainOff t (t + 1) (lineAssert t (t + 1) b 4) [] 4 else b
  else b

/-! The work of a tick -/

/-- An output of a qualified step of its group whose stop has not issued its disables (R230). -/
def watched (b : Blk) (o : Nat) : Bool :=
  let g := b.f SEQ_OUT_CFG.GROUP o
  let st := b.gst g
  decide (g < 8) && (st == gSTARTING || st == gUP || st == gSTOPPING) &&
    (List.range (b.gr g).qualN).any fun i => bit (stepMask b (poolStep b g i)) o &&
      !(st == gSTOPPING && decide (b.f SEQ_GRP_STATE.STEP g < i || (b.f SEQ_GRP_STATE.STEP g = i ∧ (b.gr g).disAt ≠ none)))

/-- What the sequencer latches at an edge: FOGHORN, the power-good and off signals of the tick before, the outputs newly in
a fault state (R13, R223, R230, R237). -/
def seqLatch (b : Blk) : Blk :=
  let level := !(b.seq.fhDrv || b.sig .foghorn != 0)
  let outs := (List.range 64).filter fun o => decide (b.f SEQ_OUT_CFG.GROUP o < 8)
  let pg := maskOf (outs.filter fun o => outPg b o)
  let off := maskOf (outs.filter fun o => outOff b o)
  let bad := maskOf (outs.filter fun o => outFault b o)
  let held := maskOf (outs.filter fun o => decide (22 ≤ o ∧ o < 54) && b.bst (o - 22) == bHELD)
  let old := b.seq
  { b.setOn SEQ_DOMAIN.FH_LEVEL 0 level with seq := { old with
    pgSeen := old.pgNow, offSeen := old.offNow, pgNow := pg, offNow := off, blocked := bad ||| held
    newBad := (outs.filter fun o => bit bad o && !bit old.blocked o)
    fhLow := if level || old.fhDrv then 0 else old.fhLow + 1, fhHigh := old.fhHigh || level
    fhDrv := b.on SEQ_DOMAIN.FH_DRIVE 0, wakeIn := b.on BIV_WAKEOUT.WAKE_IN 0 } }

/-- The sequencer's events of a tick: an asserted line's effects, member faults, a line without a holder, the counts of R225
and R230, the start requests of R233. -/
def seqTick (t : Nat) (b : Blk) : Blk :=
  let outs := (List.range 64).filter fun o => decide (b.f SEQ_OUT_CFG.GROUP o < 8)
  let b := allOffDue t b
  let b := b.seq.newBad.foldl (fun b o => memberFault t b o) b
  let b := if b.on SEQ_DOMAIN.ALLOFF_LINE 0 ∧ !lineHolder b ∧ b.seq.lineAt < t then b.setF SEQ_DOMAIN.ALLOFF_LINE 0 0 else b
  let b := forAll 8 b fun g b =>
    let x := b.gr g
    match x.issued with
    | some i =>
      let ok := (stepOuts b (curStep b g)).all fun o => pgSeen b o
      if b.gst g = gSTARTING ∧ i + 2 ≤ t then b.setGr g { x with qual := runN x.qual ok } else b
    | none => b
  let b := outs.foldl (fun b o =>
    let n := if b.f SEQ_OUT_CFG.PG_SRC o = 1 ∧ watched b o ∧ outMon b o ≠ 1 then Tab.get b.seq.drop 0 o + 1 else 0
    { b with seq := { b.seq with drop := Tab.put b.seq.drop 0 o n } }) b
  let auto := b.seq.autoDue && b.devEdge == .run
  let b := { b with seq := { b.seq with autoDue := b.seq.autoDue && !auto } }
  forAll 8 b fun g b =>
    let src := b.f SEQ_GRP_CFG.START_SRC g
    if (auto ∧ src = 1) ∨ (src = 2 ∧ b.seq.wakeIn) then seqStart t b g 3 else b

/-- The entry to RUN is the first after a Keeper start: AUTO groups start in its first tick (R233). -/
def firstRun (b : Blk) : Blk :=
  if b.seq.autoDone then b else { b with seq := { b.seq with autoDue := true, autoDone := true } }

end Sys2Proof.Machine
end

