-- ==== Sys2Proof/Machine/Keep.lean ====
section
/-! DEFINITION. KEEP, hand-over, charger, pack and authentication: spec/10_keepalive_battery.md. -/
namespace Sys2Proof.Machine

/-! Attention and Logbook triggers -/

/-- A bit of one port's ATTN_CAUSE set. -/
def attnPort (b : Blk) (p j : Nat) : Blk :=
  { b.note (attnKey p) (2 ^ j) with attn := Tab.put b.attn 0 p (setBit (Tab.get b.attn 0 p) j) }

/-- A bit of every port's ATTN_CAUSE set. -/
def attnAll (b : Blk) (j : Nat) : Blk := forAll 4 b fun p b => attnPort b p j

/-- A Logbook trigger (R351). -/
def Blk.trigger (b : Blk) (t ty : Nat) (det : List Nat) : Blk := { b with trig := b.trig ++ [⟨ty, t, det⟩] }

/-! KEEP (R240 to R245) -/

def kOFF : Nat := 0
def kARMED : Nat := 1
def kDIODE : Nat := 2

/-- KEEP's state. -/
def Blk.kst (b : Blk) : Nat := b.f KEEP_STATUS.KSTATE 0
def kTo (b : Blk) (st : Nat) : Blk :=
  { b.setF KEEP_STATUS.KSTATE 0 st with keep := { b.keep with revOff := false, nonCond := 0 } }

/-- The KEEP gate is above threshold. -/
def keepGate (b : Blk) : Bool := b.kst == kDIODE && !b.keep.revOff

/-- The charger's switches off with a start of KEEP gate drive (R248), until a tick in CHARGING without it (R252). -/
def chargerStop (b : Blk) : Blk := { b with chg := { b.chg with run := false } }

/-- KBUS at a voltage in mV below KEEP_ON in ARMED: takeover (R241). -/
def keepTakeover (b : Blk) (mv : Nat) : Blk :=
  if b.kst = kARMED ∧ mv < b.f KEEP_CFG.KEEP_ON 0 * 100 then chargerStop (kTo b kDIODE) else b

/-- A forward voltage in µV below -REV_MV in DIODE: gate pulled down (R242). -/
def keepReverseOff (b : Blk) (uv : Int) : Blk :=
  if keepGate b ∧ uv < -(b.f KEEP_CFG.REV_MV 0 * 1000 : Nat) then { b with keep := { b.keep with revOff := true } } else b

/-- A forward voltage in µV above +10 mV after a reverse turn-off: gate drive again (R242, R248). -/
def keepResume (b : Blk) (uv : Int) : Blk :=
  if b.kst = kDIODE ∧ b.keep.revOff ∧ 10000 < uv then
    chargerStop { b with keep := { b.keep with revOff := false } }
  else b

/-- A KBUS source loop is in a state. -/
def srcIn (b : Blk) (st : Nat) : Bool := (List.range 8).any fun n => b.on LOOP_CFG.KBUS_SRC n && b.lst n == st

/-- KEEP back to ARMED (R243): at the entry of the source loop to SOFTSTART, or after 16 ticks without conduction. -/
def keepRearm (b : Blk) : Blk :=
  if b.kst = kDIODE ∧ ((srcIn b lSOFTSTART && !b.keep.srcSS) ∨ 16 ≤ b.keep.nonCond) then kTo b kARMED else b

/-- The count of R245, on the tick's sample. -/
def kbusTick (t : Nat) (b : Blk) : Blk :=
  { b with keep := { b.keep with uv := b.keep.uv.tick (b.fresh? t 0x71 && decide (b.kbusMv < b.f KBUS_WIN.KBUS_UV 0 * 100)) } }

/-- KBUS_UV raised once per run (R245). -/
def kbusUvRaise (t : Nat) (b : Blk) : Blk :=
  if atLeast1 (b.f KBUS_WIN.QUAL 0) ≤ b.keep.uv.n ∧ !b.keep.uv.raised then
    { b.raise t 29 0xFFFF with keep := { b.keep with uv := { b.keep.uv with raised := true } } }
  else b

/-! Hand-over (R246 to R251) -/

def hPACK : Nat := 0
def hDWELL : Nat := 1
def hSOURCE : Nat := 2

/-- The hand-over state. -/
def Blk.hst (b : Blk) : Nat := b.f KEEP_STATUS.HO_STATE 0

/-- A transition of R249 recorded: its tick and the SWITCHOVER trigger (0 to pack, 1 to source). -/
def hoRecord (t : Nat) (b : Blk) (dir : Nat) : Blk :=
  (b.set64 HO_TICK_LO.TICK HO_TICK_HI.TICK 0 t).trigger t 5 (dir :: leBytes 2 (b.f HO_COUNT.DWELL_RESTARTS 0))

/-- ON_SOURCE to ON_PACK (R249, R250). -/
def handoverToPack (t : Nat) (b : Blk) : Blk :=
  let b := attnAll (hoRecord t ((b.bump HO_COUNT.HANDOVERS 0).setF KEEP_STATUS.HO_STATE 0 hPACK) 0) 1
  let tmo := b.f HO_SD.SD_TMO 0
  if tmo = 0 then b
  else { b.setF KEEP_STATUS.SD_RUN 0 1 with keep := { b.keep with sdAt := some (t + 1 + tmo * 2000000) } }

/-- The dwell in ticks by the applied DWELL_MS (R247). -/
def dwellTicks (b : Blk) : Nat := clampN 1 1000 (b.f HO_CFG.DWELL_MS 0) * 2000

/-- What is left of the shutdown timer, in ms. -/
def sdShow (t : Nat) (b : Blk) : Blk :=
  match b.keep.sdAt with
  | some x => b.setF SD_REMAIN.MS 0 ((x - t) / 2000)
  | none => b.setF SD_REMAIN.MS 0 0

/-- KEEP_COND latched and the hand-over machine of one tick (table Hand-over transitions). -/
def handoverTick (t : Nat) (b : Blk) : Blk :=
  let cond := keepGate b
  let b := b.setOn KEEP_STATUS.KEEP_COND 0 cond
  let reg := kbusSource b
  let present := reg && !cond
  let k := { b.keep with nonCond := runN b.keep.nonCond (reg && !cond), srcSS := srcIn b lSOFTSTART }
  let prev := b.keep.srcPrev
  let b := { b with keep := { k with srcPrev := present } }
  let b :=
    if b.hst = hSOURCE then (if present then b else handoverToPack t b)
    else if b.hst = hPACK then
      (if present then (b.setF KEEP_STATUS.HO_STATE 0 hDWELL).setF KEEP_STATUS.DWELL_CNT 0 1 else b)
    else if present then b.setF KEEP_STATUS.DWELL_CNT 0 (min (b.f KEEP_STATUS.DWELL_CNT 0 + 1) (dwellTicks b))
    else if prev then (b.bump HO_COUNT.DWELL_RESTARTS 0).setF KEEP_STATUS.DWELL_CNT 0 0
    else b
  sdShow t b

/-- The dwell has reached its count (R247). -/
def dwellDone (b : Blk) : Bool := b.hst == hDWELL && decide (dwellTicks b ≤ b.f KEEP_STATUS.DWELL_CNT 0)

/-- The return to ON_SOURCE (R247, R249, R250). -/
def dwellComplete (t : Nat) (b : Blk) : Blk :=
  if dwellDone b then
    let b := { b.setF KEEP_STATUS.SD_RUN 0 0 with keep := { b.keep with sdAt := none } }
    sdShow t (hoRecord t ((b.setF KEEP_STATUS.HO_STATE 0 hSOURCE).setF KEEP_STATUS.DWELL_CNT 0 0) 1)
  else b

/-- The shutdown timer expires (R250): a dwell complete in the same tick cancels it (R15). -/
def shutdownTimerExpire (t : Nat) (b : Blk) : Blk :=
  match b.keep.sdAt with
  | none => b
  | some x =>
    if t < x ∨ dwellDone b then b
    else
      let b := { b.setF KEEP_STATUS.SD_RUN 0 0 with keep := { b.keep with
        sdAt := none, sdStby := b.on HO_SD.SD_STBY 0, sdGroups := bitsSet 8 (b.f HO_SD.SD_GROUPS 0) } }
      let b := sdShow t b
      (bitsSet 8 (b.f HO_SD.SD_GROUPS 0)).foldl (fun b g => seqStop t b g 9) b

/-- The groups stopped by the timer are IDLE: the STANDBY request of R250 is due. -/
def sdStandbyDue (b : Blk) : Bool :=
  b.keep.sdStby && b.keep.sdGroups.all fun g => b.gst g == gIDLE

/-! Charger (R252 to R257) -/

def cOFF : Nat := 0
def cWAIT : Nat := 1
def cCHARGING : Nat := 2
def cSUSPENDED : Nat := 3
def cFAULT : Nat := 4

/-- The charger's state. -/
def Blk.cst (b : Blk) : Nat := b.f CHG_STATE.STATE 0
def cTo (b : Blk) (st : Nat) : Blk := b.setF CHG_STATE.STATE 0 st

/-- The switches off. -/
def cStop (b : Blk) : Blk := { b with chg := { b.chg with run := false, duty := 0 } }

/-- The applied ICHG in mA and VCELL_REG in mV (R253). -/
def ichgApplied (b : Blk) : Nat := min (b.f CHG_SET.ICHG 0) (b.f CHG_LIM.ICHG_MAX 0)
def vcellApplied (b : Blk) : Nat := min (b.f CHG_SET.VCELL_REG 0) (b.f CHG_LIM.VCELL_MAX 0 - 50)

/-- The limits of the charger's profile: mA/ms, mA/ms², mA/ms³ on a scale of µA. -/
def chgLim (b : Blk) : Lim := limOf (b.f CHG_PROF_V.VMAX 0) (b.f CHG_PROF_AJ.AMAX 0) (b.f CHG_PROF_AJ.JMAX 0)

/-- CHBAT as last sampled, in mV. -/
def Blk.chbatMv (b : Blk) : Int := b.cal 0x7B

/-- The number of cells. -/
def cells (b : Blk) : Nat := if b.on PACK_CFG.CELLS 0 then 4 else 3

/-- The pack NTC lies outside TCHG_LO to TCHG_HI (0.01 °C against 0.1 °C). -/
def ntcOutside (b : Blk) : Bool :=
  decide (b.cal 0x8C < b.fi CHG_TLIM.TCHG_LO 0 * 10 ∨ b.fi CHG_TLIM.TCHG_HI 0 * 10 < b.cal 0x8C)

/-- The permission of R254. -/
def chgPermitted (b : Blk) : Bool :=
  b.hst == hSOURCE && b.on KEEP_STATUS.PACK_PRESENT 0 &&
  (b.f PACK_AUTH_STAT.AUTH 0 == 2 || !b.on PACK_CFG.AUTH_REQ 0) && !ntcOutside b &&
  decide ((b.chbatMv : Rat) + 1000 ≤ b.kbusMv)

/-- An event of place `prio` in the list of R254, on the state it finds. -/
def chgEvt (t : Nat) (b : Blk) (prio : Nat) (act : Nat → Blk → Option Blk) : Blk :=
  match b.found t .chg prio b.cst with
  | none => b
  | some st =>
    match act st b with
    | some b' => { b' with evts := Tab.put b'.evts {} Obj.chg.key ⟨t + 1, prio, st⟩ }
    | none => b

/-- The profile begun from 0 towards the applied ICHG, with fresh loops (R252). -/
def chgBegin (b : Blk) : Blk :=
  let c := b.chg
  let b := { b with chg := { c with
    prof := (Prof.rest 0).plan (chgLim b) (ichgApplied b * 1000 * lsb), vi := 0, ii := 0, duty := 0, run := true } }
  cTo (taskFresh 0 b 2 0) cCHARGING

/-- OFF to WAIT (R254). -/
def chgWait (t : Nat) (b : Blk) : Blk :=
  chgEvt t b 7 fun st b =>
    if st = cOFF ∧ b.on CHG_CTL.EN 0 ∧ b.f CHG_FAULT_FLAGS.FLAGS 0 = 0 ∧ !b.safeNow then
      some (cTo { b with chg := { b.chg with session := 0 } } cWAIT)
    else none

/-- EN = 1 (R254, R257). -/
def chgEnable (t : Nat) (b : Blk) : Blk := if b.safeNow then b else chgWait t (b.setF CHG_CTL.EN 0 1)

/-- EN = 0 in any state but OFF and FAULT (R254). -/
def chgOff (t : Nat) (b : Blk) : Blk :=
  chgEvt t b 3 fun st b =>
    if st = cOFF ∨ st = cFAULT then none else some ((cTo (cStop b) cOFF).setF CHG_STATE.CAUSE 0 1)
def chgDisable (t : Nat) (b : Blk) : Blk := chgOff t (b.setF CHG_CTL.EN 0 0)

/-- SUSPEND = 1 (R254): the profile down to 0. -/
def chgSuspended (t : Nat) (b : Blk) : Blk :=
  chgEvt t b 5 fun st b =>
    if st = cCHARGING then
      some (cTo { b with chg := { b.chg with prof := b.chg.prof.plan (chgLim b) 0 } } cSUSPENDED)
    else none
def chgSuspend (t : Nat) (b : Blk) : Blk := chgSuspended t (b.setF CHG_CTL.SUSPEND 0 1)

/-- Permission: WAIT or, with SUSPEND = 0, SUSPENDED to CHARGING (R254). -/
def chgPermit (t : Nat) (b : Blk) : Blk :=
  chgEvt t b 6 fun st b =>
    if (st = cWAIT ∨ (st = cSUSPENDED ∧ !b.on CHG_CTL.SUSPEND 0)) ∧ chgPermitted b then some (chgBegin b) else none
def chgResume (t : Nat) (b : Blk) : Blk := chgPermit t (b.setF CHG_CTL.SUSPEND 0 0)

/-- A loss of permission in CHARGING (R254). -/
def chgLoss (t : Nat) (b : Blk) : Blk :=
  chgEvt t b 4 fun st b => if st = cCHARGING ∧ !chgPermitted b then some (cTo (cStop b) cWAIT) else none

/-- The device in SAFE, whatever the charger's state (table Charger transitions). -/
def chgSafe (t : Nat) (b : Blk) : Blk :=
  let b := b.setF CHG_CTL.EN 0 0
  chgEvt t b 1 fun _ b => some ((cTo (cStop b) cOFF).setF CHG_STATE.CAUSE 0 2)

/-- A flag of CHG_FAULT_FLAGS set, with the CHARGER bit of ATTN_CAUSE (R257). -/
def chgFlag (b : Blk) (j : Nat) : Blk := attnAll (b.setBitF CHG_FAULT_FLAGS.FLAGS 0 j) 2

/-- A limit or a removal: switches off, flag, EN cleared, FAULT in any state but OFF (R254, R256). -/
def chgFault (t : Nat) (b : Blk) (j cause : Nat) : Blk :=
  let b := chgFlag b j
  chgEvt t b 2 fun st b =>
    if st = cOFF then none
    else some (((cTo (cStop b) cFAULT).setF CHG_CTL.EN 0 0).setF CHG_STATE.CAUSE 0 cause)

/-- A limit of R256 found by the charger: not in OFF, and once while its flag is set. -/
def chgLimit (t : Nat) (b : Blk) (p : Bool) (j cause src : Nat) : Blk :=
  if b.cst = cOFF ∨ !p ∨ bit (b.f CHG_FAULT_FLAGS.FLAGS 0) j then b else chgFault t (b.raise t src 0xFFFF) j cause

/-- The limits of R256, by their counts of the last tick; a current in mA for the cycle-by-cycle comparator. An EN = 0 of
the tick in which the session timer expires ends the session (R15). -/
def chgCellOv (t : Nat) (b : Blk) (c : Nat) : Blk := chgLimit t b (decide (2 ≤ b.chg.cellOv.getD c 0)) 0 3 26
def chgOc (t : Nat) (b : Blk) : Blk := chgLimit t b (decide (64 ≤ b.chg.oc)) 1 4 26
def chgPeakOc (t : Nat) (b : Blk) (ma : Nat) : Blk := chgLimit t b (decide (5000 < ma) && b.chg.run) 1 4 26
def chgTimer (t : Nat) (b : Blk) : Blk :=
  chgLimit t b (decide (b.f CHG_SESSION.SESSION_H 0 * 7200000000 < b.chg.session) && b.on CHG_CTL.EN 0) 2 5 47
def chgPackTemp (t : Nat) (b : Blk) : Blk := chgLimit t b (decide (16 ≤ b.chg.ntc)) 3 6 46

/-- The clearing read of CHG_FAULT_FLAGS: a charger in FAULT goes to OFF, since the flags then read 0 (R257). -/
def chgFlagsRead (b : Blk) : Blk :=
  let b := b.setF CHG_FAULT_FLAGS.FLAGS 0 0
  if b.cst = cFAULT then cTo b cOFF else b

/-- The control loops of one tick in CHARGING, and in SUSPENDED until the profile is at 0 (R252), from raw codes (R173). A poisoned sample
or state word computes nothing and raises ENGINE_POISON (R25, R327). -/
def chgLoop (t : Nat) (b : Blk) : Blk :=
  let (word, b) := taskRead t b 2 0
  if word ∨ (b.sample 0x7A).psn ∨ (b.sample 0x7B).psn then taskPoison t b 2 0 3 .none else
  let c := b.chg
  let L := b.f CHG_CFG.L_SEL 0
  let p := c.prof.advance (chgLim b)
  let ilim : Rat := (p.x : Rat) / lsb / 1000
  let ev : Rat := (vcellApplied b * cells b : Nat) - b.rawCal 0x7B
  let vi := c.vi + Config.chgKi L 0 * ev
  let iv := clampQ 0 ilim (Config.chgKp L 0 * ev + vi)
  let ei := min ilim iv - quot (b.rawCal 0x7A * 10) (b.f ADC_CSHUNT.SHUNT 0) * 1000
  let ii := c.ii + Config.chgKi L 1 * ei
  { b with chg := { c with prof := p, vi := vi, ii := ii, duty := Config.chgKp L 1 * ei + ii } }

/-- The counts of R256 on the samples of a tick; a cell counts once per sample. -/
def chgCounts (t : Nat) (b : Blk) : Blk :=
  let c := b.chg
  let cellOv := (List.range 4).map fun k =>
    if b.fresh? t (0x7C + k) then
      runN (c.cellOv.getD k 0) (decide (b.f CHG_LIM.VCELL_MAX 0 * 4 < b.cal (0x7C + k)))
    else c.cellOv.getD k 0
  { b with chg := { c with
    cellOv := cellOv
    oc := runN c.oc (decide ((b.f CHG_LIM.ICHG_MAX 0 : Rat) * 11 / 10 < b.chgAmps * 1000))
    ntc := runN c.ntc (ntcOutside b)
    session := if b.cst = cCHARGING then c.session + 1 else c.session } }

/-- What CHG_MEAS and ELAPSED show. -/
def chgShow (b : Blk) : Blk :=
  let b := b.setF CHG_MEAS.VBAT 0 (toInt ((b.chbatMv : Rat) / 10)).toNat
  let b := b.setFi CHG_MEAS.IBAT 0 (toInt (b.chgAmps * 1000))
  b.setF CHG_SESSION.ELAPSED 0 (b.chg.session / 2000000)

/-- The charger's switches off outside ON_SOURCE and with KEEP gate drive: a ramp down to SUSPENDED ends there (R248). -/
def chgOffSource (b : Blk) : Blk :=
  if b.hst = hSOURCE then (if keepGate b then chargerStop b else b)
  else if b.cst = cSUSPENDED then { cStop b with chg := { (cStop b).chg with prof := Prof.rest 0 } }
  else chargerStop b

/-- The charger of one tick: counts, loops, and the level-triggered events in the order of R254. -/
def chargerTick (t : Nat) (run : Bool) (b : Blk) : Blk :=
  let b := chgShow (chgCounts t b)
  let b := if b.cst = cCHARGING ∧ !keepGate b ∧ b.hst = hSOURCE then { b with chg := { b.chg with run := true } } else b
  let b := chgOffSource b
  let b := if (b.cst = cCHARGING ∨ b.cst = cSUSPENDED) ∧ b.chg.run ∧ run then chgLoop t b else b
  let b := if b.cst = cSUSPENDED ∧ b.chg.prof.complete then cStop b else b
  if b.safeNow then chgSafe t b
  else
    let b := if b.on CHG_CTL.EN 0 then b else chgOff t b
    let b := chgLoss t b
    let b := if b.on CHG_CTL.SUSPEND 0 then chgSuspended t b else b
    chgWait t (chgPermit t b)

/-- The charger's ramp ends (R167): SUSPENDED switches off. -/
def chgRampDone (b : Blk) : Blk := if b.cst = cSUSPENDED ∧ b.chg.prof.complete then cStop b else b

/-- A write that changes the applied ICHG or a profile limit, from `old` to `b`: the ramp is planned anew, in CHARGING to the applied ICHG, in
SUSPENDED to 0 while it runs (R165). -/
def chgReplan (old b : Blk) : Blk :=
  let tgt : Int := if b.cst = cCHARGING then (ichgApplied b * 1000 : Int) * lsb else 0
  let moved := decide (b.chg.prof.tgt ≠ tgt) || decide (chgLim old ≠ chgLim b)
  if (b.cst = cCHARGING ∨ (b.cst = cSUSPENDED ∧ !b.chg.prof.complete)) ∧ moved then
    { b with chg := { b.chg with prof := b.chg.prof.plan (chgLim b) tgt } }
  else b

/-! Gauge discard, removal and presence (R258, R259, R268) -/

/-- The design capacity in µC. -/
def designCap (b : Blk) : Int := b.f GAUGE_CFG.DESIGN_CAP 0 * 36000000

/-- SOC as a fraction of FCC. -/
def socOf (b : Blk) : Rat := if b.gauge.fcc = 0 then 0 else (b.gauge.q : Rat) / 65536 / b.gauge.fcc

/-- A round in µs (2,048 ticks). -/
def roundUs : Nat := 1024

/-- What the gauge registers show of Q and of SOC, Q over FCC (R260). -/
def chargeShow (b : Blk) : Blk :=
  let b := b.set64 GAUGE_Q_LO.VALUE GAUGE_Q_HI.VALUE 0 (ux 64 (toInt ((b.gauge.q : Rat) / 65536)))
  b.setF GAUGE_SOC.SOC 0 (clampI 0 65535 (toInt (socOf b * 10000))).toNat

/-- What the gauge registers show of Q, FCC, SOC, SOH, UNC and REST_AGE. -/
def gaugeShow (b : Blk) : Blk :=
  let g := b.gauge
  let b := chargeShow (b.set64 GAUGE_FCC_LO.VALUE GAUGE_FCC_HI.VALUE 0 (ux 64 g.fcc))
  let soh := if designCap b = 0 then Config.quotientByZero g.fcc else (g.fcc : Rat) / designCap b
  let b := b.setF GAUGE_SOC.SOH 0 (clampI 0 65535 (toInt (soh * 10000))).toNat
  let b := b.setF GAUGE_UNC.UNC 0 (clampI 0 65535 (toInt (g.unc * 100))).toNat
  let b := b.setOn GAUGE_FLAGS.UNCERTAIN 0 (decide (5 < g.unc))
  b.setF GAUGE_REST_AGE.S 0 (g.ageBase + g.age * roundUs / 1000000)

/-- What a learning register shows of a cycle. -/
def learnShow (b : Blk) : Blk :=
  match b.gauge.cycle with
  | none => ((b.setF GAUGE_LEARN.LSTATE 0 0).setF GAUGE_LEARN.INTR 0 0).setF GAUGE_LEARN.MINUTES 0 0
  | some c =>
    ((b.setF GAUGE_LEARN.LSTATE 0 c.dir).setF GAUGE_LEARN.INTR 0 c.intr).setF GAUGE_LEARN.MINUTES 0
      (min 0xFFF (c.rounds * roundUs / 60000000))

/-- The learned state discarded, keeping SOC (R268). -/
def gaugeDiscard (b : Blk) : Blk :=
  let s := socOf b
  let fcc := designCap b
  let b := { b with gauge := { b.gauge with fcc := fcc, q := toInt (s * fcc * 65536), cycle := none } }
  gaugeShow (learnShow (((b.setF GAUGE_FLAGS.UNLEARNED 0 1).setF GAUGE_FLAGS.RESTORED 0 0).setF GAUGE_FLAGS.INVALID 0 1))

/-- A removal: by PACK_DET (`none`), or by a rise of CHBAT in mV seen in CHARGING (R258, R259). -/
def packRemoval (t : Nat) (b : Blk) (jump : Option Nat) : Blk :=
  let seen := match jump with
    | none => b.on KEEP_STATUS.PACK_PRESENT 0 || b.sig .packDet != 0
    | some mv => b.cst == cCHARGING && decide (b.f PACK_CFG.JUMP_MV 0 ≤ mv)
  if !seen then b
  else
    let hold := jump.isNone && (b.hst != hSOURCE || b.on KEEP_STATUS.KEEP_COND 0)
    let b := chgFault t (b.raise t 28 0xFFFF) (if jump.isNone then 4 else 5) 7
    let b := if hold then b else kTo b kOFF
    let b := if jump.isNone then b.setSig .packDet 0 else b
    let b := (gaugeDiscard (b.setF KEEP_STATUS.PACK_PRESENT 0 0)).setF PACK_AUTH_STAT.AUTH 0 0
    let det := (if jump.isNone then 4 else 5) :: leBytes 4 b.keep.vbatPrev
    { b.trigger t 0xB det with
      keep := { b.keep with pdLow := 0 }
      auth := { b.auth with run := false, last := if jump.isNone then none else b.auth.last } }

/-! Authentication (R272 to R274) -/

/-- A new attempt: a challenge of 32 bytes sent to the authenticator (R272). -/
def authStart (t : Nat) (b : Blk) (n : Nat) : Blk :=
  let chal := (List.range 32).map fun i => Config.randomByte (b.rng + i) % 256
  let b := b.setF PACK_AUTH_STAT.ATTEMPTS 0 n
  let b := twSendPec b 2 ([2 * b.f PACK_CFG.AUTH_ADDR 0, 0x10, 0x20] ++ chal)
  { b with
    rng := b.rng + 32
    auth := { b.auth with run := true, tries := n, t0 := t, readAt := t + b.f AUTH_TIME.AUTH_WAIT 0 * 2000, chal := chal } }

/-- A run of authentication begun: the first after presence shows RUNNING (R272). -/
def authBegin (t : Nat) (b : Blk) (first : Bool) : Blk :=
  let b := if first then b.setF PACK_AUTH_STAT.AUTH 0 1 else b
  authStart t { b with auth := { b.auth with next := t + 1200000000 } } 1

/-- PACK_DET low for PD_QUAL ms (R259). -/
def packPresent (t : Nat) (b : Blk) : Blk :=
  if !b.on KEEP_STATUS.PACK_PRESENT 0 ∧ atLeast1 (b.f PACK_CFG.PD_QUAL 0) * 2000 ≤ b.keep.pdLow then
    let b := b.setF KEEP_STATUS.PACK_PRESENT 0 1
    authBegin t (kTo b (if kbusSource b then kARMED else kDIODE)) true
  else b

/-- The end of the 600 s period (R272). -/
def authPeriodic (t : Nat) (b : Blk) : Blk :=
  if b.on KEEP_STATUS.PACK_PRESENT 0 ∧ !b.auth.run ∧ b.auth.next ≤ t then authBegin t b false else b

/-- The host's command (R272). -/
def authCommand (t : Nat) (b : Blk) : Blk :=
  if b.on KEEP_STATUS.PACK_PRESENT 0 ∧ !b.auth.run then
    let nx := b.auth.next
    let b := authBegin t b false
    { b with auth := { b.auth with next := nx } }
  else b

/-- A failed attempt: repeated, or the third of R273. -/
def authFailed (t : Nat) (b : Blk) (code : Nat) : Blk :=
  if b.auth.tries < 3 then authStart t b (b.auth.tries + 1)
  else
    let b := { b with auth := { b.auth with run := false } }
    let b := (b.setF PACK_AUTH_STAT.AUTH 0 3).setF PACK_AUTH_STAT.FAIL_CODE 0 code
    gaugeDiscard (chgFault t (b.raise t 27 0xFFFF) 6 8)

/-- The pack-vendor keys programmed, with their index. -/
def packKeys (b : Blk) : List (Nat × List Nat) :=
  ((List.range 4).map fun k => (k, b.otpBytes (0xC00 + 64 * k) 64)).filter fun p => p.2.any (· != 0)

/-- A verified serial: AUTH OK, the PACK_ID, and PACK_SWAP where it differs without a PACK_DET change (R274). -/
def authPassed (b : Blk) (k : Nat) (serial : List Nat) : Blk :=
  let id := crc32 serial
  let swap := match b.auth.last with
    | some x => x != id
    | none => false
  let b := ((b.setF PACK_AUTH_STAT.AUTH 0 2).setF PACK_AUTH_STAT.KEY 0 k).setF PACK_AUTH_STAT.FAIL_CODE 0 0
  let b := { b.setF PACK_ID.PACK_ID 0 id with auth := { b.auth with run := false, last := some id } }
  if swap then gaugeDiscard (b.flag PACK_AUTH_STAT.PACK_SWAP 0) else b

/-- A reply read from the authenticator: the bytes after the read address, PEC last; `none` = not acknowledged
(table Authentication frames). A ready reply after the expiry tick is no success (R272). -/
def authRead (t : Nat) (b : Blk) (reply : Option (List Nat)) : Blk :=
  if !b.auth.run ∨ t < b.auth.readAt then b
  else
    let b := twSend b 2 [2 * b.f PACK_CFG.AUTH_ADDR 0, 0x11, 2 * b.f PACK_CFG.AUTH_ADDR 0 + 1]
    match reply with
    | none => authFailed t b 1
    | some l =>
      let a := b.f PACK_CFG.AUTH_ADDR 0
      let body := l.take (l.length - 1)
      let len := l.getD 1 0
      if crc8 ([2 * a, 0x11, 2 * a + 1] ++ body) ≠ l.getD (l.length - 1) 0 then authFailed t b 3
      else if l.getD 0 0 ≠ 0 then { b with auth := { b.auth with readAt := t + 20000 } }
      else if len < 8 ∨ 32 < len ∨ body.length ≠ len + 66 then authFailed t b 4
      else if b.auth.t0 + b.f AUTH_TIME.AUTH_TMO 0 * 2000 < t then authFailed t b 2
      else
        let serial := slice l 2 len
        let keys := packKeys b
        match keys.find? fun p => Config.ecdsaOk p.2 (b.auth.chal ++ serial) (slice l (2 + len) 64) with
        | some p => authPassed b p.1 serial
        | none => authFailed t b (if keys.isEmpty then 5 else 6)

/-- AUTH_TMO without a ready reply (R272). -/
def authTimeout (t : Nat) (b : Blk) : Blk :=
  if b.auth.run ∧ b.auth.t0 + b.f AUTH_TIME.AUTH_TMO 0 * 2000 ≤ t then authFailed t b 2 else b

/-- The presence count and the CHBAT of the tick, for the next (R258, R259); after a change of PACK_DET no PACK_ID is the last one
(R274). -/
def packTick (b : Blk) : Blk :=
  let low := b.sig .packDet != 0
  { b with
    keep := { b.keep with pdLow := runN b.keep.pdLow low, pdWas := low, vbatPrev := b.chbatMv.toNat }
    auth := { b.auth with last := if low = b.keep.pdWas then b.auth.last else none } }

end Sys2Proof.Machine
end

