-- ==== Sys2Proof/Machine/Gauge.lean ====
section
/-! DEFINITION. The gauge of spec/10_keepalive_battery.md (R260 to R271) and Pilot's rest windows (R266). -/
namespace Sys2Proof.Machine

/-- The samples of the tick before in the sums of a round: each channel that was delivered in it, poisoned ones left out. -/
def GSum.take (s : GSum) (t : Nat) (b : Blk) : GSum :=
  let new (c : Nat) : Bool := (b.sample c).tk == t && !(b.sample c).psn
  let of (c : Nat) : Int := if new c then b.cal c else 0
  { i := s.i + of 0x79, n := s.n + b2n (new 0x79), t := s.t + of 0x8C, tn := s.tn + b2n (new 0x8C)
    v := (List.range 4).map fun k => s.v.getD k 0 + of (0x7C + k)
    vn := (List.range 4).map fun k => s.vn.getD k 0 + b2n (new (0x7C + k))
    sat := s.sat || decide (32767 ≤ (of 0x79).natAbs) }

/-- One tick of counting, on the samples of the tick before (R260, R261), while the ME runs (R174); a poisoned charge counts nothing and
raises ENGINE_POISON (R327); at the first tick of a round the sums of the
round before are set apart (R262). -/
def gaugeTick (t : Nat) (b : Blk) : Blk :=
  let (word, b) := if b.meOn then taskRead t b 6 0 else (false, b)
  let b := if word then taskPoison t b 6 0 4 .none else b
  let g := b.gauge
  let new := b.meOn && !word && (b.sample 0x79).tk == t && !(b.sample 0x79).psn
  let dq := if new then toInt (b.packAmps / 2 * 65536) else 0
  let q := clampI 0 (g.fcc * 65536) (g.q + dq)
  let s := if b.meOn then g.now.take t b else g.now
  let g := if t % 2048 = 0 then { g with now := {}, last := s } else { g with now := s }
  let b := chargeShow { b with gauge := { g with q := q, cycle := g.cycle.map fun c => { c with dq := c.dq + dq } } }
  if new ∧ 32767 ≤ (b.cal 0x79).natAbs then b.flag GAUGE_FLAGS.IRANGE 0 else b

/-! Round means -/

/-- The mean pack current of a round, in A. -/
def GSum.amps (b : Blk) (s : GSum) : Rat := quot (quot (s.i * 2) s.n) (b.f ADC_PSHUNT.SHUNT 0)

/-- The mean pack temperature of a round, in °C. -/
def GSum.temp (s : GSum) : Rat := quot s.t s.tn / 100

/-- The mean voltages of the cells in use, in mV. -/
def GSum.cellMv (b : Blk) (s : GSum) : List Rat := (List.range (cells b)).map fun k => quot (s.v.getD k 0 : Rat) (s.vn.getD k 0) / 4

/-- The mean cell voltage in mV. -/
def GSum.meanMv (b : Blk) (s : GSum) : Rat := (s.cellMv b).sum / cells b

/-- The resistance of the pack at a temperature, in 0.1 mΩ (R262). -/
def rInt (b : Blk) (temp : Rat) : Rat :=
  let soc := socOf b
  let band := if soc < 1/5 then 0 else if soc < 2/5 then 1 else if soc < 3/5 then 2 else if soc < 4/5 then 3 else 4
  (b.f GAUGE_RINT.R band : Rat) * clampQ (1/2) 4 (1 + (b.f GAUGE_RT.RT_COEF 0 : Rat) / 1000 * (25 - temp))

/-- What a current takes off or adds to a cell voltage, in mV (R262). -/
def compMv (b : Blk) (s : GSum) : Rat := s.amps b * rInt b s.temp / 10 / cells b

/-- SOC from the OCV table at a cell voltage in mV and a temperature; the table's ends hold beyond them (R262). -/
def ocvSoc (b : Blk) (mv temp : Rat) : Rat :=
  let v := mv + (b.fi GAUGE_OCV_TC.TC 0 : Rat) * (25 - temp) / 1000
  let at_ (k : Nat) : Rat := b.f GAUGE_OCV.MV k
  if v ≤ at_ 0 then 0
  else if at_ 10 ≤ v then 1
  else
    match (List.range 10).find? fun k => decide (at_ k ≤ v ∧ v < at_ (k + 1)) with
    | some k => ((k : Rat) + quot (v - at_ k) (at_ (k + 1) - at_ k)) / 10
    | none => 0

/-! Learning (R263, R264) -/

/-- The result of a cycle that ends: reasons in the order of R263. -/
def cycleResult (b : Blk) (c : Cycle) (dq soc : Rat) : Nat :=
  let hours : Rat := (c.rounds * roundUs : Nat) / 3600000000
  let rate := quot (if dq < 0 then -dq else dq) hours
  let design : Rat := designCap b
  let ds := soc - c.soc
  if rate < design / 20 ∨ design / 2 < rate then 4
  else if (if ds < 0 then -ds else ds) < 7/10 then 7 else 1

/-- The cycle that an anchor at SOC `soc` ends: FCC learned when it qualifies (R264). -/
def learnEnd (b : Blk) (soc : Rat) : Blk :=
  match b.gauge.cycle with
  | none => b
  | some c =>
    let dq := (c.dq : Rat) / 65536
    let r := cycleResult b c dq soc
    if r ≠ 1 then b.setF GAUGE_LEARN.LAST_RESULT 0 r
    else
      let fcc : Rat := b.gauge.fcc
      let design : Rat := designCap b
      let ratio := dq / (soc - c.soc)
      let mid := (3 * fcc + (if ratio < 0 then -ratio else ratio)) / 4
      let capped := clampQ (fcc * 9 / 10) (fcc * 11 / 10) mid
      let b := { b with gauge := { b.gauge with fcc := toInt (clampQ (design / 2) (design * 11 / 10) capped) } }
      let b := b.setF GAUGE_LEARN.LAST_RESULT 0 (if capped = mid then 1 else 2)
      (b.bump GAUGE_UNC.CYCLES 0).setF GAUGE_FLAGS.UNLEARNED 0 0

/-- An anchor: SOC and uncertainty (in %) set, the running cycle ended and the next begun (R262, R263). -/
def anchor (b : Blk) (soc unc : Rat) : Blk :=
  let b := learnEnd b soc
  let q := toInt (soc * b.gauge.fcc * 65536)
  gaugeShow (learnShow { b with gauge := { b.gauge with q := q, unc := unc, cycle := some { soc := soc } } })

/-- The uncertainty of an OCV anchor, in %. -/
def ocvUnc (b : Blk) : Rat := (b.f GAUGE_CFG.OCV_UNC 0 : Rat) / 10

/-- A rest of T_REST minutes has qualified (R262). -/
def restAnchor (b : Blk) : Blk :=
  let g := b.gauge
  if g.rest = 0 ∨ g.rest * roundUs < b.f GAUGE_REST.T_REST 0 * 60000000 then b
  else
    let soc := ocvSoc b (g.last.meanMv b) g.last.temp
    anchor { b with gauge := { g with rest := 0, age := 0, ageBase := 0, noRest := 0, restSeen := true } } soc (ocvUnc b)

/-- EOD and EOC recognised (R262); 3 marks a count that has been acted on. -/
def gaugeEod (b : Blk) : Blk :=
  if b.gauge.eod = 2 then anchor ({ b with gauge := { b.gauge with eod := 3 } }.setF GAUGE_FLAGS.EOD 0 1) 0 1 else b
def gaugeEoc (b : Blk) : Blk :=
  if b.gauge.eoc = 2 then anchor ({ b with gauge := { b.gauge with eoc := 3 } }.setF GAUGE_FLAGS.EOC 0 1) 1 1 else b

/-- REST_AGE has reached another 72 h (R265). -/
def gaugeNoRest (t : Nat) (b : Blk) : Blk :=
  let g := b.gauge
  if 259200 * (g.noRest + 1) ≤ b.f GAUGE_REST_AGE.S 0 then
    { (b.raise t 38 0xFFFF).flag GAUGE_FLAGS.NOREST 0 with gauge := { g with noRest := g.noRest + 1 } }
  else b

/-! The evaluation of a round (R262, R263, R265) -/

/-- The running cycle over one round: direction, interruptions and disqualification (R263). -/
def cycleRound (b : Blk) (amps temp : Rat) : Blk :=
  match b.gauge.cycle with
  | none => b
  | some c =>
    let restA : Rat := (b.f GAUGE_REST.REST_I 0 : Rat) / 1000
    let still := decide ((if amps < 0 then -amps else amps) ≤ restA)
    let way : Nat := if amps < 0 then 2 else 1
    let dir := if c.dir = 0 ∧ !still then way else c.dir
    let away := runN c.away (still || (dir != 0 && way != dir))
    let intr := if away = 58594 then c.intr + 1 else c.intr
    let c := { c with rounds := c.rounds + 1, dir := dir, away := away, intr := intr }
    let bad := if temp < 10 ∨ 45 < temp then 3 else if 2 < intr then 5
      else if 172800000000 < c.rounds * roundUs then 6 else 0
    let b := if bad = 0 then b else b.setF GAUGE_LEARN.LAST_RESULT 0 bad
    learnShow { b with gauge := { b.gauge with cycle := if bad = 0 then some c else none } }

/-- The counts of rest, EOD and EOC on the means of the round before (R262). -/
def gaugeCounts (b : Blk) (s : GSum) : Blk :=
  let g := b.gauge
  let amps := s.amps b
  let ma := amps * 1000
  let comp := compMv b s
  let vs := (s.cellMv b).map fun v => v - comp
  let lo := vs.foldl min (vs.headD 0)
  let hi := vs.foldl max (vs.headD 0)
  let up (n : Nat) (p : Bool) : Nat := if p then (if n < 2 then n + 1 else n) else 0
  let still := decide ((if ma < 0 then -ma else ma) ≤ b.f GAUGE_REST.REST_I 0)
  let g := { g with
    rest := runN g.rest still
    eod := up g.eod (decide (amps < 0 ∧ lo < b.f GAUGE_END.VEOD 0))
    eoc := up g.eoc (decide ((b.f GAUGE_END.VEOC 0 : Rat) ≤ hi ∧ 0 < ma ∧ ma ≤ b.f GAUGE_TAPER.I_TAPER 0)) }
  let b := { b with gauge := g }
  let b := b.setOn GAUGE_FLAGS.REST 0 (decide (0 < g.rest))
  let b := if 0 < amps then b.setF GAUGE_FLAGS.EOD 0 0 else b
  if amps < 0 then b.setF GAUGE_FLAGS.EOC 0 0 else b

/-- The work of the gauge at the start of a round: SOC at a start (R267), uncertainty growth of 0.5 % per hour, REST_AGE,
saturated samples, counts and the running cycle. -/
def gaugeRound (b : Blk) : Blk :=
  let s := b.gauge.last
  if s.n = 0 then b
  else
    let g := b.gauge
    let b :=
      if g.ocv = 0 then b
      else
        let mv := s.meanMv b - (if g.ocv = 2 then compMv b s else 0)
        { b with gauge := { g with ocv := 0, q := toInt (ocvSoc b mv s.temp * g.fcc * 65536) } }
    let unc := b.gauge.unc + (roundUs : Rat) / 7200000000 + (if s.sat then 1 else 0)
    let b := { b with gauge := { b.gauge with unc := unc, age := b.gauge.age + 1 } }
    gaugeShow (cycleRound (gaugeCounts b s) (s.amps b) s.temp)

/-- The gauge at the end of BOOT (R267, R271): DESIGN_CAP as FCC, everything unlearned, SOC due from the OCV table.
`stby` = the known standby time in s. -/
def gaugeBoot (b : Blk) (stby : Option Nat) : Blk :=
  let rested := match stby with
    | some s => decide (b.f GAUGE_REST.T_REST 0 * 60 ≤ s)
    | none => false
  let unc : Rat := match stby with
    | some s => if s < b.f GAUGE_REST.T_REST 0 * 60 then ocvUnc b + (s : Rat) / 7200 else ocvUnc b
    | none => ocvUnc b
  let g : Gauge := { fcc := designCap b, unc := unc, ocv := if rested then 2 else 1 }
  let b := { b with gauge := g }
  let b := ((b.setF GAUGE_FLAGS.UNLEARNED 0 1).setF GAUGE_FLAGS.RESTORED 0 0).setF GAUGE_UNC.CYCLES 0 0
  let b := b.setF GAUGE_LEARN.LAST_RESULT 0 0
  gaugeShow (learnShow (forAll 16 b fun k b => b.setF GAUGE_STAGE.WORD k 0))

/-! Save and restore (R268 to R270) -/

/-- The GAUGE_STATE block of the present state (table GAUGE_STATE block). -/
def gaugeBlock (b : Blk) : List Nat :=
  let g := b.gauge
  let body := [0x01, b2n (!b.on GAUGE_FLAGS.UNLEARNED 0)] ++ leBytes 2 (b.f GAUGE_UNC.CYCLES 0) ++
    leBytes 4 (b.f PACK_ID.PACK_ID 0) ++ leInt 8 g.fcc ++ leBytes 4 (clampI 0 0xFFFFFFFF (toInt (g.unc * 1000))).toNat ++
    leBytes 4 (b.f GAUGE_REST_AGE.S 0) ++ leBytes 4 (b.f BIV_RTC_EPOCH.SECONDS 0) ++
    leBytes 4 (b.f GAUGE_CFG.DESIGN_CAP 0) ++ List.replicate 28 0
  body ++ leBytes 4 (crc32 body)

/-- All 16 words latched at one edge (R269). -/
def gaugeSaveLatch (b : Blk) : Blk :=
  let l := gaugeBlock b
  forAll 16 b fun k b => b.setF GAUGE_SAVE.WORD k (leAt l (4 * k) 4)

/-- The staged block as bytes. -/
def gaugeStage (b : Blk) : List Nat := (List.range 16).flatMap fun k => leBytes 4 (b.f GAUGE_STAGE.WORD k)

/-- The first check of R270 that fails, 0 = none. -/
def commitErr (b : Blk) (l : List Nat) (crc : Nat) : Nat :=
  if crc32 (l.take 60) ≠ leAt l 60 4 then 1
  else if crc ≠ leAt l 60 4 then 2
  else if l.getD 0 0 ≠ 1 then 3
  else if leAt l 28 4 ≠ b.f GAUGE_CFG.DESIGN_CAP 0 then 4
  else if b.on PACK_CFG.AUTH_REQ 0 ∧ (leAt l 4 4 ≠ b.f PACK_ID.PACK_ID 0 ∨ b.f PACK_AUTH_STAT.AUTH 0 ≠ 2) then 5
  else 0

/-- A commit (R270); `osf` = OSF set, so that the time since SAVE_TIME is taken as 0. -/
def gaugeCommit (b : Blk) (osf : Bool) (crc : Nat) : Blk :=
  let l := gaugeStage b
  let e := commitErr b l crc
  let b := b.setF GAUGE_RST.RST_ERR 0 e
  let b := forAll 16 b fun k b => b.setF GAUGE_STAGE.WORD k 0
  if e ≠ 0 then b
  else
    let dt := if osf then 0 else b.f BIV_RTC_EPOCH.SECONDS 0 - leAt l 24 4
    let unc : Rat := (leAt l 16 4 : Rat) / 1000 + (dt : Rat) / 7200
    let g := b.gauge
    let fcc := leIntAt l 8 8
    let b := { b with gauge := { g with
      fcc := fcc
      q := min g.q (fcc * 65536)
      unc := max unc g.unc
      ageBase := if g.restSeen then g.ageBase else leAt l 20 4 + dt
      age := if g.restSeen then g.age else 0 } }
    let b := b.setF GAUGE_UNC.CYCLES 0 (leAt l 2 2)
    let b := ((b.setF GAUGE_FLAGS.RESTORED 0 1).setF GAUGE_FLAGS.UNLEARNED 0 0).setF GAUGE_FLAGS.INVALID 0 0
    gaugeShow b

/-! Rest windows (R266) -/

/-- A hand-over during a rest window ends it; Pilot tries again after 1 h. -/
def restWindowBreak (t : Nat) (b : Blk) : Blk :=
  if b.restWin.ends.isSome ∧ b.hst ≠ hSOURCE then
    { b.setF CHG_CTL.SUSPEND 0 0 with restWin := { ends := none, retry := t + 7200000000 } }
  else b

/-- Pilot's timing of a window: its end after 20 minutes, or its start when no rest has qualified for 24 h (R266). -/
def restWindowTimer (t : Nat) (b : Blk) : Blk :=
  match b.restWin.ends with
  | some e =>
    if e ≤ t then chgResume t { b with restWin := { ends := none, retry := t + 7200000000 } } else b
  | none =>
    if b.restWin.retry ≤ t ∧ 86400 ≤ b.f GAUGE_REST_AGE.S 0 ∧ b.hst = hSOURCE ∧ (b.dev = .ready ∨ b.dev = .run) then
      chgSuspend t { b with restWin := { b.restWin with ends := some (t + 2400000000) } }
    else b

end Sys2Proof.Machine
end

