-- ==== Sys2Proof/Machine/Bivouac.lean ====
section
/-! DEFINITION. The Bivouac domain: calendar, alarm, wake, standby and retained RAM (spec/11_bivouac.md), with the twin
block of spec/03_berths_protection.md (R84 to R86, R93). -/
namespace Sys2Proof.Machine

/-! Writers and readers -/

/-- The place of a reader or writer in the tables of stages and shadows: Pilot, Keeper and the REG commands share one. -/
def Writer.idx : Writer → Nat
  | .port p => p
  | _ => 4

/-- The class of a port (R387): 0 OBSERVER, 1 OPERATOR, 2 OWNER, 3 DISABLED. -/
def portClass (b : Blk) (p : Nat) : Nat := b.f HOST_PORT_CFG.CLASS p

/-- A write of a kind that Pilot and OPERATOR- and OWNER-class ports may make. -/
def mayOperate (b : Blk) : Writer → Bool
  | .port p => portClass b p == 1 || portClass b p == 2
  | .tender => false
  | _ => true

/-! Calendar (R279 to R283) -/

/-- The length of a month of a year counted from 2000. -/
def monthLen (year month : Nat) : Nat :=
  if month = 2 then (if year % 4 = 0 then 29 else 28)
  else if month = 4 ∨ month = 6 ∨ month = 9 ∨ month = 11 then 30 else 31

/-- A calendar time in seconds since 2000-01-01 00:00:00 (R283). -/
def Cal.epoch (c : Cal) : Nat :=
  let years := c.year * 365 + (c.year + 3) / 4
  let months := ((List.range (c.month - 1)).map fun m => monthLen c.year (m + 1)).sum
  (((years + months + (c.day - 1)) * 24 + c.hour) * 60 + c.min) * 60 + c.sec

/-- The checks of a stage (R281). -/
def Cal.valid (c : Cal) : Bool :=
  decide (c.sec ≤ 59 ∧ c.min ≤ 59 ∧ c.hour ≤ 23 ∧ 1 ≤ c.month ∧ c.month ≤ 12 ∧ 1 ≤ c.day ∧ c.day ≤ monthLen c.year c.month
    ∧ c.year ≤ 99 ∧ c.wd ≤ 6)

/-- The day after; `true` = the year 2099 has ended (R279). -/
def Cal.nextDay (c : Cal) : Cal × Bool :=
  let c := { c with wd := if 6 ≤ c.wd then 0 else c.wd + 1, hour := 0, min := 0, sec := 0 }
  if c.day < monthLen c.year c.month then ({ c with day := c.day + 1 }, false)
  else if c.month < 12 then ({ c with day := 1, month := c.month + 1 }, false)
  else if c.year < 99 then ({ c with day := 1, month := 1, year := c.year + 1 }, false)
  else ({ c with day := 1, month := 1, year := 0 }, true)

/-- One second counted, with its carries (R279, R280). -/
def Cal.tick (c : Cal) : Cal × Bool :=
  if c.sec < 59 then ({ c with sec := c.sec + 1 }, false)
  else if c.min < 59 then ({ c with sec := 0, min := c.min + 1 }, false)
  else if c.hour < 23 then ({ c with sec := 0, min := 0, hour := c.hour + 1 }, false)
  else c.nextDay

/-! Wake sources and WAKE_OUT (R288 to R290) -/

/-- What BIV_WAKEOUT shows of the pin. -/
def wakeOutShow (b : Blk) : Blk :=
  b.setOn BIV_WAKEOUT.PIN 0 (b.on BIV_WAKEOUT.WO_HOLD 0 || b.on BIV_WAKEOUT.WO_LATCH 0 ||
    (b.on BIV_WAKEOUT.WAKE_IN 0 && b.on BIV_WAKE_CFG.WO_WAKEIN 0))

/-- The wake sources present as levels: bit 0 ALARM, bit 1 WAKE_IN (table Wake sources). -/
def wakeLevels (b : Blk) : Nat := b.f BIV_ALARM_CTL.ALARM_FLAG 0 + 2 * b.f BIV_WAKEOUT.WAKE_IN 0

/-- The enabled sources among those present set their bits in WAKE_CAUSE (R289). -/
def wakeCause (b : Blk) (m : Nat) : Blk :=
  wakeOutShow (b.flag BIV_WAKE_CAUSE.CAUSE 0 (m &&& b.f BIV_WAKE_CFG.WAKE_EN 0))

/-- The calendar replaced; a change of the epoch past ALARM fires the alarm, but not one written too late before the count has wrapped
(R283, R287, R290). -/
def calSet (b : Blk) (c : Cal) : Blk :=
  let old : Nat := b.f BIV_RTC_EPOCH.SECONDS 0
  let now : Nat := c.epoch
  let al : Nat := b.f BIV_ALARM.ALARM 0
  let b : Blk := { b.setF BIV_RTC_EPOCH.SECONDS 0 now with biv := { b.biv with cal := c } }
  if b.on BIV_ALARM_CTL.ALARM_EN 0 ∧ old < al ∧ al ≤ now ∧ !b.biv.past then
    let b := b.flag BIV_ALARM_CTL.ALARM_FLAG 0
    wakeCause (if b.on BIV_WAKE_CFG.WO_ALARM 0 then b.flag BIV_WAKEOUT.WO_LATCH 0 else b) 1
  else b

/-- From cycle `pos` of a window, the prescaler `need` counts short of a second, with a correction of `s` at the cycles listed: the cycle
after the one that completes the second, and the counts beyond it (R284). -/
def secondEnd (s : Int) (need pos : Nat) : List Nat → Nat × Nat
  | [] => (pos + need, 0)
  | c :: r =>
    if c < pos then secondEnd s need pos r
    else if need ≤ c - pos then (pos + need, 0)
    else
      let left := need - (c - pos)
      if s < 0 then secondEnd s left (c + 1) r
      else if left ≤ 2 then (c + 1, 2 - left)
      else secondEnd s (left - 2) (c + 1) r

/-- A commit that will be taken is due at the next BIV cycle (R281). -/
def commitDue (b : Blk) : Bool := b.biv.sets.any fun i => (Tab.get b.biv.stage {} i).valid

/-- The prescaler completes a second: the calendar counts it, unless the oscillator is stopped (R279, R286). A commit that is due comes in
the next BIV cycle, so in this one, and the step is dropped (R281). -/
def rtcSecond (b : Blk) : Blk :=
  if b.biv.osc ∧ !commitDue b then
    let e := secondEnd b.biv.trim (32768 - b.biv.sub) b.biv.cyc b.biv.corr
    let b := { b with biv := { b.biv with cyc := e.1, sub := e.2 } }
    let r := b.biv.cal.tick
    let b := calSet b r.1
    if r.2 then { b with biv := { b.biv with wrap := true, past := false } } else b
  else b

/-- A write of calendar field `k` (0 SEC to 6 WEEKDAY) to the writer's stage (R281). -/
def rtcStageWrite (b : Blk) (w : Writer) (k v : Nat) : Blk :=
  if !mayOperate b w then b
  else
    let c := Tab.get b.biv.stage {} w.idx
    let c := match k with
      | 0 => { c with sec := v % 64 }
      | 1 => { c with min := v % 64 }
      | 2 => { c with hour := v % 32 }
      | 3 => { c with day := v % 32 }
      | 4 => { c with month := v % 16 }
      | 5 => { c with year := v % 128 }
      | 6 => { c with wd := v % 8 }
      | _ => c
    { b with biv := { b.biv with stage := Tab.put b.biv.stage {} w.idx c } }

/-- A write of 1 to SET (R281). -/
def rtcSet (b : Blk) (w : Writer) : Blk :=
  if mayOperate b w then { b with biv := { b.biv with sets := b.biv.sets ++ [w.idx] } } else b

/-- The bit address of RTC_STATUS, under which its W1C bits are noted (R6). -/
def rtcStatusKey : Nat := 0x4010001C * 8

/-- A write of RTC_STATUS: SET, and the bits cleared by writing 1 (R6, R281, R286). -/
def rtcStatusWrite (b : Blk) (w : Writer) (v : Nat) : Blk :=
  if !mayOperate b w then b
  else
    let held := b.noted rtcStatusKey
    let b := if bit v 2 ∧ !bit held 2 ∧ w ≠ .keeper then { b with biv := { b.biv with osf := false } } else b
    let b := if bit v 1 ∧ !bit held 1 then { b with biv := { b.biv with wrRej := false } } else b
    if bit v 0 then rtcSet b w else b

/-- One stage committed or refused; a commit restarts the sub-second count (R281). -/
def commitStage (b : Blk) (i : Nat) : Blk :=
  let c := Tab.get b.biv.stage {} i
  if c.valid then
    let b := calSet b c
    let gone := Config.freeCycles b.free % (32769 - b.biv.sub)
    { b with
      free := b.free + 1
      biv := { b.biv with wrRej := false, wrap := false, sub := 0, cyc := b.biv.cyc + gone } }
  else { b.note rtcStatusKey 2 with biv := { b.biv with wrRej := true } }

/-- The BIV cycle after a SET: every commit that is due, in order of request (R281). -/
def rtcCommit (b : Blk) : Blk := b.biv.sets.foldl commitStage { b with biv := { b.biv with sets := [] } }

/-! Reads of the calendar set (R282) -/

/-- RTC_STATUS but for FROZEN. -/
def rtcStatus (b : Blk) : Nat :=
  b2n b.biv.wrap * 64 + b2n b.biv.onVbiv * 32 + b2n b.biv.osf * 4 + b2n b.biv.wrRej * 2

/-- Field `k` of a calendar (0 SEC to 6 WEEKDAY). -/
def Cal.field (c : Cal) (k : Nat) : Nat :=
  match k with
  | 0 => c.sec
  | 1 => c.min
  | 2 => c.hour
  | 3 => c.day
  | 4 => c.month
  | 5 => c.year
  | _ => c.wd

/-- A word returned to a reader. -/
def Blk.give (b : Blk) (r v : Nat) : Blk := { b with rd := Tab.put b.rd 0 r v }

/-- The frozen shadow of a reader. -/
def rtcShadow (b : Blk) (r : Nat) : Option RtcShadow := Tab.get b.biv.shadow none r

/-- A reader's shadow frozen, when it is not. -/
def rtcFreeze (b : Blk) (r : Nat) : Blk :=
  match rtcShadow b r with
  | some _ => b
  | none =>
    let s : RtcShadow := ⟨b.biv.cal, rtcStatus b, b.f BIV_RTC_EPOCH.SECONDS 0⟩
    { b with biv := { b.biv with shadow := Tab.put b.biv.shadow none r (some s) } }

/-- A shadow released. -/
def rtcRelease (b : Blk) (r : Nat) : Blk := { b with biv := { b.biv with shadow := Tab.put b.biv.shadow none r none } }

/-- The word a read of register `k` of the set (0 RTC_SEC to 7 RTC_STATUS, 8 BIV_RTC_EPOCH) returns to reader `r`. -/
def rtcWord (b : Blk) (r k : Nat) : Nat :=
  match rtcShadow b r with
  | some s => if k < 7 then s.cal.field k else if k = 7 then s.status + 16 else s.epoch
  | none => if k < 7 then b.biv.cal.field k else if k = 7 then rtcStatus b else b.f BIV_RTC_EPOCH.SECONDS 0

/-- A read of a register of the set: the first freezes the shadow, that of RTC_STATUS releases it (R282). -/
def rtcRead (b : Blk) (r k : Nat) : Blk :=
  let v := rtcWord b r k
  let b := if k < 8 then rtcFreeze b r else b
  (if k = 7 then rtcRelease b r else b).give r v

/-! Trim, measurement, oscillator (R284 to R286) -/

/-- The cycles of a window at which a TRIM corrects the prescaler (R284). -/
def trimCycles (trim : Int) : List Nat :=
  (List.range trim.natAbs).map fun (k : Nat) => (roundHalfUp ((k : Rat) * 1048576 / trim.natAbs)).toNat

/-- The start of a 32 s window: what is left of the old one counted with its corrections; TRIM taken, at most 512 in magnitude (R284). -/
def trimWindow (b : Blk) : Blk :=
  let t := clampI (-512) 512 (b.fi BIV_TRIM.TRIM 0)
  let rest := 1048576 - b.biv.cyc
  let fix : Nat := (b.biv.corr.filter fun c => decide (b.biv.cyc ≤ c)).length
  let sub := if b.biv.trim < 0 then b.biv.sub + rest - fix else b.biv.sub + rest + fix
  { b with biv := { b.biv with trim := t, corr := trimCycles t, cyc := b.biv.cyc - 1048576, sub := min sub 32768 } }

/-- A write of 1 to MEAS_START (R285). -/
def measStart (t : Nat) (b : Blk) : Blk :=
  if b.on CLK_STATUS.TICK_SRC 0 then b.flag BIV_MEAS.MEAS_ERR 0
  else if b.dev = .run then { b with biv := { b.biv with meas := some t } } else b

/-- The end of a measurement (R285). -/
def measDone (t : Nat) (b : Blk) : Blk :=
  match b.biv.meas with
  | some t0 =>
    { (b.setF BIV_MEAS.TICKS 0 (t - t0)).flag BIV_MEAS.MEAS_DONE 0 with biv := { b.biv with meas := none } }
  | none => b

/-- The oscillator stops: OSF, and in RUN the source BIV_OSF (R286). -/
def oscStopped (t : Nat) (b : Blk) : Blk :=
  let b := { b.note rtcStatusKey 4 with biv := { b.biv with osf := true, osc := false } }
  if b.dev = .run then b.raise t 35 0xFFFF else b
def oscRestart (b : Blk) : Blk := { b with biv := { b.biv with osc := true } }

/-! Blocks the device writes in Bivouac RAM (R295) -/

/-- Bytes stored in Bivouac RAM by the device. -/
def ramPut (b : Blk) (off : Nat) (l : List Nat) : Blk :=
  { b with biv := { b.biv with ram := b.biv.ram.take off ++ l.map (· % 256) ++ b.biv.ram.drop (off + l.length) } }

/-- The shutdown block written with a reason (R295). -/
def shutdownBlock (t : Nat) (b : Blk) (reason : Nat) : Blk :=
  let src := if b.on FIRST_FAULT.VALID 0 then b.f FIRST_FAULT.SRC 0 else 0xFF
  let body := [reason, src, b.dev.code, 0] ++ leBytes 4 (b.f BIV_RTC_EPOCH.SECONDS 0) ++ leBytes 8 t
  ramPut b 0xA4 (body ++ leBytes 2 (crc16 body))

/-! Supply (R276 to R278) -/

/-- WO_HOLD and WO_LATCH cleared at an entry to STANDBY or device OFF (R290). -/
def wakeOutClear (b : Blk) : Blk := wakeOutShow ((b.setF BIV_WAKEOUT.WO_HOLD 0 0).setF BIV_WAKEOUT.WO_LATCH 0 0)

/-- A change of the domain's supply in tick `t`; the first to VBIV is stamped (R276, R278); without VNET and VKB the device is in device
OFF (R293), with the shutdown block of that entry (R295). -/
def bivSource (t : Nat) (b : Blk) (vbiv : Bool) : Blk :=
  let b :=
    if vbiv ∧ !b.biv.onVbiv ∧ !b.on BIV_SWITCH_CTL.SW_VALID 0 then
      (b.setF BIV_SWITCH_STAMP.SECONDS 0 (b.f BIV_RTC_EPOCH.SECONDS 0)).setF BIV_SWITCH_CTL.SW_VALID 0 1
    else b
  let b := { b with biv := { b.biv with onVbiv := vbiv } }
  if vbiv ∧ (b.dev = .standby ∨ b.dev = .powerup) then { kTo (wakeOutClear (shutdownBlock t b 2)) kOFF with dev := .off } else b

/-- A write of 1 to SW_CLR (R278). -/
def switchClear (b : Blk) : Blk := b.setF BIV_SWITCH_CTL.SW_VALID 0 0

/-- The registers of the domain, 0x4010_0000 to 0x4010_00FF, by key of the register file. -/
def bivKey (k : Nat) : Bool := decide (0x40100000 * 8 ≤ k ∧ k < 0x40100100 * 8)

/-- The power-up of the domain after its reset: calendar and configuration at their reset values, OSF set, RAM undefined
(R277); set in RUN, it raises BIV_OSF (R286). -/
def bivReset (t : Nat) (b : Blk) : Blk :=
  { (if b.dev = .run then b.raise t 35 0xFFFF else b) with
    regs := b.regs.filter fun p => !bivKey p.1
    free := b.free + 256
    biv := { ram := (List.range 256).map fun i => Config.freeByte (b.free + i) % 256, onVbiv := b.biv.onVbiv } }

/-! Retained RAM (R294, R295, R84) -/

/-- A byte written by a register access: only in the user area, by a writer that may (table Bivouac RAM layout). -/
def ramWrite (b : Blk) (w : Writer) (off v : Nat) : Blk :=
  if 0xC0 ≤ off ∧ off < 0x100 ∧ mayOperate b w then ramPut b off [v] else b

/-- A byte read: the reserved bytes read 0. -/
def ramByte (b : Blk) (off : Nat) : Nat :=
  if off = 0xA2 ∨ off = 0xA3 ∨ off = 0xB6 ∨ off = 0xB7 then 0 else b.biv.ram.getD off 0

/-- The shutdown block as held, and whether its CRC is right. -/
def shutdownHeld (b : Blk) : List Nat := slice b.biv.ram 0xA4 18
def shutdownOk (b : Blk) : Bool := crc16 ((shutdownHeld b).take 16) == leAt (shutdownHeld b) 16 2

/-- The ambient of a sensor in 0.1 °C. -/
def ambient01 (b : Blk) (s : Nat) : Int := toInt ((b.temp s : Rat) / 100)

/-- A rise over ambient in 0.1 K. -/
def rise01 (node ta : Int) : Int := clampI (-32768) 32767 (toInt (((node : Rat) / 65536 - ta) / 100))

/-- A start after POWERUP has still to read the twin block (R84, R93). -/
def twinUnread (b : Blk) : Bool := b.dev == .boot && b.fresh && decide (b.bootStep < 6)

/-- The twin block written (R84, table Twin block contents); one that a start has still to read stands. -/
def twinBlock (b : Blk) : Blk :=
  if twinUnread b then b else
  let rises (g : Berth → Int) := (List.range 32).flatMap fun nn => leInt 2 (rise01 (g (b.brt nn)) (twinAmbient b nn))
  let body := rises (·.tc) ++ rises (·.tb) ++ (List.range 12).flatMap (fun s => leInt 2 (ambient01 b s)) ++
    leBytes 4 b.lockedMap ++ leBytes 4 (b.f BIV_RTC_EPOCH.SECONDS 0)
  ramPut b 0 (body ++ leBytes 2 (crc16 body))

/-- The twin block's CRC is right. -/
def twinBlockOk (b : Blk) : Bool := crc16 (b.biv.ram.take 160) == leAt b.biv.ram 160 2

/-- The time constant of R85 in s. -/
def twinTau (b : Blk) (nn : Nat) : Rat :=
  ((b.f BERTH_TW_C.CC nn + b.f BERTH_TW_C.CB nn : Nat) : Rat) / 10 *
  (((b.f BERTH_TW_RTH.RCB nn + b.f BERTH_TW_RTH.RBA nn : Nat) : Rat) / 1000)

/-- `exp(-q)` for `q` of 0 or more, as the reciprocal of 300 terms of the series of `exp(q)`, whose error is far below the resolution of
a twin; beyond `q` = 64, where every restored rise is below that resolution, the value at 64. -/
def expNeg (q : Rat) : Rat :=
  1 / (List.range 300).foldr (fun (k : Nat) (s : Rat) => 1 + min q 64 / ((k : Rat) + 1) * s) 1

/-- A twin at start: restored with decay, or initialised (R85, R86, R468). -/
def twinStart (b : Blk) (nn : Nat) : Blk :=
  let ta := twinAmbient b nn
  let ok := twinBlockOk b
  let stamp := leAt b.biv.ram 156 4
  let now := b.f BIV_RTC_EPOCH.SECONDS 0
  let dt := if b.biv.osf then 0 else now - stamp
  let code := if !ok then 2 else if 0 < dt then 0 else 1
  let x := b.brt nn
  let rise (at_ : Nat) : Rat := (leIntAt b.biv.ram (at_ + 2 * nn) 2 : Rat) * 6553600 *
    (if dt = 0 then 1 else expNeg ((dt : Rat) / twinTau b nn))
  let margin : Int := b.f BERTH_TW_AMB.MARGIN nn * 6553600
  let x :=
    if !twinConfigured b nn then { x with tc := ta * 65536, tb := ta * 65536 }
    else if ok then { x with tc := ta * 65536 + toInt (rise 0), tb := ta * 65536 + toInt (rise 64) }
    else { x with tc := ta * 65536 + margin, tb := ta * 65536 + margin }
  twinShow ((b.setBrt nn x).setF BERTH_PSTAT.RESTORE nn code) nn

/-- The twins and the LOCKED map at a start (R85, R86, R93): after POWERUP the map of the twin block; through a Keeper restart the
device keeps its own, which is that of the block brought up to date. -/
def twinsStart (b : Blk) : Blk :=
  let map := if !twinBlockOk b then 0 else if b.fresh then leAt b.biv.ram 152 4 else b.lockedMap
  let b := forAll 32 b fun nn b => twinStart b nn
  forAll 32 { b with lockedMap := map } fun nn b =>
    let b := (b.setF BERTH_PSTAT.RETRY_CNT nn 0).setBrt nn { b.brt nn with winLeft := none }
    if bit map nn then
      (b.setF BERTH_STATE.STATE nn bLOCKED).setF BERTH_STATE.CAUSE nn 8 else b

/-! Wake (R288, R289) -/

/-- The filtered level of WAKE_IN changes (R288). -/
def wakeInAssert (b : Blk) : Blk := wakeCause (b.setF BIV_WAKEOUT.WAKE_IN 0 1) 2
def wakeInRelease (b : Blk) : Blk := wakeOutShow (b.setF BIV_WAKEOUT.WAKE_IN 0 0)

/-- CSN or a start condition; no detector runs in device OFF (R293, table Wake sources). -/
def hostWake (b : Blk) : Blk := if b.dev = .off then b else wakeCause b 8

/-- The 32 Hz sample of STANDBY: monitors, die comparators and the current-wake comparator (R198, R214, Hibernation). -/
def standbySample (b : Blk) : Blk :=
  if b.dev ≠ .standby then b
  else
    let b := dieTick (monsStandby b)
    let above := decide (b.f GAUGE_CFG.IWAKE 0 * b.f ADC_PSHUNT.SHUNT 0 < 200 * (b.sig (.cal 0x79)).natAbs)
    let n := runN b.biv.cur above
    let b := { b with biv := { b.biv with cur := n } }
    if 2 ≤ n then
      wakeCause (if b.on BIV_WAKE_CFG.WO_CURRENT 0 then b.flag BIV_WAKEOUT.WO_LATCH 0 else b) 4
    else b

/-! STANDBY and device OFF (R291 to R293) -/

/-- The conditions of R291. -/
def standbyOk (b : Blk) : Bool :=
  b.dev == .run && (List.range 8).all (fun g => b.gst g != gSTARTING && b.gst g != gSTOPPING) &&
  (b.f BIV_WAKE_CFG.WAKE_EN 0 &&& wakeLevels b) == 0

/-- The entry of R292: every output off, the blocks written, WAKE_OUT cleared, the device powered down. -/
def powerDown (t : Nat) (b : Blk) (reason : Nat) (dst : DevState) : Blk :=
  let b := forAll 64 (scrubStop b) fun o b => outAllOff t b o
  let b := shutdownBlock t (twinBlock b) reason
  let b := wakeOutClear b
  let keep := if dst = .standby ∧ b.on KEEP_CFG.KEEP_STBY 0 then kDIODE else kOFF
  { kTo (cStop b) keep with dev := dst, feed := [], keep := { b.keep with sdStby := false, revOff := false } }

/-- A request for STANDBY (R291). -/
def standbyRequest (t : Nat) (b : Blk) : Blk :=
  if standbyOk b then powerDown t b 1 .standby
  else { b.flag BIV_STBY_CTL.STBY_REJ 0 with keep := { b.keep with sdStby := false } }

/-- A request for device OFF (R293). -/
def offRequest (t : Nat) (b : Blk) : Blk :=
  if standbyOk b then powerDown t b 2 .off else b.flag BIV_STBY_CTL.STBY_REJ 0

/-! Register writes with behaviour of their own -/

/-- A write of ALARM (R287). -/
def alarmWrite (b : Blk) (v : Nat) : Blk :=
  let b := b.setF BIV_ALARM.ALARM 0 v
  let past := decide (v ≤ b.f BIV_RTC_EPOCH.SECONDS 0)
  let b := { b with biv := { b.biv with past := past } }
  if past then b.flag BIV_ALARM_CTL.ALARM_PAST 0 else b

/-- A write of BIV_WAKEOUT: WO_HOLD, and WO_LATCH cleared by a 1, from a writer that may (R290). -/
def wakeOutWrite (b : Blk) (w : Writer) (v : Nat) : Blk :=
  if !mayOperate b w then b
  else
    let b := b.setF BIV_WAKEOUT.WO_HOLD 0 (v % 2)
    wakeOutShow (if bit v 1 then b.unflag BIV_WAKEOUT.WO_LATCH 0 else b)

/-- A write of BIV_STBY_CTL: STBY_REJ cleared, STBY_REQ, OFF_REQ. -/
def stbyWrite (t : Nat) (b : Blk) (v : Nat) : Blk :=
  let b := if bit v 2 then b.unflag BIV_STBY_CTL.STBY_REJ 0 else b
  let b := if bit v 0 then standbyRequest t b else b
  if bit v 1 then offRequest t b else b

/-- At BOOT: the shutdown block copied, then rewritten with REASON NONE (R295). -/
def lastShutdown (t : Nat) (b : Blk) : Blk :=
  let l := shutdownHeld b
  let b := b.setOn BIV_LAST_SD.SD_VALID 0 (shutdownOk b)
  let b := (b.setF BIV_LAST_SD.REASON 0 (l.getD 0 0)).setF BIV_LAST_SD.FAULT_SRC 0 (l.getD 1 0)
  shutdownBlock t (b.setF BIV_LAST_SD.DEV_STATE 0 (l.getD 2 0)) 0

/-- The known standby time at a start, in s: after STANDBY, by the calendar; 0 with OSF (R267, R286). -/
def standbyTime (b : Blk) : Option Nat :=
  let l := shutdownHeld b
  if shutdownOk b ∧ l.getD 0 0 = 1 then
    some (if b.biv.osf then 0 else b.f BIV_RTC_EPOCH.SECONDS 0 - leAt l 4 4)
  else none

end Sys2Proof.Machine
end

