-- ==== Sys2Proof/Machine/Faults.lean ====
section
/-! DEFINITION. Fault collection, the safe state, LANTERN and the Watchman: spec/12_faults_watchdog.md, with the die shutdown
of spec/08_comparators_thermal.md (R214). -/
namespace Sys2Proof.Machine

/-- The severity of a source: 0 NOTE, 1 ALERT, 2 SAFE, 3 HALT; sources 0, 2, 3, 7 and 12 are fixed (R297). -/
def sevOf (b : Blk) (src : Nat) : Nat :=
  if src = 0 ∨ src = 2 then 3
  else if src = 3 ∨ src = 7 ∨ src = 12 then 2
  else b.f FAULT_SEV.SEV (src / 16) / 4 ^ (src % 16) % 4

/-- FAULT_SEV_k as it reads: fixed sources their fixed value, sources 48 to 63 read 0 (R297, table FAULT_SEV). -/
def sevWord (b : Blk) (k : Nat) : Nat :=
  ((List.range 16).map fun j => if 16 * k + j < 48 then sevOf b (16 * k + j) * 4 ^ j else 0).sum

/-- FAULT_STATUS as a 64-bit word. -/
def faultStatus (b : Blk) : Nat := b.f FAULT_STATUS_LO.SRC 0 + b.f FAULT_STATUS_HI.SRC 0 * 2 ^ 32

/-- A source's bit set (R296). -/
def faultSet (b : Blk) (src : Nat) : Blk :=
  if src < 32 then b.setBitF FAULT_STATUS_LO.SRC 0 src else b.setBitF FAULT_STATUS_HI.SRC 0 (src - 32)

/-- FIRST_FAULT as a word. -/
def firstFault (b : Blk) : Nat :=
  b.f FIRST_FAULT.VALID 0 * 2 ^ 31 + b.f FIRST_FAULT.MORE 0 * 2 ^ 30 + b.f FIRST_FAULT.SEV 0 * 2 ^ 28 +
  b.f FIRST_FAULT.SRC 0 * 2 ^ 16 + b.f FIRST_FAULT.TICK16 0

/-- A history entry of an edge (R301). -/
structure Entry where
  src : Nat
  sev : Nat
  detail : Nat
  multi : Bool
  merged : Bool
  deriving DecidableEq, Repr

/-- An entry as the INFO word. -/
def Entry.info (e : Entry) : Nat :=
  b2n e.merged * 2 ^ 31 + b2n e.multi * 2 ^ 30 + e.sev * 2 ^ 28 + e.src * 2 ^ 16 + e.detail

/-- An entry queued over the oldest of 16 (R301). -/
def histPush (t : Nat) (b : Blk) (e : Entry) : Blk :=
  let k := (b.f FAULT_HIST_HEAD.NEWEST 0 + 1) % 16
  let b := (b.setF FAULT_HIST_HEAD.NEWEST 0 k).incr FAULT_HIST_HEAD.TOTAL 0
  let b := b.set64 FAULT_HIST_TICK_LO.TICK FAULT_HIST_TICK_HI.TICK k t
  let b := (b.setOn FAULT_HIST_INFO.MERGED k e.merged).setOn FAULT_HIST_INFO.MULTI k e.multi
  ((b.setF FAULT_HIST_INFO.SEV k e.sev).setF FAULT_HIST_INFO.SRC k e.src).setF FAULT_HIST_INFO.DETAIL k e.detail

/-- A value put into a rising list without repeats. -/
def insNat (x : Nat) : List Nat → List Nat
  | [] => [x]
  | y :: r => if x < y then x :: y :: r else if x = y then y :: r else y :: insNat x r

/-- The details one source was latched with at an edge, rising, each once. -/
def detailsOf (ls : List Line) (src : Nat) : List Nat :=
  ls.foldl (fun l x => if x.src = src then insNat x.detail l else l) []

/-- The sources whose DETAIL does not tell their instances apart: the engine of a poisoned task, pages, clock domains, spares, host ports
and ring sides, monitors, throttle channels, leases, units of the self-test. -/
def eachLine : List Nat := [4, 5, 6, 9, 12, 33, 34, 37, 41, 42, 43, 44, 45]

/-- A source latched for more than one instance (R301). DESIGN CHOICE: of the sources of `eachLine` every line of an edge is an instance. -/
def multiOf (ls : List Line) (src : Nat) : Bool :=
  if eachLine.contains src then decide (1 < (ls.filter (·.src == src)).length) else decide (1 < (detailsOf ls src).length)

/-- The entries of an edge in ascending source ID: one per source with the lowest instance, one per finding of the
Watchman (R301). -/
def entriesOf (b : Blk) (ls : List Line) (merged : Bool) : List Entry :=
  (List.range 48).flatMap fun src =>
    match detailsOf ls src with
    | [] => []
    | d :: r =>
      if src = 2 then (d :: r).map fun d => ⟨src, sevOf b src, d, false, merged⟩
      else [⟨src, sevOf b src, d, multiOf ls src, merged⟩]

/-- The entry of the highest severity, the first of equals. -/
def topEntry (es : List Entry) : Option Entry :=
  es.foldl (fun best e => match best with
    | none => some e
    | some x => if x.sev < e.sev then some e else best) none

/-! The safe state -/

/-- The hardware safe state (R303, table Safe-state contents): SAFE_LINE, berths, loops, bucks, LDOs, groups and EN pins,
charger. -/
def safeState (t : Nat) (b : Blk) : Blk :=
  let b := b.setF FAULT_STATE.SAFE_LINE 0 1
  let b := forAll 32 b fun nn b => berthSafe t b nn
  let b := forAll 8 b fun n b => loopForceOff t b n 7
  let b := forAll 8 b fun n b => buckForceOff t b n 6
  let b := forAll 6 b fun n b => ldoForceOff t b n 6
  chgSafe t (seqSafe t (t + 1) b)

/-- DEV_STATE with the safe state: SAFE from the next edge, in BOOT at its end (R304). -/
def safeDev (b : Blk) : Blk :=
  if b.dev = .boot then { b with col := { b.col with endSafe := true } }
  else if b.dev = .ready ∨ b.dev = .run then { b with dev := .safe } else b

/-- A capture of edge `t`: source, severity, whether further ones were latched with it. -/
def firstPut (t : Nat) (b : Blk) (c : Nat × Nat × Bool) : Blk :=
  let b := ((b.setF FIRST_FAULT.VALID 0 1).setOn FIRST_FAULT.MORE 0 c.2.2).setF FIRST_FAULT.SEV 0 c.2.1
  let b := (b.setF FIRST_FAULT.SRC 0 c.1).setF FIRST_FAULT.TICK16 0 t
  b.set64 FIRST_TICK_LO.TICK FIRST_TICK_HI.TICK 0 t

/-- What an edge has for FIRST_FAULT: the highest severity, the lowest ID among equals (R300). -/
def firstOf (alerts : List Entry) (merged : Bool) : Option (Nat × Nat × Bool) :=
  if merged then none else (topEntry alerts).map fun e => (e.src, e.sev, alerts.any fun x => x.src != e.src)

/-- FIRST_FAULT of an edge (R300). -/
def firstCapture (t : Nat) (b : Blk) (alerts : List Entry) (merged : Bool) : Blk :=
  if b.on FIRST_FAULT.VALID 0 then (if alerts.isEmpty then b else b.setF FIRST_FAULT.MORE 0 1)
  else match firstOf alerts merged with
    | some c => firstPut t b c
    | none => b

/-- The sources latched at edge `t`, kept so that a clear of this tick removes none of them (R6). -/
def latchedNow (t : Nat) (b : Blk) (es alerts : List Entry) (merged : Bool) : Blk :=
  { b with col := { b.col with nowAt := t + 1, now := maskOf (es.map (·.src)), first := firstOf alerts merged } }

/-- A SAFE reaction to a source has completed and is in force: the line is asserted, with the device in SAFE or in a BOOT that
ends there (R302, R303). SAFE entered without the line is not this. -/
def safeDone (b : Blk) : Bool :=
  b.on FAULT_STATE.SAFE_LINE 0 && (b.dev == .safe || (b.dev == .boot && b.col.endSafe))

/-- A cause of a Keeper restart becomes due (R305, R311, R463). -/
def dueSet (b : Blk) (k : Nat) : Blk := { b with col := { b.col with due := setBit b.col.due k } }

/-- The reaction of the highest severity latched (R298, R299, R302 to R306): a SAFE source that finds the outputs safe only
records, unless the safe state was taken ahead of this latching for the source's own sake (R214); a commanded restart under way ends in
SAFE (R463). -/
def react (t : Nat) (b : Blk) (sev : Nat) (restart : Bool) : Blk :=
  let done := safeDone b && b.col.aheadOf != t + 1
  if sev < 2 then b
  else
    let b := if done then b else safeDev (safeState t b)
    let b := if bit b.col.due 1 then { b with col := { b.col with endSafe := true } } else b
    let react (b : Blk) : Blk :=
      if done then b else { b.setF FAULT_STATE.REACT 0 1 with col := { b.col with reactEnd := t + 4 } }
    if sev = 2 ∨ !restart then react b
    else if b.f FAULT_STATE.HALT_COUNT 0 = 3 then react (b.setF FAULT_STATE.HALT_STUCK 0 1)
    else dueSet (b.setF FAULT_STATE.REACT 0 2) 0

/-- What the collector does with the lines latched at edge `t` (R296 to R302, R309, R351). -/
def faultCollect (t : Nat) (b : Blk) : Blk :=
  let b :=
    if b.f FAULT_STATE.REACT 0 = 1 ∧ b.col.reactEnd < t then b.setF FAULT_STATE.REACT 0 0 else b
  let stall := b.col.stall
  let ls := b.lines ++ (if stall then [⟨2, 0x600, .none, t⟩] else [])
  let b := { b with lines := [], col := { b.col with stall := false } }
  if ls.isEmpty then b
  else
    let merged := b.f FAULT_STATE.REACT 0 != 0
    let es := entriesOf b ls merged
    let b := es.foldl (fun b e => histPush t (faultSet b e.src) e) b
    let b := if es.any fun e => e.src == 7 || e.src == 12 then b.setF FAULT_STATE.PERMANENT 0 1 else b
    let alerts := es.filter fun e => decide (1 ≤ e.sev)
    let b := latchedNow t b es alerts merged
    let b := firstCapture t b alerts merged
    if merged ∨ alerts.isEmpty then b
    else
      let b := attnAll b 0
      let b :=
        if alerts.any fun e => decide (e.src < 22 ∨ 24 < e.src) then
          b.trigger t 1 (leBytes 8 (faultStatus b) ++ leBytes 4 (firstFault b) ++
            leBytes 4 ((topEntry es).map Entry.info |>.getD 0))
        else b
      react t b ((topEntry es).map Entry.sev |>.getD 0) (!stall || es.any fun e => e.src != 2 && e.sev == 3)

/-! Leaving SAFE and clearing (R307, R308) -/

/-- The sources latched at the edge of tick `t` (R6). -/
def justLatched (t : Nat) (b : Blk) : Nat := if b.col.nowAt = t + 1 then b.col.now else 0

/-- A write of 1 to bits of FAULT_STATUS_LO (0), FAULT_STATUS_HI (1) or FIRST_FAULT (2): what was latched at the edge of the
tick of the clear stands, and is what FIRST_FAULT then captures (R6, R307). -/
def faultClear (t : Nat) (b : Blk) (w : Writer) (which v : Nat) : Blk :=
  if !mayOperate b w then b
  else
    match which with
    | 0 => b.setF FAULT_STATUS_LO.SRC 0
        ((b.f FAULT_STATUS_LO.SRC 0 &&& (0xFFFFFFFF ^^^ (v % 2 ^ 32))) ||| justLatched t b % 2 ^ 32)
    | 1 => b.setF FAULT_STATUS_HI.SRC 0
        ((b.f FAULT_STATUS_HI.SRC 0 &&& (0xFFFF ^^^ (v % 2 ^ 16))) ||| justLatched t b / 2 ^ 32)
    | 2 =>
      if bit v 31 then
        match (if b.col.nowAt = t + 1 then b.col.first else none) with
        | some c => firstPut t b c
        | none => (b.setF FIRST_FAULT.VALID 0 0).setF FIRST_FAULT.MORE 0 0
      else b
    | _ => b

/-- The entry to RUN: HELD berths by the table Transitions out of HELD, AUTO groups at the first (R96, R233). -/
def enterRun (t : Nat) (b : Blk) : Blk := firstRun (forAll 32 { b with dev := .run } fun nn b => heldExit t b nn)

/-- A source of severity SAFE or HALT has its bit set. -/
def safeBits (b : Blk) : Bool := (List.range 48).any fun src => bit (faultStatus b) src && decide (2 ≤ sevOf b src)

/-- The conditions of R308, with NOCFG (R379), recovery (R375) and no Keeper restart due, which begins with the outputs safe
(R463; DESIGN CHOICE, log entry 43). -/
def exitOk (b : Blk) : Bool :=
  !safeBits b && !b.on FAULT_STATE.PERMANENT 0 && !b.on FAULT_STATE.HALT_STUCK 0 && !b.therm.stopped &&
  !b.on BOOT_STATUS.NOCFG 0 && !b.on BOOT_STATUS.RECOVERY 0 && b.col.due == 0

/-- A write of 1 to SAFE_EXIT (R308); in the tick whose edge latches the source that takes the device to SAFE it has no effect (R304). -/
def safeExit (t : Nat) (b : Blk) (w : Writer) : Blk :=
  if !mayOperate b w ∨ b.dev ≠ .safe ∨ b.devEdge ≠ .safe then b
  else if exitOk b then
    enterRun t ((b.setF FAULT_STATE.HALT_COUNT 0 0).setF FAULT_STATE.SAFE_LINE 0 0)
  else b.flag FAULT_STATE.EXIT_REJ 0

/-! Restarts that begin outside the collector -/

/-- 0x5A written to SYS_RESTART by Keeper or Pilot: the safe-state line without a source, the shutdown block; a Keeper restart
is due. DEV_STATE stays until BOOT: R304 gives SAFE to a latched source only. The restart ends in READY unless a source of
SAFE or HALT is latched from here on (R463). -/
def sysRestart (t : Nat) (b : Blk) (v : Nat) : Blk :=
  if v % 256 ≠ 0x5A then b
  else
    let b := shutdownBlock t (safeState t b) 6
    dueSet { b with col := { b.col with endSafe := b.col.due != 0 && b.col.endSafe } } 1

/-- No tick edge for 64 cycles of RCOSC: the safe-state line and a Keeper restart (R311). -/
def tickStall (t : Nat) (b : Blk) : Blk :=
  if b.dev = .standby ∨ b.dev = .off ∨ b.dev = .powerup then b
  else
    dueSet (safeDev (safeState t b)) 2

/-- A quadrant above 160 °C at 16 edges: TEMP_DIE, the safe state whatever its severity, Keeper held (R214, R295). -/
def dieShutdown (t : Nat) (b : Blk) : Blk :=
  if b.therm.stopped ∨ !(b.therm.hot.any fun n => decide (16 ≤ n)) then b
  else
    let b := { b.setF THERM_BROKEN.SHUTDOWN 0 1 with therm := { b.therm with stopped := true } }
    if b.dev = .standby ∨ b.dev = .off ∨ b.dev = .powerup then shutdownBlock t { b with therm := { b.therm with due := true } } 5
    else
      let ahead := if safeDone b then b.col.aheadOf else t + 2
      let b := shutdownBlock t (safeDev (safeState t (b.raise t 13 0x00FF))) 5
      { b with col := { b.col with aheadOf := ahead } }

/-- All four quadrants below 140 °C at 2,048 edges: Keeper starts again (R214). -/
def dieRelease (b : Blk) : Blk :=
  if b.therm.stopped ∧ 2048 ≤ b.therm.cool then
    let b := { b with therm := { b.therm with stopped := false } }
    if b.dev = .standby ∨ b.dev = .off ∨ b.dev = .powerup then b
    else dueSet b 3
  else b

/-! LANTERN (R310) -/

/-- LANTERN is driven at edge `t`: READY or RUN at the edge, no SAFE or HALT source latched there, no restart begun in its tick. -/
def lanternRuns (t : Nat) (b : Blk) : Bool :=
  (b.devEdge == .ready || b.devEdge == .run) && (b.dev == .ready || b.dev == .run || b.dev == .safe) &&
    !((List.range 48).any fun src => bit (justLatched t b) src && decide (2 ≤ sevOf b src))

/-- A toggle at an edge whose number is a multiple of 1,000, in READY and RUN. -/
def lanternToggle (t : Nat) (b : Blk) : Blk :=
  if t % 1000 = 0 ∧ b.lanternAt ≠ t + 1 ∧ lanternRuns t b then
    { b with lantern := !b.lantern, lanternAt := t + 1 }
  else b

/-! The Watchman (R311 to R317) -/

/-- A writer whose writes act on the WDOG block: Pilot, and Keeper during BOOT (R312). -/
def wdWriter (b : Blk) (w : Writer) : Bool := w == .pilot || (w == .keeper && b.dev == .boot)

/-- The applied maximum period in ticks (R313, R317). -/
def wdPeriod (b : Blk) : Nat :=
  if b.on WD_STATE.MODE 0 then 2000 * clampN 1 1000 (b.f WD_CFG.PERIOD_MS 0) else 200000

/-- What WD_REMAIN shows. -/
def wdShow (t : Nat) (b : Blk) : Blk := b.setF WD_REMAIN.TICKS 0 (b.wd.start + wdPeriod b - t)

/-- SEEN, DOUBLE and a pending KEY_A cleared for a period that starts at edge `s`. -/
def wdNew (b : Blk) (s : Nat) : Blk :=
  let b := ((b.setF WD_STATUS.SEEN 0 0).setF WD_STATUS.DOUBLE 0 0).setF WD_STATE.KEYA_PEND 0 0
  { b with wd := { start := s, keyA := none } }

/-- A period decided in tick `t`: the next one starts at edge `t + 1`, which clears what this one has seen (R316, R317). -/
def wdNext (t : Nat) (b : Blk) : Blk := { b with wd := { start := t + 1, keyA := none, newAt := some (t + 1), emptyAt := none } }

/-- The edge of a new period. -/
def wdEdge (t : Nat) (b : Blk) : Blk := match b.wd.newAt with
  | some s => if s ≤ t then wdNew b b.wd.start else b
  | none => b

/-- The findings on check-ins, MISSING then DOUBLE, in run mode (table Watchman findings). -/
def wdFindings (b : Blk) : List Nat :=
  if !b.on WD_STATE.MODE 0 then []
  else
    ((bitsSet 16 (b.f WD_CFG.TASKS 0)).filter fun k => !bit (b.f WD_STATUS.SEEN 0) k).map (fun k => 0x100 + k) ++
    (bitsSet 16 (b.f WD_STATUS.DOUBLE 0)).map fun k => 0x200 + k

/-- A refusal with its findings: WATCHMAN latched at the next edge, where a new period starts (R316, R317). -/
def wdRefuse (t : Nat) (b : Blk) (fs : List Nat) : Blk :=
  let b := fs.foldl (fun b d => b.raise t 2 d) b
  wdNext t ((b.bump WD_COUNT.REFUSED 0).setF WD_STATE.LAST_FIND 0 ((fs.headD 0) / 256))

/-- The decision on a closed period (R316); the first accepted in run mode in READY takes the device to RUN (R368). -/
def wdDecide (t : Nat) (b : Blk) (ordered : Bool) : Blk :=
  let fs := wdFindings b ++ (if ordered then [] else [0x300])
  if fs.isEmpty then
    let b := wdNext t (b.bump WD_COUNT.CLOSED 0)
    if b.on WD_STATE.MODE 0 ∧ b.dev = .ready then enterRun t b else b
  else wdRefuse t b fs

/-- The lock edge `s`: run mode and its first period; without tasks a refusal with EMPTY falls due in its tick (R313). -/
def wdLockAt (s : Nat) (b : Blk) : Blk :=
  let b := wdNew ((b.setF WD_CFG.LOCKED 0 1).setF WD_STATE.MODE 0 1) s
  if b.f WD_CFG.TASKS 0 = 0 then { b with wd := { b.wd with emptyAt := some s } } else b

/-- The refusal of a lock without tasks, in the tick of its edge. -/
def wdEmpty (t : Nat) (b : Blk) : Blk := match b.wd.emptyAt with
  | some s => if s ≤ t then wdRefuse t b [0x500] else b
  | none => b

/-- A write of LOCK latched in tick `t`: the lock edge is the next (R313, R460). -/
def wdLock (t : Nat) (b : Blk) (w : Writer) : Blk :=
  if wdWriter b w ∧ !b.on WD_CFG.LOCKED 0 then wdLockAt (t + 1) b else b

/-- A check-in; none in boot mode (R313, R314). -/
def wdCheckin (b : Blk) (w : Writer) (k : Nat) : Blk :=
  if !wdWriter b w ∨ !b.on WD_STATE.MODE 0 then b
  else if !bit (b.f WD_CFG.TASKS 0) k then b.flag WD_STATE.UNREG 0
  else
    let b := if bit (b.f WD_STATUS.SEEN 0) k then b.setBitF WD_STATUS.DOUBLE 0 k else b
    b.setBitF WD_STATUS.SEEN 0 k

/-- KEY_A (R315). -/
def wdKeyA (t : Nat) (b : Blk) (w : Writer) : Blk :=
  if wdWriter b w then { b.setF WD_STATE.KEYA_PEND 0 1 with wd := { b.wd with keyA := some t } } else b

/-- KEY_B: in order from 1 to 8 ticks after KEY_A (R315). -/
def wdKeyB (t : Nat) (b : Blk) (w : Writer) : Blk :=
  if !wdWriter b w then b
  else
    wdDecide t b (match b.wd.keyA with
      | some a => decide (a < t ∧ t ≤ a + 8)
      | none => false)

/-- Any other value: out of order (R315). -/
def wdKeyOther (t : Nat) (b : Blk) (w : Writer) : Blk := if wdWriter b w then wdDecide t b false else b

/-- A write of WD_KEY. -/
def wdKey (t : Nat) (b : Blk) (w : Writer) (v : Nat) : Blk :=
  if v % 65536 = 0x3C96 then wdKeyA t b w else if v % 65536 = 0xA5E1 then wdKeyB t b w else wdKeyOther t b w

/-- The keys latched at one edge, judged together: any other value, a KEY_A beside a KEY_B and a second KEY_B are out of
order, whatever the order of the writes (R315; the second KEY_B: log entry 36). -/
def wdKeys (t : Nat) (b : Blk) (l : List (Writer × Nat)) : Blk :=
  let ks := (l.filter fun x => wdWriter b x.1).map fun x => x.2 % 65536
  if ks.isEmpty then b
  else if (ks.any fun v => v != 0x3C96 && v != 0xA5E1) || (ks.contains 0x3C96 && ks.contains 0xA5E1) ||
      decide (1 < (ks.filter (· == 0xA5E1)).length) then wdDecide t b false
  else wdKey t b .pilot (ks.headD 0)

/-- A period without its pair by the end of its last tick (R317). -/
def wdExpire (t : Nat) (b : Blk) : Blk :=
  if b.wd.start + wdPeriod b ≤ t ∧ b.dev ≠ .standby ∧ b.dev ≠ .off ∧ b.dev ≠ .powerup then
    wdRefuse t b (wdFindings b ++ [0x400])
  else b

/-- Boot mode, from the end of POWERUP and the start of a Keeper restart (R313). -/
def wdBoot (b : Blk) (s : Nat) : Blk := wdNew ((b.setF WD_CFG.LOCKED 0 0).setF WD_STATE.MODE 0 0) s

/-- A tick of the Watchman: a lock without tasks is refused, a pending KEY_A lapses, WD_REMAIN counts. -/
def wdTick (t : Nat) (b : Blk) : Blk :=
  let b := wdEmpty t b
  let b := match b.wd.keyA with
    | some a => if a + 8 < t then { b.setF WD_STATE.KEYA_PEND 0 0 with wd := { b.wd with keyA := none } } else b
    | none => b
  wdShow t b

end Sys2Proof.Machine
end

