-- ==== Sys2Proof/Machine/Ecc.lean ====
section
/-! DEFINITION. Counting and reporting of memory errors, ECC_TEST and the scrubber (spec/13_memories_otp.md, R328 to R333),
with the spare rows and blocks of R384. -/
namespace Sys2Proof.Machine

/-- The memories and the rest of the device, as one operation changes them. -/
abbrev MB := Mem × Blk

/-- The count register of an address: 0 ECC_SRAM_CNT, 1 ECC_FLASH_CNT. -/
def eccIdx (a : Nat) : Nat := b2n (isFlash a)

/-- The memory of an address as ECC_LAST_INFO names it. -/
def eccMem (a : Nat) : Nat := if isFlash a then 1 else if isSram a then 0 else 3

/-- The macro of an SRAM address and the counter of its half (table Spare inventory). -/
def sramMacro (a : Nat) : Nat := (a - 0x20000000) / 131072
def sramCounter (a : Nat) : Nat := if sramMacro a < 4 then 6 else 14

/-- The unit a spare row replaces: its macro and its row. -/
def rowUnit (a : Nat) : Nat := sramMacro a * 65536 + Config.sramRow a % 65536

/-- A spare row in place of a failed one: 32 per macro (R384, R386). -/
def rowSpare (t : Nat) (b : Blk) (a : Nat) : Blk :=
  let m := sramMacro a
  let n := Tab.get b.macroUsed 0 m
  let b := { b with rowHits := b.rowHits.filter (· != rowUnit a) }
  if 32 ≤ n then b.raise t 12 0xFFFF
  else useSpare t { b with macroUsed := Tab.put b.macroUsed 0 m (n + 1) } (sramCounter a) (rowUnit a)

/-- The spare inventory's reaction to an error: the second correction in an SRAM row and any uncorrectable SRAM word take a
row, a page correction in flash takes a block (R384). -/
def eccSpare (t : Nat) (b : Blk) : EccEvt → Blk
  | .corr a =>
    if !isSram a then b
    else if b.rowHits.contains (rowUnit a) then rowSpare t b a
    else { b with rowHits := rowUnit a :: b.rowHits }
  | .page a => if isSram a then rowSpare t b a else useSpare t b 7 (Config.flashBlock a)
  | .unc a => if isSram a then rowSpare t b a else b

/-- One event counted and reported (R322, R323, R325, R328). ROM has no count register; its uncorrectable words are recorded. -/
def eccNote (t : Nat) (b : Blk) (e : EccEvt) : Blk :=
  let b := match e with
    | .corr a => if isRom a then b else b.bump ECC_CNT.CORR (eccIdx a)
    | .page a => eccLast t ((b.bump ECC_CNT.PAGE (eccIdx a)).raise t 6 0xFFFF) a (eccMem a) 2
    | .unc a =>
      if isRom a then eccLast t b a (eccMem a) 3
      else eccLast t ((b.bump ECC_CNT.UNC (eccIdx a)).raise t 5 0xFFFF) a (eccMem a) 3
  eccSpare t b e

/-- A program or an erase at a flash address is verified: a block that fails is copied to a spare and remapped, so that every address reads
as programmed (R384). -/
def flashVerify (t : Nat) (b : Blk) (a : Nat) : Blk :=
  if b.sig .flashFail ≠ 0 then useSpare t b 7 (Config.flashBlock a) else b

/-- The events of an access, in order. -/
def eccNotes (t : Nat) (b : Blk) (l : List EccEvt) : Blk := l.foldl (eccNote t) b

/-- A spare flash block takes the place of the block of a page correction (R384). -/
def takesBlock (b : Blk) : EccEvt → Bool
  | .page a => isFlash a && b.sparesLeft 7 != 0
  | _ => false

/-- A flash block with a page correction copied to its spare: the rebuilt words take the place of the failed ones. -/
def blockCopy (m : Mem) (e : EccEvt) : Mem :=
  match e with
  | .page a => if isFlash a then (m.badWords (pageBase a) (pageLen a)).foldl (fun m x => m.putKeepParity x (m.rebuilt x)) m else m
  | _ => m

/-- One event with its effects; without a spare block nothing is written back in flash (R322, R323, R384). -/
def eccStep (t : Nat) (x : MB) (e : EccEvt) : MB := (if takesBlock x.2 e then blockCopy x.1 e else x.1, eccNote t x.2 e)

/-- A read of `n` bytes with its effects: the bytes, a poisoned word among them, the device after. -/
def devRead (t : Nat) (x : MB) (a n : Nat) : List Nat × Bool × MB :=
  let (l, p, m, ev) := x.1.readBytes a n
  (l, p, ev.foldl (eccStep t) (m, x.2))

/-- A write of bytes to SRAM with its effects (R324, R325). -/
def devWrite (t : Nat) (x : MB) (a : Nat) (l : List Nat) : MB :=
  let (m, ev) := x.1.sramWrite a l (l.length + 1)
  (m, eccNotes t x.2 ev)

/-- A bit error of the environment in a stored word: 0 to 63 data, 64 to 71 check bits, 72 to 74 the mark; 75 to 82 a bit of the parity byte
of the address in its page. -/
def upset (m : Mem) (a bitNo : Nat) : Mem :=
  let w := a / 8 * 8
  if !isSram a && !isFlash a && !isRom a then m
  else
    let syn := Tab.get m.syn 0 w
    if bitNo < 64 then
      let c := w + bitNo / 8
      let flip := 2 ^ (bitNo % 8)
      let m := (m.setByte c (m.byte c ^^^ BitVec.ofNat 8 flip)).setSyn w (syn ^^^ wordColumn bitNo)
      if isRom a then m else { m with par := Tab.put m.par 0 (pageBase c + c % 32) (m.parOf c ^^^ flip) }
    else if bitNo < 72 then m.setSyn w (syn ^^^ 2 ^ (bitNo - 64))
    else if bitNo < 75 then m.setMark w (Tab.get m.mark 0 w ^^^ 2 ^ (bitNo - 72))
    else if isRom a then m
    else { m with par := Tab.put m.par 0 (pageBase a + a % 32) (m.parOf a ^^^ 2 ^ ((bitNo - 75) % 8)) }

/-! ECC_TEST (R329, R330) -/

/-- A write of GO by Pilot or Keeper; with PAGE_HOLD = 0 the parity follows as in a write of the whole word, whose old word is decoded
first (R324, R325). -/
def eccTestGo (t : Nat) (x : MB) (w : Writer) : MB :=
  let (m, b) := x
  if w ≠ .pilot ∧ w ≠ .keeper then x
  else
    let a := b.f ECC_TEST_ADDR.VALUE 0
    if !b.on ECC_TEST_CTL.EN 0 ∨ !isSram a ∨ a % 8 ≠ 0 then (m, b.flag ECC_TEST_CTL.TEST_REJ 0)
    else
      let v := b.f64 ECC_TEST_DATA_LO.VALUE ECC_TEST_DATA_HI.VALUE 0
      let y : MB := if b.on ECC_TEST_CTL.PAGE_HOLD 0 then (m.putKeepParity a v, b) else devWrite t x a (leBytes 8 v)
      ((y.1.setSyn a (checkByte v ^^^ b.f ECC_TEST_CHK.CHK 0)).setMark a (b.f ECC_TEST_CHK.MARK 0), y.2)

/-- A write of READ by Pilot or Keeper: data, check byte and mark as stored. -/
def eccTestRead (x : MB) (w : Writer) : MB :=
  let (m, b) := x
  let a := b.f ECC_TEST_ADDR.VALUE 0 / 8 * 8
  if (w ≠ .pilot ∧ w ≠ .keeper) ∨ !(isSram a || isFlash a || isRom a) then x
  else
    let v := m.raw64 a
    let b := b.set64 ECC_RAW_DATA_LO.DATA ECC_RAW_DATA_HI.DATA 0 v
    (m, (b.setF ECC_RAW_CHK.CHK 0 (checkByte v ^^^ Tab.get m.syn 0 a)).setF ECC_RAW_CHK.MARK 0 (Tab.get m.mark 0 a))

/-! The scrubber (R331 to R333) -/

/-- A write of GO. -/
def scrubGo (b : Blk) : Blk :=
  let a := b.f SCRUB_START.ADDR 0 / 8 * 8
  let z := b.f SCRUB_END.ADDR 0 / 8 * 8
  if b.on SCRUB_STATUS.BUSY 0 ∨ !((isSram a && isSram z) || (isFlash a && isFlash z)) then b.flag SCRUB_STATUS.REFUSED 0
  else
    let b := ((b.setF SCRUB_STATUS.BUSY 0 1).setF SCRUB_STATUS.ABORTED 0 0).setF SCRUB_STATUS.MISMATCH 0 0
    let b := ((b.setF SCRUB_READ.WORDS 0 0).setF SCRUB_CORR.PAGES 0 0).setF SCRUB_CORR.WORDS 0 0
    let b := (b.setF SCRUB_UNC.WORDS 0 0).setF SCRUB_FIRST.ADDR 0 0xFFFFFFFF
    let b := { b with scrub := { first := a, cur := a, last := z } }
    if z < a then scrubEnd b false else b

/-- What one word read adds to the summary. -/
def scrubCount (b : Blk) (a : Nat) (psn : Bool) (ev : List EccEvt) : Blk :=
  let b := b.incr SCRUB_READ.WORDS 0
  let b := if ev = [.corr a] then b.bump SCRUB_CORR.WORDS 0 else b
  let b := if ev = [.page a] then b.bump SCRUB_CORR.PAGES 0 else b
  let b := if psn then b.incr SCRUB_UNC.WORDS 0 else b
  if (psn || !ev.isEmpty) ∧ b.f SCRUB_FIRST.ADDR 0 = 0xFFFFFFFF then b.setF SCRUB_FIRST.ADDR 0 a else b

/-- The parity check at the end of a page the range covers: the parity of the words read against the stored one (R331). -/
def scrubPage (m : Mem) (b : Blk) (a : Nat) : Blk :=
  let base := pageBase a
  let s := b.scrub
  let whole := decide (s.first ≤ base) && (isSram a || m.sealed a)
  let differs := (List.range 32).any fun j => m.parity base j != Tab.get s.acc 0 j
  let b := if whole ∧ differs ∧ !s.flagged then (b.bump SCRUB_STATUS.MISMATCH 0).bump ECC_PAGE_STAT.MISMATCH 0 else b
  { b with scrub := { b.scrub with acc := [], flagged := false } }

/-- The next word of the pass read and decoded (R331, R332); correction written back as every read does (R322, R323). An aborted pass ends
at it (R333). -/
def scrubWord (t : Nat) (x : MB) : MB :=
  let (m, b) := x
  if !b.on SCRUB_STATUS.BUSY 0 then x
  else if b.scrub.abort then (m, scrubEnd b true)
  else
    let a := b.scrub.cur
    let bad := decide (m.decode a = .bad)
    let (v, p, m', ev) := m.read64 a
    let y := ev.foldl (eccStep t) (m', b)
    let b := scrubCount y.2 a p ev
    let l := leBytes 8 v
    let s := b.scrub
    let acc := (List.range 8).foldl (fun c i =>
      let j := (a + i) % 32
      Tab.put c 0 j (Tab.get c 0 j ^^^ l.getD i 0)) s.acc
    let b := { b with scrub := { s with cur := a + 8, acc := acc, flagged := s.flagged || bad } }
    let b := if (a + 8) % pageLen a = 0 then scrubPage m' b a else b
    let b := if s.last ≤ a then scrubEnd b false else b
    (y.1, b)

end Sys2Proof.Machine
end

