-- ==== Sys2Proof/Machine/Log.lean ====
section
/-! DEFINITION. The Logbook: spec/14_logbook.md. `rd` is what a snapshot item of an address reads as, with its poison. -/
namespace Sys2Proof.Machine

/-! Slots and records -/

/-- The flash address of a slot: 0 to 127 anchor, 128 to 1,711 tide (R348). -/
def slotAddr (i : Nat) : Nat := if i < 128 then 0x10780000 + 256 * i else 0x10788000 + 256 * (i - 128)

/-- The tide page of a slot, and the first slot and the address of a tide page. -/
def slotPage (i : Nat) : Nat := (i - 128) / 16
def pageSlot (p : Nat) : Nat := 128 + 16 * p
def pageAddr (p : Nat) : Nat := 0x10788000 + 4096 * p

/-- A slot is blank: every byte reads 0xFF. -/
def slotBlank (m : Mem) (i : Nat) : Bool :=
  let a := slotAddr i
  let out (k : Nat) : Bool := decide (k < a ∨ a + 256 ≤ k)
  (m.cells.all (fun p => out p.1) && m.syn.all fun p => out p.1) || m.seen a 256 == List.replicate 256 255

/-- A slot holds a record as it is read: its magic and CRC are right (R319, R349). -/
def slotValid (m : Mem) (i : Nat) : Bool :=
  let a := slotAddr i
  leNat (m.seen a 2) == 0x4C4B && m.seenOk a 256 && crc32 (m.seen a 252) == leNat (m.seen (a + 252) 4)

/-- The SEQ and the TYPE of the record in a slot. -/
def slotSeq (m : Mem) (i : Nat) : Nat := leNat (m.seen (slotAddr i + 4) 4)
def slotType (m : Mem) (i : Nat) : Nat := (m.seen (slotAddr i + 3) 1).getD 0 0

/-- A record as its 256 bytes (table Record layout). -/
def LogRec.bytes (r : LogRec) (seq : Nat) : List Nat :=
  let body := leBytes 2 0x4C4B ++ [1, r.ty] ++ leBytes 4 seq ++ leBytes 8 r.tk ++ leBytes 4 r.epoch ++ leBytes 4 r.cfg ++
    [r.nitems, r.flags] ++ leBytes 6 r.poison ++ (padTo 24 r.det).take 24 ++
    ((padTo 48 r.items).take 48).flatMap (leBytes 4) ++ [0, 0, 0, 0]
  body ++ leBytes 4 (crc32 body)

/-- The sequence number of the configuration image in force. -/
def cfgSeq (b : Blk) : Nat :=
  if b.on BOOT_STATUS.NOCFG 0 then 0xFFFFFFFF else b.f CFG_SEQ.SEQ (b.f BOOT_STATUS.CFG_SLOT 0)

/-- The snapshot list of a type: addresses of its valid entries. -/
def logList (b : Blk) (ty : Nat) : List Nat :=
  ((List.range 48).filter fun k => b.on LOG_LIST.VALID (64 * ty + k)).map fun k => b.f LOG_LIST.ADDR (64 * ty + k) * 4

/-- A record of a trigger with its snapshot taken now; DROPPED records carry none (R352). -/
def logRec (rd : Nat → Nat × Bool) (b : Blk) (x : Trig) : LogRec :=
  let items := if x.ty = 0xC then [] else (logList b x.ty).map rd
  { ty := x.ty, tk := x.tk, epoch := b.f BIV_RTC_EPOCH.SECONDS 0, cfg := cfgSeq b, nitems := items.length
    flags := b2n b.biv.osf + 2 * b2n (b.hst != hSOURCE) + 4 * b2n (b.dev == .safe)
    poison := maskOf ((List.range items.length).filter fun k => (items.getD k (0, false)).2)
    det := x.det, items := items.map (·.1) }

/-- QUEUED, DROP_RUN, WRITING, ERASING, ANCHOR_FULL and CLEARING shown. -/
def logShow (b : Blk) : Blk :=
  let l := b.log
  let b := (b.setF LOG_STATUS.QUEUED 0 l.queue.length).setOn LOG_STATUS.DROP_RUN 0 l.drop.isSome
  let b := (b.setOn LOG_STATUS.WRITING 0 l.writing.isSome).setOn LOG_STATUS.ERASING 0 (!l.erase.isEmpty)
  (b.setOn LOG_STATUS.CLEARING 0 l.clearing).setOn LOG_STATUS.ANCHOR_FULL 0 (decide (128 ≤ b.f LOG_NEXT.SEQ 0))

/-! Queue (R354) -/

/-- A record queued, or dropped: the first drop of a run queues a DROPPED record in the reserved entry. -/
def logPush (rd : Nat → Nat × Bool) (t : Nat) (b : Blk) (r : LogRec) : Blk :=
  let l := b.log
  if (l.queue.filter fun x => x.ty != 0xC).length < 31 then logShow { b with log := { l with queue := l.queue ++ [r] } }
  else
    let b := b.bump LOG_COUNTS.DROPPED 0
    match l.drop with
    | some (n, _) => { b with log := { l with drop := some (n + 1, r.tk) } }
    | none =>
      let d := logRec rd b ⟨0xC, r.tk, leBytes 4 1 ++ leBytes 8 r.tk ++ leBytes 8 r.tk⟩
      logShow ({ b with log := { l with drop := some (1, r.tk), queue := l.queue ++ [d] } }.raise t 36 0xFFFF)

/-- A record formed and queued for a trigger. -/
def logTrigger (rd : Nat → Nat × Bool) (t : Nat) (b : Blk) (x : Trig) : Blk := logPush rd t b (logRec rd b x)

/-! Forming at an edge (R351, R352) -/

/-- The SEQ trigger of the tick before: the lowest group whose state has changed. -/
def seqTrig (t : Nat) (b : Blk) : Option Trig :=
  match (List.range 8).find? fun g => b.gst g != b.log.grps.getD g 0 with
  | some g => some ⟨4, t, [g, b.f SEQ_GRP_STATE.STEP g, b.gst g, b.f SEQ_GRP_STATE.CAUSE g]⟩
  | none => none

/-- The triggers that edge `t` forms records of: one per type, in ascending type (R351). -/
def logTrigs (t : Nat) (b : Blk) : List Trig :=
  (List.range 12).filterMap fun ty => (b.trig ++ (seqTrig (t - 1) b).toList).find? fun x => x.ty == ty

/-- The CONFIG and FIRMWARE records that Keeper has still to form, one in each tick (R351). -/
def trigRest (l : List Trig) : List Trig := (l.filter (·.ty == 6)).drop 1 ++ (l.filter (·.ty == 7)).drop 1

/-- The types whose snapshots edge `t` takes. -/
def snapTypes (t : Nat) (b : Blk) : List Nat :=
  (logTrigs t b).map (·.ty) ++ if b.log.trip.isNone ∧ b.trips ≠ [] then [2, 3] else []

/-- A record formed: a CLEAR is kept ahead of the queue (R359), any other queued. -/
def logKeep (rd : Nat → Nat × Bool) (t : Nat) (b : Blk) (r : LogRec) : Blk :=
  if r.ty = 8 then { b with log := { b.log with clr := some r } } else logPush rd t b r

/-- The records of the triggers of the tick before edge `t`, with the snapshot of this
edge; the snapshots that the trips of a round need (R353). -/
def logForm (rd : Nat → Nat × Bool) (t : Nat) (b : Blk) : Blk :=
  let recs := (logTrigs t b).map (logRec rd b)
  let trip := match b.log.trip, b.trips with
    | some x, _ => some x
    | none, [] => none
    | none, p :: _ => some (logRec rd b ⟨2, p.2.2.1, []⟩, logRec rd b ⟨3, p.2.2.1, []⟩)
  let b := { b with trig := trigRest b.trig, log := { b.log with grps := (List.range 8).map fun g => b.gst g, trip := trip } }
  recs.foldl (logKeep rd t) b

/-- The record queued last takes its place by TYPE among those formed at edge `t` (R351). -/
def queueOrder (t : Nat) (b : Blk) : Blk :=
  match b.log.queue.reverse with
  | r :: q =>
    let after := q.takeWhile fun x => x.tk + 1 == t && decide (r.ty < x.ty)
    { b with log := { b.log with queue := (after ++ r :: q.drop after.length).reverse } }
  | [] => b

/-- The trip record of the round before, at the first edge of round `t / 2048` (R353). -/
def logTrips (rd : Nat → Nat × Bool) (t : Nat) (b : Blk) : Blk :=
  let old := b.trips.filter fun p => decide (p.2.2.1 < t)
  let b' := { b with trips := b.trips.filter fun p => !decide (p.2.2.1 < t) }
  match old, b.log.trip with
  | p :: _, some (r2, r3) =>
    let b' := { b' with log := { b'.log with trip := none } }
    let berths := old.foldl (fun m q => setBit m q.1) 0
    let last (nn : Nat) : Nat × Nat :=
      old.foldl (fun c q => if q.1 = nn then (q.2.1, q.2.2.2) else c) (0, 0)
    if (bitsSet 32 berths).length = 1 then
      let c := last p.1
      queueOrder t <| logPush rd t b' { r2 with det := [p.1, c.1] ++ leBytes 2 (b.f BERTH_FT_STAT.TRIP_I p.1) ++ [c.2] }
    else
      let causes := leNat ((List.range 16).map fun k => (last (2 * k)).1 % 16 + 16 * ((last (2 * k + 1)).1 % 16))
      queueOrder t <| logPush rd t b' { r3 with det := leBytes 4 berths ++ leBytes 16 causes ++ leBytes 2 old.length }
  | _, _ => b'

/-! The writer (R349, R350) -/

/-- The next tide slot after `i`, circularly. -/
def nextTide (i : Nat) : Nat := if 1711 ≤ i then 128 else i + 1

/-- The slots from `i` on in writing order that are blank and in no page due for its erase, at most `n` tried. -/
def freeSlots (m : Mem) (l : Logbook) : Nat → Nat → List Nat
  | 0, _ => []
  | n + 1, i =>
    if i < 128 then
      let r := freeSlots m l n (if i = 127 then 128 else i + 1)
      if slotBlank m i then i :: r else r
    else if l.erase.contains (slotPage i) then []
    else
      let r := freeSlots m l n (nextTide i)
      if slotBlank m i then i :: r else r

/-- The slots left to the writer: the rest of the anchor area while SEQ is below 128, then the tide area. -/
def writerSlots (m : Mem) (b : Blk) : List Nat := freeSlots m b.log 64 b.log.slot

/-- A DROPPED record gets its count and last tick, and a CLEAR record the range it removes, as it is written. -/
def logFill (m : Mem) (b : Blk) (r : LogRec) (slot : Nat) : LogRec :=
  if r.ty = 0xC then
    match b.log.drop with
    | some (n, last) => { r with det := leBytes 4 n ++ slice r.det 4 8 ++ leBytes 8 last }
    | none => r
  else if r.ty = 8 then
    let kept := if slot < 128 then 0 else
      ((List.range 16).filter fun k => slotValid m (pageSlot (slotPage slot) + k)).length
    let last := (b.f LOG_NEXT.SEQ 0 + 2 ^ 32 - 1 - kept) % 2 ^ 32
    { r with det := r.det.take 4 ++ leBytes 4 (b.f LOG_OLDEST.SEQ 0) ++ leBytes 4 last ++ r.det.drop 4 }
  else r

/-- The first record of a tide page starts the erase of the page two ahead (R350). -/
def eraseAhead (l : Logbook) (slot : Nat) : Logbook :=
  if 128 ≤ slot ∧ (slot - 128) % 16 = 0 then
    let q := (slotPage slot + 2) % 99
    if l.erase.contains q then l else { l with erase := l.erase ++ [q] }
  else l

/-- The record that the writer takes next: a CLEAR ahead of the queue; while a clear runs none but it (R359). -/
def logFront (l : Logbook) : Option (LogRec × Logbook) :=
  match l.clr, l.queue with
  | some r, _ => some (r, { l with clr := none })
  | none, r :: rest => if l.clearing then none else some (r, { l with queue := rest, drop := if r.ty = 0xC then none else l.drop })
  | none, [] => none

/-- The writer takes the front record: two blank slots in erased pages, no OTP command, no record under way (R349, R350). -/
def logWrite (x : MB) : MB :=
  let (m, b) := x
  match logFront b.log, writerSlots m b with
  | some (r, l), slot :: _ :: _ =>
    if l.writing.isSome ∨ b.on OTP_STATUS.BUSY 0 ∨ !l.ready ∨ b.holdup.isSome then x
    else
      let l := { eraseAhead l slot with writing := some (slot, b.f LOG_NEXT.SEQ 0, logFill m b r slot) }
      (m, logShow { b with log := l })
  | _, _ => x

/-- The SEQ of the oldest tide record: the first valid slot in writing order from the page after the newest (0 = none). -/
def oldestTide (m : Mem) (slot : Nat) : Option Nat :=
  let start := if slot < 128 then 0 else slotPage slot + 1
  ((List.range 1584).map fun k => 128 + (16 * start + k) % 1584).find? (slotValid m)

/-- LOG_OLDEST shown. -/
def oldestShow (m : Mem) (b : Blk) : Blk :=
  match oldestTide m b.log.slot with
  | some i => b.setF LOG_OLDEST.SEQ 0 (slotSeq m i)
  | none => b

/-- The slot after one just written. -/
def slotAfter (i : Nat) : Nat := if i = 127 then 128 else if i < 128 then i + 1 else nextTide i

/-- A tide page holds something: not every slot of it is blank. -/
def pageDirty (m : Mem) (p : Nat) : Bool := !((List.range 16).all fun k => slotBlank m (pageSlot p + k))

/-- The erases of a clear whose record stands in `slot`: every other tide page, but for those that are erased already, so that the reserved
slot stays (R350, R359). -/
def clearErases (m : Mem) (slot : Nat) : List Nat :=
  (List.range 99).filter fun p => !(decide (128 ≤ slot) && p == slotPage slot) && pageDirty m p

/-- A record's words programmed, the CRC word last (R349); a CLEAR record starts the erases of R359. -/
def logWriteDone (t : Nat) (x : MB) : MB :=
  let (m, b) := x
  match b.log.writing with
  | none => x
  | some (slot, seq, r) =>
    let m := m.flashWrite (slotAddr slot) (r.bytes seq) 32
    let b := flashVerify t b (slotAddr slot)
    let l : Logbook := { b.log with writing := none, slot := slotAfter slot }
    let l : Logbook := if r.ty = 8 ∧ l.clearing then
        let e := clearErases m slot
        { l with erase := e, clearing := !e.isEmpty, clearErase := !e.isEmpty }
      else l
    (m, logShow (oldestShow m ({ b with log := l }.setF LOG_NEXT.SEQ 0 (seq + 1))))

/-- A record's write cut off: `n` of its words stand, its CRC word not (R349). -/
def logCut (x : MB) (n : Nat) : MB :=
  match x.2.log.writing with
  | none => x
  | some (slot, seq, r) => (x.1.flashWrite (slotAddr slot) ((r.bytes seq).take (8 * (n % 32))) 32, x.2)

/-- The erase of a tide page completes (R350); the last of a clear's ends it (R359). -/
def logEraseDone (t : Nat) (x : MB) : MB :=
  let (m, b) := x
  match b.log.erase with
  | [] => x
  | p :: rest =>
    let m := m.flashErase (pageAddr p)
    let b := flashVerify t b (pageAddr p)
    let fin := b.log.clearErase && rest.isEmpty
    let l := { b.log with erase := rest, clearing := b.log.clearing && !fin, clearErase := b.log.clearErase && !fin }
    (m, logShow (oldestShow m { b with log := l }))

/-- A HOST_SNAPSHOT trigger by Pilot with the tag and the port of a request (R352). -/
def logSnap (t : Nat) (b : Blk) (tag port : Nat) : Blk := b.trigger t 9 (leBytes 4 tag ++ [port])

/-! Start-up (R355) -/

/-- The newest of the valid slots by SEQ. -/
def newest (m : Mem) (l : List Nat) : Option Nat :=
  l.foldl (fun best i => match best with
    | none => some i
    | some j => if slotSeq m j < slotSeq m i then some i else best) none

/-- NEXT and the writer's slot by what both areas hold (R355). -/
def logPlace (m : Mem) : Nat × Nat :=
  match newest m ((List.range 1712).filter (slotValid m)) with
  | some i => ((slotSeq m i + 1) % 2 ^ 32, slotAfter i)
  | none => (0, 0)

/-- The scan of both areas: NEXT, the writer's slot, TORN, pages to erase before they are entered, an interrupted clear; a clear whose
record is still to be written goes on. -/
def logScan (x : MB) : MB :=
  let (m, b) := x
  let slots := List.range 1712
  let good := slots.filter (slotValid m)
  let torn := (slots.filter fun i => !slotBlank m i && !good.contains i).length
  let (next, slot) := logPlace m
  let page := if slot < 128 then 0 else slotPage slot
  let fresh := slot < 128 ∨ (slot - 128) % 16 = 0
  let need := (if fresh then [page, (page + 1) % 99] else [(page + 1) % 99, (page + 2) % 99]).filter (pageDirty m)
  let clr := newest m (good.filter fun i => decide (slotType m i = 8))
  let old := match clr with
    | some c => ((List.range 99).filter fun p =>
        !(decide (128 ≤ c) && p == slotPage c) && (List.range 16).any fun k =>
          slotValid m (pageSlot p + k) && decide (slotSeq m (pageSlot p + k) < slotSeq m c))
    | none => []
  let isClear : Bool := match b.log.writing with
    | some (_, _, r) => r.ty == 8
    | none => false
  let due := b.log.clr.isSome || b.trig.any (·.ty == 8) || isClear
  let l := { b.log with
    slot := slot, ready := true
    erase := if old.isEmpty then need else old ++ need.filter fun p => !old.contains p
    clearing := !old.isEmpty || due, clearErase := !old.isEmpty }
  let b := ({ b with log := l }.setF LOG_NEXT.SEQ 0 next).setF LOG_COUNTS.TORN 0 torn
  (m, logShow (oldestShow m b))

/-! Clearing (R359, R360) -/

/-- A clear token is valid: signed by the active owner key over the 28-byte message. -/
def clearToken (b : Blk) (sig : List Nat) : Bool :=
  Config.ecdsaOk (ownerKey b) ([0x4C, 0x4F, 0x47, 0x43, 0x4C, 0x45, 0x41, 0x52] ++ serial b ++ leBytes 4 (b.counter 2)) sig

/-- The clear begun: CLEAR_COUNT up, the CLEAR record due at the next edge (R352, R359). -/
def clearBegin (t : Nat) (b : Blk) : Blk :=
  let b := otpUp b 2
  logShow ({ b with log := { b.log with clearing := true } }.trigger t 8 (leBytes 4 (b.counterDue 2) ++ [ownerSlot b]))

/-- A slot whose first word reads as a record's and of whose other words one is poisoned: its CRC cannot be judged (R327). -/
def slotPoisoned (m : Mem) (i : Nat) : Bool :=
  let a := slotAddr i
  leNat (m.seen a 2) == 0x4C4B && m.seenOk a 8 && !m.seenOk a 256

/-- The slot that holds the record of a SEQ: the valid one, else one with poisoned data; none where it was circulated or cleared
(LOG_READ). -/
def logFind (m : Mem) (seq : Nat) : Option Nat :=
  let held := (List.range 1712).filter fun i => slotSeq m i == seq
  (held.find? (slotValid m)).or (held.find? (slotPoisoned m))

end Sys2Proof.Machine
end

