-- ==== Sys2Proof/Machine/Quays.lean ====
section
/-! DEFINITION. Quays and leases: spec/16_host_links.md (R397 to R405, R467), with the message format of
spec/17_command_set.md (R417, R418). -/
namespace Sys2Proof.Machine

/-! Messages (R417, R418) -/

/-- Status codes (table Status codes). -/
def sOK : Nat := 0
def sBAD_OPCODE : Nat := 1
def sBAD_LENGTH : Nat := 2
def sBAD_CRC : Nat := 3
def sDENIED : Nat := 4
def sLEASED : Nat := 5
def sBUSY : Nat := 6
def sLIMIT : Nat := 7
def sSTATE : Nat := 8
def sCONFLICT : Nat := 9
def sLOOP_CLOSED : Nat := 10
def sAUTH : Nat := 11
def sNOT_FOUND : Nat := 12
def sTIMEOUT : Nat := 13
def sSTALE : Nat := 14
def sINTERNAL : Nat := 15

/-- Header fields of a message. -/
def msgOp (m : List Nat) : Nat := leAt m 0 2
def msgFlags (m : List Nat) : Nat := m.getD 2 0
def msgLen (m : List Nat) : Nat := leAt m 4 2
def msgLease (m : List Nat) : Nat := leAt m 6 2
def msgTag (m : List Nat) : Nat := leAt m 8 4
def msgPay (m : List Nat) : List Nat := slice m 16 (msgLen m)

/-- The CRC-32 of a message is right (R418). -/
def msgCrcOk (m : List Nat) : Bool := crc32 (m.take (16 + msgLen m)) == leAt m (16 + msgLen m) 4

/-- A response to a message: its OPCODE, SEQUENCE, LEASE and TAG, the flags, status and payload given, and the CRC-32
(R418). -/
def respond (m : List Nat) (flags status : Nat) (pay : List Nat) : List Nat :=
  let body := padTo 2 (slice m 0 2) ++ [flags, m.getD 3 0] ++ leBytes 2 pay.length ++ padTo 6 (slice m 6 6) ++
    [status, 0, 0, 0] ++ pay
  body ++ leBytes 4 (crc32 body)

/-! Quays -/

/-- Quay `q` of port `p`. -/
def Blk.qy (b : Blk) (p q : Nat) : Quay := Tab.get b.quay {} (4 * p + q)

/-- The same, replaced. -/
def Blk.setQy (b : Blk) (p q : Nat) (x : Quay) : Blk := { b with quay := Tab.put b.quay {} (4 * p + q) x }

/-- A port that is not DISABLED; a DISABLED one has no quays and no leases (R387). -/
def portOn (b : Blk) (p : Nat) : Bool := decide (p < 4) && portClass b p != 3

/-- The device states in which the quays are open (R423), once Pilot or recovery has opened them (R368, R375, R467). -/
def quaysOpenNow (b : Blk) : Bool := b.quaysOpen && (b.dev == .ready || b.dev == .run || b.dev == .safe)

/-- Bytes of a buffer. -/
def Quay.bytes (x : Quay) (off n : Nat) : List Nat := (List.range n).map fun i => Tab.get x.buf 0 (off + i)

/-- Bytes stored in a buffer. -/
def Quay.store (x : Quay) (off : Nat) : List Nat → Quay
  | [] => x
  | v :: r => { x with buf := Tab.put x.buf 0 off (v % 256) }.store (off + 1) r

/-- A message stored in a buffer: a write that covers a 64-bit word clears its poison mark, one of fewer bytes keeps it (R324). -/
def Quay.put (x : Quay) (off : Nat) (l : List Nat) : Quay :=
  { x.store off l with psn := x.psn.filter fun w => !(decide (off ≤ 8 * w) && decide (8 * w + 8 ≤ off + l.length)) }

/-- The order in which requests are taken (R398). -/
def Req.before (x y : Req) : Bool :=
  decide (x.edge < y.edge) || (x.edge == y.edge && decide (4 * x.port + x.quay < 4 * y.port + y.quay))

/-- A request put at its place in the queue. -/
def insReq (x : Req) : List Req → List Req
  | [] => [x]
  | y :: r => if x.before y then x :: y :: r else y :: insReq x r

/-- A value of 1 latched in SUBMIT at edge `t` (R397, R467). -/
def quaySubmit (t : Nat) (b : Blk) (p q : Nat) : Blk :=
  if !portOn b p ∨ 4 ≤ q then b
  else
    let x := b.qy p q
    let len := leNat (x.bytes 4 2)
    if !quaysOpenNow b ∨ x.queued = 4 then b.setQy p q { x with submitSt := 6 }
    else if 492 < len then b.setQy p q { x with submitSt := 2 }
    else
      let m := x.bytes 0 (len + 20)
      { b.setQy p q { x with submitSt := 0, submitSeq := m.getD 3 0, queued := x.queued + 1, copying := true } with
        hq := insReq ⟨p, q, t, m, false, x.psn.filter fun w => decide (8 * w < len + 20)⟩ b.hq }

/-- The copy of an accepted request ends (R397). -/
def quayCopyDone (b : Blk) (p q : Nat) : Blk := b.setQy p q { b.qy p q with copying := false }

/-- An ACK of the responses that come before a deferred write's own, or of its own, once that is posted. -/
def deferAck (b : Blk) (p q : Nat) : Blk :=
  { b with deferred := b.deferred.map fun d =>
      if d.port = p ∧ d.quay = q ∧ d.at_ ≠ 0 then
        (if d.ahead = 0 then { d with acked := true } else { d with ahead := d.ahead - 1 })
      else d }

/-- A value of 1 latched in ACK (R400). -/
def quayAck (t : Nat) (b : Blk) (p q : Nat) : Blk :=
  let x := b.qy p q
  if x.resp then deferAck (b.setQy p q { x with resp := false, queued := x.queued - 1, ackAt := t + 1 }) p q else b

/-- A posted response enters a free buffer (R400); that of port 3 goes to the relay peer and is acknowledged by the device
itself (R416). -/
def responseEnter (t : Nat) (b : Blk) (p q : Nat) : Blk :=
  let x := b.qy p q
  match x.posted with
  | [] => b
  | m :: rest =>
    if x.resp ∨ x.ackAt = t + 1 then b
    else
      let b := b.setQy p q { x.put 0x200 m with posted := rest, resp := true, respSeq := m.getD 3 0 }
      let b := attnPort b p (4 + q)
      if p = 3 then
        let peer := b.f HW_CFG2.RELAY_NODE 0
        quayAck t (if peer = 0 then b else hwSend b 7 peer false ([q, 0, 0, 0] ++ m)) 3 q
      else b

/-- A response posted for a quay. -/
def quayPost (b : Blk) (p q : Nat) (m : List Nat) : Blk :=
  let x := b.qy p q
  b.setQy p q { x with posted := x.posted ++ [m] }

/-- The last tick in which a request may be posted (R401). -/
def execDue (b : Blk) (r : Req) : Nat := r.edge + 2000 * atLeast1 (b.f QUAY_CFG.EXEC_TMO 0)

/-- A request's TIMEOUT response (R401). -/
def timeoutResp (r : Req) : List Nat := respond r.msg (setBit (msgFlags r.msg) 7) sTIMEOUT []

/-- The oldest request of a quay not posted within EXEC_TMO gets its TIMEOUT response (R401). -/
def execTimeout (t : Nat) (b : Blk) (p q : Nat) : Blk :=
  let hit (r : Req) : Bool := r.port == p && r.quay == q && !r.dead && decide (execDue b r ≤ t)
  match b.msg with
  | some r =>
    if hit r then quayPost { b with msg := some { r with dead := true } } p q (timeoutResp r)
    else match b.hq.find? hit with
      | some r => quayPost { b with hq := b.hq.map fun x => if x = r then { x with dead := true } else x } p q (timeoutResp r)
      | none => b
  | none => match b.hq.find? hit with
    | some r => quayPost { b with hq := b.hq.map fun x => if x = r then { x with dead := true } else x } p q (timeoutResp r)
    | none => b

/-- Pilot's read of QP_TAKE: the next accepted request held open; nothing taken while one is open (R398, R399). Loading a request with a
poisoned word is an exception of Pilot's, which then executes nothing (R327). -/
def qpTake (t : Nat) (b : Blk) : Blk :=
  match b.msg, b.hq with
  | none, r :: rest =>
    let b := ((b.setF QP_TAKE.VALID 0 1).setF QP_TAKE.PORT 0 r.port).setF QP_TAKE.QUAY 0 r.quay
    let b := b.give 4 (2 ^ 31 + 4 * r.port + r.quay)
    if r.psn = [] then { b with hq := rest, msg := some r, answer := none } else { b.raise t 1 0xFFFF with hq := rest }
  | _, _ => (((b.setF QP_TAKE.VALID 0 0).setF QP_TAKE.PORT 0 0).setF QP_TAKE.QUAY 0 0).give 4 0

/-! Leases (R402 to R405) -/

/-- The state of a lease entry beside its registers. -/
def Blk.ls (b : Blk) (e : Nat) : Lease := Tab.get b.lease {} e

/-- The entry is in use. -/
def leaseOn (b : Blk) (e : Nat) : Bool := b.f LEASE_RES.HANDLE e != 0

/-- The entry of the lease on a resource. -/
def leaseOf (b : Blk) (kind idx : Nat) : Option Nat :=
  (List.range 32).find? fun e => leaseOn b e && b.f LEASE_RES.KIND e == kind && b.f LEASE_RES.INDEX e == idx

/-- A lease ended: its entry is free; the end of the configuration lease abandons an upload (R431). -/
def leaseEnd (b : Blk) (e : Nat) : Blk :=
  let b := if leaseOn b e ∧ b.f LEASE_RES.KIND e = 4 then { b with upload := none } else b
  let b := ((b.setF LEASE_RES.HANDLE e 0).setF LEASE_RES.PORT e 0).setF LEASE_RES.KIND e 0
  (b.setF LEASE_RES.INDEX e 0).setF LEASE_EXP.TICK e 0

/-- The duration of an entry, `d` ms, and its expiry that long after edge `t` (R402, R404). -/
def leaseUntil (t : Nat) (b : Blk) (e d : Nat) : Blk :=
  let x := t + 2000 * d
  { b.setF LEASE_EXP.TICK e x with lease := Tab.put b.lease {} e { b.ls e with dur := d, expiry := x } }

/-- A new lease in a free entry: GEN counts its uses (R402). -/
def leaseNew (t : Nat) (b : Blk) (e p kind idx d : Nat) : Blk :=
  let g := (b.ls e).uses % 2047
  let b := { b with lease := Tab.put b.lease {} e { b.ls e with uses := (b.ls e).uses + 1 } }
  let b := ((b.setF LEASE_RES.HANDLE e (e + 1 + 32 * g)).setF LEASE_RES.PORT e p).setF LEASE_RES.KIND e kind
  leaseUntil t (b.setF LEASE_RES.INDEX e idx) e d

/-- The ranges of the table Leasable resources. -/
def leaseRange (kind idx : Nat) : Bool :=
  match kind with
  | 0 => decide (idx < 32)
  | 1 => decide (idx < 8)
  | 2 => decide (idx < 8)
  | 3 => idx == 0
  | 4 => idx == 0
  | _ => false

/-- A grant, a renewal or a forced grant: status, entry and device (R402, R405). -/
def leaseGrant (t : Nat) (b : Blk) (p kind idx : Nat) (force : Bool) (d : Nat) : Nat × Nat × Blk :=
  let fresh (b : Blk) : Nat × Nat × Blk :=
    match (List.range 32).find? fun e => !leaseOn b e with
    | some e => (sOK, e, leaseNew t b e p kind idx d)
    | none => (sBUSY, 0, b)
  match leaseOf b kind idx with
  | some e =>
    let h := b.f LEASE_RES.PORT e
    if h = p then (sOK, e, leaseUntil t b e d)
    else if force ∧ portClass b p = 2 ∧ portClass b h = 1 then fresh (attnPort (leaseEnd b e) h 3)
    else (sLEASED, 0, b)
  | none => fresh b

/-- The handle names a lease that was granted and is no more (R403). -/
def leasePast (b : Blk) (h : Nat) : Bool :=
  let e := (h - 1) % 32
  let g := (h - 1) / 32
  let u := (b.ls e).uses
  h != 0 && decide (g < 2047) && (decide (g < u) || decide (2047 ≤ u)) && b.f LEASE_RES.HANDLE e != h

/-- The decision of R403 for a command on a resource: 0 = proceed; a lease that had not expired when the request was
accepted is still valid (R404). -/
def leaseCheck (b : Blk) (p kind idx h edge : Nat) : Nat :=
  let held := leaseOf b kind idx
  let other := match held with
    | some e => b.f LEASE_RES.PORT e != p
    | none => false
  if other then sLEASED
  else
    let live := match held with
      | some e => b.f LEASE_RES.HANDLE e == h
      | none => false
    let kept := b.leaseEnds.any fun x =>
      x.handle == h && x.port == p && x.kind == kind && x.index == idx && decide (edge ≤ x.expiry)
    if live ∨ kept then sOK else if leasePast b h then sSTALE else sDENIED

/-- The requests that are waiting or open, for which an expired lease may still count. -/
def waiting (b : Blk) : List Req := b.msg.toList ++ b.hq

/-- A lease reaches its expiry tick (R404). -/
def leaseExpire (t : Nat) (b : Blk) (e : Nat) : Blk :=
  if leaseOn b e ∧ (b.ls e).expiry ≤ t then
    let x : LeaseEnd := ⟨b.f LEASE_RES.HANDLE e, b.f LEASE_RES.PORT e, b.f LEASE_RES.KIND e, b.f LEASE_RES.INDEX e,
      (b.ls e).expiry⟩
    let ends := (x :: b.leaseEnds).filter fun x => (waiting b).any fun r => decide (r.edge ≤ x.expiry)
    let b := attnPort { b with leaseEnds := ends } x.port 3
    (leaseEnd b e).raise t 43 0xFFFF
  else b

/-! What HW_RELAY still expects (R429) -/

/-- What a response repeats of its message: OPCODE, SEQUENCE, TAG (R418). -/
def msgHead (m : List Nat) : List Nat := padTo 2 (slice m 0 2) ++ [m.getD 3 0] ++ padTo 4 (slice m 8 4)

/-- The head of the message that the open HW_RELAY has sent. -/
def relayHead (r : Req) : List Nat := msgHead ((msgPay r.msg).drop 8)

/-- The answer that the outstanding HW_RELAY has still to get: node, quay, head. -/
def relayOwed (b : Blk) : List (Nat × Nat × List Nat) := match b.hw.relay, b.msg with
  | some (_, node, q, _), some r => [(node, q, relayHead r)]
  | _, _ => []

/-! The quays at a Keeper start (R405, R467) -/

/-- Every request, response and lease discarded; the quays closed. -/
def quayClear (b : Blk) : Blk :=
  let b := forAll 32 b fun e b => leaseEnd b e
  let b := forAll 4 b fun p b =>
    let b := { b with attn := Tab.put b.attn 0 p (Tab.get b.attn 0 p &&& 0x10F) }
    forAll 4 b fun q b =>
      b.setQy p q { b.qy p q with copying := false, resp := false, queued := 0, posted := [], ackAt := 0 }
  let b := ((b.setF QP_TAKE.VALID 0 0).setF QP_TAKE.PORT 0 0).setF QP_TAKE.QUAY 0 0
  { b with
    hq := [], msg := none, answer := none, quaysOpen := false, leaseEnds := [], deferred := [], upload := none
    hw := { b.hw with relay := none, held := [], late := b.hw.late ++ relayOwed b } }

end Sys2Proof.Machine
end

