-- ==== Sys2Proof/Machine/Hawser.lean ====
section
/-! DEFINITION. The Hawser ring: spec/16_host_links.md (R406 to R416, R429, R430), R28 to R30, R440. Sides: 0 A, 1 B. A frame
is the list of its bytes from TYPE to CRC; times are in 15.625 ps, 32,000 a tick. -/
namespace Sys2Proof.Machine

/-! Frames as received -/

/-- Fields of a frame (table Hawser frame). -/
def frType (l : List Nat) : Nat := l.getD 0 0
def frSrc (l : List Nat) : Nat := leAt l 1 2
def frDst (l : List Nat) : Nat := leAt l 3 2
def frSeq (l : List Nat) : Nat := leAt l 5 2
def frHops (l : List Nat) : Nat := leAt l 7 2
def frCorr (l : List Nat) : Int := leIntAt l 9 4
def frPay (l : List Nat) : List Nat := slice l 15 (leAt l 13 2)

/-- The length agrees with LEN and the CRC is right. -/
def frOk (l : List Nat) : Bool :=
  l.length == 19 + leAt l 13 2 && crc32 (l.take (15 + leAt l 13 2)) == leAt l (15 + leAt l 13 2) 4

/-- The device runs, so that its ring sides do. -/
def hwUp (b : Blk) : Bool := b.dev == .boot || b.dev == .ready || b.dev == .run || b.dev == .safe

/-- A side is fitted (R440). -/
def sideFit (b : Blk) (side : Nat) : Bool := decide (side < 2) && !bit b.hw.unfit side

/-- A side is wrapped (R407). -/
def wrapped (b : Blk) (side : Nat) : Bool := if side = 0 then b.on HW_STATUS.WRAP_A 0 else b.on HW_STATUS.WRAP_B 0

/-- The input cable delay of a side. -/
def cableOf (b : Blk) (side : Nat) : Nat := if side = 0 then b.f HW_LINK.CABLE_A 0 else b.f HW_LINK.CABLE_B 0

/-- A frame of a type taken by this node: CRC right, not its own, for it or for every node (R409). -/
def frFor (b : Blk) (side : Nat) (l : List Nat) (ty : Nat) : Bool :=
  hwUp b && hwNode b && sideFit b side && frOk l && frType l == ty && frSrc l != b.f HW_CFG.NODE_ID 0 &&
  (frDst l == 0 || frDst l == b.f HW_CFG.NODE_ID 0)

/-- The first copy of a frame is kept: SRC and FSEQ not seen within one slow round (R408). -/
def frFirst (t : Nat) (b : Blk) (l : List Nat) : Bool :=
  !b.hw.seen.any fun x => x.1 == frSrc l && x.2.1 == frSeq l && decide (t ≤ x.2.2 + 524288)

/-- A frame kept. -/
def frKeep (t : Nat) (b : Blk) (l : List Nat) : Blk :=
  let seen := b.hw.seen.filter fun x => decide (t ≤ x.2.2 + 524288)
  { b with hw := { b.hw with seen := (frSrc l, frSeq l, t) :: seen } }

/-- A frame of a type that this node takes as a first copy: `act` on the device that has kept it. -/
def frTake (t : Nat) (b : Blk) (side : Nat) (l : List Nat) (ty : Nat) (act : Blk → Blk) : Blk :=
  if frFor b side l ty ∧ frFirst t b l then act (frKeep t b l) else b

/-! Relay and wrap (R406, R407, R409) -/

/-- A frame with the SRC of this node and an FSEQ it did not send (R409). -/
def dupId (t : Nat) (b : Blk) (l : List Nat) : Blk :=
  if frSeq l < b.hw.sent then b else (b.setF HW_STATUS.DUP_ID 0 1).raise t 34 0xFFFF

/-- A frame received on a side with its residence time (R406, R412): dropped, or passed on with HOPS, CORR and CRC new; a
wrong CRC goes on inverted. It leaves on the same side, and on the other where that is wrapped (R407). -/
def frameRelay (t : Nat) (b : Blk) (side : Nat) (l : List Nat) (resid : Int) : Blk :=
  if !hwUp b ∨ !sideFit b side ∨ l.length < 19 then b
  else
    let ok := frOk l
    let b := if ok then b else b.bump HW_COUNT.CRC_ERR 0
    let b := if ok ∧ wrapped b side then { b with hw := { b.hw with good := setBit b.hw.good side } } else b
    let own := b.f HW_CFG.NODE_ID 0
    if own ≠ 0 ∧ frSrc l = own then (if ok then dupId t b l else b)
    else if 4095 < frHops l + 1 then b
    else
      let corr := frCorr l + (resid - 10240) + cableOf b side
      let body := l.take 7 ++ leBytes 2 (frHops l + 1) ++ leInt 4 corr ++ slice l 13 (l.length - 17)
      let out := body ++ leBytes 4 (if ok then crc32 body else crc32 body ^^^ 0xFFFFFFFF)
      let b := hwOut b side out
      if wrapped b (1 - side) then hwOut b (1 - side) out else b

/-- A side without carrier in tick `t`: what R407 asks for before it unwraps starts again. -/
def noCarrier (t : Nat) (b : Blk) (side : Nat) : Blk :=
  { b with hw := { b.hw with lossAt := Tab.put b.hw.lossAt 0 side t, good := clrBit b.hw.good side } }

/-- The wrapped sides whose receivers see no carrier in a tick (R407). -/
def carrierTick (t : Nat) (b : Blk) : Blk :=
  forAll 2 b fun s b => if wrapped b s ∧ b.sig (.hwQuiet s) ≠ 0 then noCarrier t b s else b

/-- No transition on a fitted side for 10 µs (R407, R17); on a side that is wrapped already, the loss starts its wait again. -/
def carrierLoss (t : Nat) (b : Blk) (side : Nat) : Blk :=
  if !hwUp b ∨ !sideFit b side then b
  else if wrapped b side then noCarrier t b side
  else
    let b := if side = 0 then b.setF HW_STATUS.WRAP_A 0 1 else b.setF HW_STATUS.WRAP_B 0 1
    let b := (b.flag CLK_FAULT.DOM_FAIL 0 (2 ^ (7 + side))).clrBitF CLK_STATUS.DOM_OK 0 (7 + side)
    let b := noCarrier t (attnAll b 8) side
    (b.raise t 34 0xFFFF).raise t 9 0xFFFF

/-- A wrapped side unwraps after 1 ms of carrier, counted from its return, and a good frame (R407). -/
def unwrap (t : Nat) (b : Blk) (side : Nat) : Blk :=
  if hwUp b ∧ sideFit b side ∧ wrapped b side ∧ bit b.hw.good side ∧ Tab.get b.hw.lossAt 0 side + 2000 ≤ t then
    if side = 0 then b.setF HW_STATUS.WRAP_A 0 0 else b.setF HW_STATUS.WRAP_B 0 0
  else b

/-! Master and alignment (R28 to R30, R410 to R412) -/

/-- Nodes whose BEACON arrived in the last two slow rounds. -/
def beaconsLive (t : Nat) (b : Blk) : List Nat :=
  (b.hw.beacon.filter fun p => decide (t + 1 < p.2 + 1048576)).map (·.1)

/-- The timing master: MASTER_ID, or the lowest node ID present, this node included (R410); 0 = no ring. -/
def masterOf (t : Nat) (b : Blk) : Nat :=
  if !hwNode b then 0
  else if b.f HW_CFG.MASTER_ID 0 ≠ 0 then b.f HW_CFG.MASTER_ID 0
  else (beaconsLive t b).foldl min (b.f HW_CFG.NODE_ID 0)

/-- ALIGN_STATUS shows the master. -/
def masterShow (t : Nat) (b : Blk) : Blk :=
  let m := masterOf t b
  (b.setF ALIGN_STATUS.MASTER_ID 0 m).setOn ALIGN_STATUS.IS_MASTER 0 (m != 0 && m == b.f HW_CFG.NODE_ID 0)

/-- DEV_STATE as a word (direct window 0x04). -/
def devState (b : Blk) (port cls : Nat) : Nat := port * 1024 + cls * 256 + b.dev.code

/-- The BEACON of a slow round (R410), once in its tick. -/
def beaconSend (t : Nat) (b : Blk) : Blk :=
  let id := b.f HW_CFG.NODE_ID 0
  if hwUp b ∧ hwNode b ∧ ringTick b t % 524288 = (64 * id : Nat) % 524288 ∧ Tab.get b.hw.beacon 0 id ≠ t + 1 then
    let b := hwSend b 2 0 true (leBytes 4 (devState b 0 0) ++ leBytes 2 (masterOf t b))
    { b with hw := { b.hw with beacon := Tab.put b.hw.beacon 0 id (t + 1) } }
  else b

/-- A BEACON received (R410). -/
def beaconReceive (t : Nat) (b : Blk) (side : Nat) (l : List Nat) : Blk :=
  frTake t b side l 2 fun b =>
    masterShow t { b with hw := { b.hw with beacon := Tab.put b.hw.beacon 0 (frSrc l % 4096) (t + 1) } }

/-- A TICK frame of the master whose delimiter ended `arr` after edge `t` (R411): phase error, RING_TICK_OFFSET and
ALIGN_LOCKED (R29, R30). The copy of side A counts while A is in use and not wrapped; of the copies that arrive on the side that counts
the first is kept (R408). -/
def tickFrameReceive (t : Nat) (b : Blk) (side : Nat) (l : List Nat) (arr : Int) : Blk :=
  let use := if wrapped b 0 || !sideFit b 0 then 1 else 0
  if side = use ∧ frSrc l = b.f ALIGN_STATUS.MASTER_ID 0 then frTake t b side l 1 fun b =>
    let d := arr - 64000 - (frHops l : Int) * 10240 - frCorr l - cableOf b side
    let k := roundHalfUp ((d : Rat) / 32000)
    let err := 32000 * k - d
    let off := leIntAt (frPay l) 0 8 - ((t : Int) + k)
    let b := b.set64 RING_TICK_OFFSET_LO.OFFSET RING_TICK_OFFSET_HI.OFFSET 0 (ux 64 off)
    let b := (b.setFi ALIGN_STATUS.PHASE_ERR 0 err).setOn ALIGN_STATUS.ALIGN_LOCKED 0 (decide (err.natAbs ≤ 1280))
    { b with hw := { b.hw with markerAt := t + 1 } }
  else b

/-- The round's share: the master's TICK frame (R411), or a step of at most 4 DPWM periods towards the master (R28), and
ALIGN_LOCKED cleared without a marker (R29). -/
def alignRound (t : Nat) (b : Blk) : Blk :=
  let b := masterShow t b
  if b.on ALIGN_STATUS.IS_MASTER 0 then
    let b := b.set64 RING_TICK_OFFSET_LO.OFFSET RING_TICK_OFFSET_HI.OFFSET 0 0
    let b := (b.setF ALIGN_STATUS.ALIGN_LOCKED 0 1).setF ALIGN_STATUS.PHASE_ERR 0 0
    hwSend b 1 0 true (leInt 8 (ringTick b t))
  else if b.hw.markerAt ≠ 0 ∧ t < b.hw.markerAt + 2048 ∧ b.f ALIGN_STATUS.MASTER_ID 0 ≠ 0 then
    let step := clampI (-4) 4 (truncQ (-(b.fi ALIGN_STATUS.PHASE_ERR 0 : Rat) / 40))
    { b with hw := { b.hw with slew := b.hw.slew + step } }
  else b.setF ALIGN_STATUS.ALIGN_LOCKED 0 0

/-- LINK frames with the neighbour of a side have measured its input cable (R412). -/
def linkFrame (t : Nat) (b : Blk) (side : Nat) (l : List Nat) (delay : Nat) : Blk :=
  if frHops l = 0 then frTake t b side l 3 fun b =>
    if side = 0 then (b.setF HW_STATUS.UP_A 0 (frSrc l)).setF HW_LINK.CABLE_A 0 delay
    else (b.setF HW_STATUS.UP_B 0 (frSrc l)).setF HW_LINK.CABLE_B 0 delay
  else b

/-- The LINK frames of a slow round, one on each fitted side; their stamps are free bytes (R412). -/
def linkSend (t : Nat) (b : Blk) : Blk :=
  forAll 2 b fun s b =>
    if hwUp b ∧ sideFit b s then hwSendOn b 3 0 (· == s) (((Config.linkStamps t s).take 516).map (· % 256)) else b

/-! Fault broadcast and tokens (R414, R415) -/

/-- The lowest-numbered domain group that is not IDLE. -/
def lowestDomain (b : Blk) : Option Nat := (List.range 8).find? fun g => inDomain b g && b.gst g != gIDLE

/-- A FAULT frame accepted: counted, and in RUN for a selected zone an ALLOFF_REQ that is not broadcast again. -/
def faultFrameReceive (t : Nat) (b : Blk) (side : Nat) (l : List Nat) : Blk :=
  frTake t b side l 4 fun b =>
    let b := b.bump HW_COUNT.BCAST_RX 0
    let zone := (frPay l).getD 0 0
    match lowestDomain b with
    | some g =>
      if b.dev = .run ∧ zone < 16 ∧ bit (b.f HW_CFG2.ZONE_RX 0) zone then
        let tx := b.f HW_CFG.BCAST_TX 0
        (seqAllOffReq t (b.setF HW_CFG.BCAST_TX 0 0) g).setF HW_CFG.BCAST_TX 0 tx
      else b
    | none => b

/-- A TOKEN frame accepted (R415, R227). -/
def tokenFrameReceive (t : Nat) (b : Blk) (side : Nat) (l : List Nat) : Blk :=
  frTake t b side l 5 fun b => tokenReceive t b ((frPay l).getD 0 0) (leAt (frPay l) 1 8)

/-! Message relay (R416, R429, R430) -/

/-- A RELAY_REQ (R416): from RELAY_NODE to this node, its message submitted to port 3's quay; a refusal answered. -/
def relayReqReceive (t : Nat) (b : Blk) (side : Nat) (l : List Nat) : Blk :=
  if frFor b side l 6 ∧ frDst l = b.f HW_CFG.NODE_ID 0 ∧ frFirst t b l then
    let b := frKeep t b l
    let q := (frPay l).getD 0 0
    let m := (frPay l).drop 4
    if frSrc l ≠ b.f HW_CFG2.RELAY_NODE 0 ∨ 4 ≤ q ∨ !portOn b 3 then b.bump HW_COUNT.DROPPED 0
    else
      let b := quaySubmit t (b.setQy 3 q ((b.qy 3 q).put 0 m)) 3 q
      let st := (b.qy 3 q).submitSt
      if st = 0 then b
      else hwSend b 7 (frSrc l) false ([q, 0, 0, 0] ++ respond m (setBit (msgFlags m) 7) st [])
  else b

/-- The message held for a port. -/
def heldOf (b : Blk) (p : Nat) : Option Held := Tab.get b.hw.held none p

/-- The same, replaced. -/
def setHeld (b : Blk) (p : Nat) (x : Option Held) : Blk := { b with hw := { b.hw with held := Tab.put b.hw.held none p x } }

/-- The answer of HW_RELAY: the length of the remote message and its first bytes. -/
def relayAnswer (m : List Nat) : List Nat := leBytes 2 m.length ++ leBytes 2 (min m.length 488) ++ m.take 488

/-- A RELAY_RSP for the outstanding HW_RELAY, in time: held for its port and answered; any other is discarded. The answer of one that has
timed out comes before that of a later one to the same quay (R397), so that it is told apart (R429). -/
def relayRspReceive (t : Nat) (b : Blk) (side : Nat) (l : List Nat) : Blk :=
  frTake t b side l 7 fun b =>
    let m := (frPay l).drop 4
    let k := (frSrc l, (frPay l).getD 0 0, msgHead m)
    let b' : Blk := { b with hw := { b.hw with late := b.hw.late.erase k } }
    match b.hw.relay, b.msg with
    | some (p, node, q, due), some r =>
      if k = (node, q, relayHead r) ∧ t ≤ due ∧ !b.hw.late.contains k then
        let b := setHeld b p (some ⟨m, none⟩)
        { b with hw := { b.hw with relay := none }, answer := some (respond r.msg 0x80 sOK (relayAnswer m)) }
      else b'
    | _, _ => b'

/-- No RELAY_RSP in time (R429). -/
def relayTimeout (t : Nat) (b : Blk) : Blk :=
  match b.hw.relay, b.msg with
  | some (_, _, _, due), some r =>
    if due ≤ t then
      { b with hw := { b.hw with relay := none, late := b.hw.late ++ relayOwed b }, answer := some (respond r.msg 0x80 sTIMEOUT []) }
    else b
  | _, _ => b

/-- A held message 1 s after its HW_RELAY response was posted (R430). -/
def relayHoldExpire (t : Nat) (b : Blk) (p : Nat) : Blk :=
  match heldOf b p with
  | some ⟨_, some s⟩ => if s + 2000000 ≤ t then setHeld b p none else b
  | _ => b

end Sys2Proof.Machine
end

