-- ==== Sys2Proof/Machine/Regs.lean ====
section
/-! DEFINITION. Register accesses: access codes (R4 to R6), address map (R31, R459), 64-bit pairs (R32), and every register
whose read or write has behaviour of its own. A write answers the status a command that carried it returns. -/
namespace Sys2Proof.Machine

/-! Finding registers -/

/-- The instance of a field's register that lies at an address, of `n`. -/
def Fld.inst (F : Fld) (n a : Nat) : Option Nat :=
  if F.stride = 0 then (if a = F.base then some 0 else none)
  else if F.base ≤ a ∧ (a - F.base) % F.stride = 0 ∧ (a - F.base) / F.stride < n then some ((a - F.base) / F.stride)
  else none

/-- The instance of a register that lies at an address. -/
def RegD.inst (r : RegD) (a : Nat) : Option Nat :=
  if r.stride = 0 then (if a = r.base then some 0 else none)
  else if r.base ≤ a ∧ (a - r.base) % r.stride = 0 ∧ (a - r.base) / r.stride < r.count then some ((a - r.base) / r.stride)
  else none

/-- The register at an address and its instance; none = a reserved offset or no register. -/
def findReg (a : Nat) : Option (RegD × Nat) := regMap.findSome? fun r => (r.inst a).map fun i => (r, i)

/-- The blocks of the table Internal address map. -/
def mapped (a : Nat) : Bool :=
  isRom a || isFlash a || isSram a || (decide (0x40000000 ≤ a) && decide (a < 0x40012000)) ||
  (decide (0x40030000 ≤ a) && decide (a < 0x40050000)) || (decide (0x40060000 ≤ a) && decide (a < 0x40170000))

/-! Words -/

/-- The fields of an instance as a word; WO fields read 0. -/
def regWord (b : Blk) (r : RegD) (i : Nat) : Nat :=
  (r.flds.map fun F => if F.acc = .wo then 0 else b.f F i * 2 ^ F.lo).sum

/-- A field as a write of word `v` leaves it; `keeper` may write KO fields. -/
def fldWrite (keeper : Bool) (i v : Nat) (b : Blk) (F : Fld) : Blk :=
  let x := bits v F.lo F.w
  match F.acc with
  | .rw => b.setF F i x
  | .w1c => b.unflag F i x
  | .w1s => b.setF F i (b.f F i ||| x)
  | .ko => if keeper then b.setF F i x else b
  | _ => b

/-- A write without behaviour of its own (R4, R5). -/
def plainWrite (b : Blk) (keeper : Bool) (a v : Nat) : Blk :=
  match findReg a with
  | some (r, i) => r.flds.foldl (fldWrite keeper i v) b
  | none => b

/-- Registers that read applied values in place of the values written. -/
def appliedWord (b : Blk) (a : Nat) : Option Nat :=
  let v := match BERTH_SOA_LIM.TJ_LIM.inst 32 a with
    | some n => some (b.tjLim n)
    | none => none
  let v := v <|> (BERTH_FT.FT_CODE.inst 32 a).map fun n =>
    b.ftApplied BERTH_FT.FT_CODE n + b.ftApplied BERTH_FT.FT_HELD n * 256 + b.f BERTH_FT.REV_EN n * 65536
  let v := v <|> (BERTH_TW_LIM.TRIP.inst 32 a).map fun n => ux 16 (b.twWarn n) + ux 16 (b.twTrip n) * 65536
  let v := v <|> (BERTH_TW_REARM.REARM.inst 32 a).map fun n => ux 16 (b.twRearm n)
  let v := v <|> (List.range 8).findSome? fun k => ((LOOP_VSET.CODE k).inst 8 a).map fun n => b.vsetCode n k
  let v := v <|> (LOOP_ILIM.IOC.inst 8 a).map fun n => b.f LOOP_ILIM.ILIM n + b.iocApplied n * 65536
  let v := v <|> (LDO_CTL.EN.inst 6 a).map fun n => b.f LDO_CTL.EN n + b.ldoCode n * 256
  let v := v <|> (IB_VSET.CODE.inst 8 a).map fun n => min (b.f IB_VSET.CODE n) (b.f IB_KLIM.VSET_CEIL n)
  let v := v <|> (IB_ILIM.ILIM.inst 8 a).map fun n => b.ibIlim n + b.f IB_ILIM.OC_QUAL n * 2 ^ 24
  let v := v <|> (FAULT_SEV.SEV.inst 4 a).map (sevWord b)
  v <|> (if a = 0x400E0048 then some (ichgApplied b + vcellApplied b * 65536) else none)

/-- One byte of BERTH_TOKEN_OWNER: bit 7 valid, bits 4:0 the berth. -/
def ownerByte (b : Blk) (tok : Nat) : Nat := match b.tokenOwner tok with
  | some nn => 128 + nn
  | none => 0

/-- Registers that show other state: the maps and tokens of the berths, the VSEL pins. -/
def mapWord (b : Blk) (a : Nat) : Option Nat :=
  let berths (st : Nat) : Nat := maskOf ((List.range 32).filter fun nn => b.bst nn == st)
  let owners (lo n : Nat) : Nat := leNat ((List.range n).map fun i => ownerByte b (lo + i))
  match a with
  | 0x40030800 => some (maskOf ((List.range 6).filter fun k => (b.tokenOwner k).isNone) * 65536 + b.tokensInUse * 256 +
      b.f BERTH_TOKENS.TOK_LIMIT 0 * 16 + b.f BERTH_TOKENS.TOK_CFG 0)
  | 0x40030808 => some (berths bPENDING)
  | 0x4003080C => some (berths bINRUSH)
  | 0x40030810 => some (berths bON)
  | 0x40030818 => some (owners 0 4)
  | 0x4003081C => some (owners 4 2)
  | 0x40043000 => some (maskOf ((List.range 12).filter fun k => b.sig (.vsel k) != 0))
  | _ => none

/-- The LO registers of the 64-bit pairs of R32, but for the tick counter: base, stride, count, distance to HI. -/
def loRegs : List (Nat × Nat × Nat × Nat) :=
  [(0x40000050, 0, 1, 4), (BERTH_TRIP_TICK_LO.TICK.base, 256, 32, 4), ((ENG_LOOP_S_LO.STATE 0).base, 256, 8, 4),
   ((ENG_LOOP_S_LO.STATE 1).base, 256, 8, 4), ((ENG_LOOP_S_LO.STATE 2).base, 256, 8, 4), (0x40071008, 0, 1, 4),
   (0x4009000C, 0, 1, 4), (0x400A0008, 32, 128, 4), (0x400A0010, 32, 128, 4), (0x400D0014, 32, 8, 4),
   (0x400E0014, 0, 1, 4), (0x400F0060, 0, 1, 4), (0x400F0068, 0, 1, 4), (0x4011000C, 0, 1, 4), (0x40110100, 16, 16, 4)]

/-- An address lies on a LO register, or `d` = 4 above one. -/
def onPair (d a : Nat) : Bool :=
  loRegs.any fun (base, stride, n, _) =>
    if stride = 0 then a == base + d
    else decide (base + d ≤ a) && (a - base - d) % stride == 0 && decide ((a - base - d) / stride < n)

/-- The high word a reader has latched for the HI register at an address (R32), and its poison mark. -/
def hiWord (b : Blk) (r a : Nat) : Nat := Tab.get b.hiShadow 0 (r * 2 ^ 32 + a) % 2 ^ 32
def hiMark (b : Blk) (r a : Nat) : Bool := bit (Tab.get b.hiShadow 0 (r * 2 ^ 32 + a)) 32

/-- The same, latched. -/
def hiLatch (b : Blk) (r a v : Nat) : Blk := { b with hiShadow := Tab.put b.hiShadow 0 (r * 2 ^ 32 + a) v }

/-- The register word at an address as it stands at tick `t`, without effect; a HI register shows the live word. -/
def peekWord (t : Nat) (b : Blk) (a : Nat) : Nat :=
  if a = 0x40000000 then t % 2 ^ 32
  else if a = 0x40000004 then t / 2 ^ 32 % 2 ^ 32
  else if 0x40141000 ≤ a ∧ a < 0x40143000 then b.otpRead ((a - 0x40141000) / 4)
  else if 0x40140040 ≤ a ∧ a < 0x401400C0 then b.counter ((a - 0x40140040) / 4)
  else if 0x40100000 ≤ a ∧ a < 0x40100020 then rtcWord b 5 ((a - 0x40100000) / 4)
  else if 0x40100100 ≤ a ∧ a < 0x40100200 then leNat ((List.range 4).map fun i => ramByte b (a - 0x40100100 + i))
  else if (engKey a).isSome then engWord b ((engKey a).getD 0)
  else
    match appliedWord b a <|> mapWord b a with
    | some v => v
    | none => match findReg a with
      | some (r, i) => regWord b r i
      | none => 0

/-- A word of an engine store is delivered with the poison mark: marked, or uncorrectable (R319). -/
def wordMark (b : Blk) (a : Nat) : Bool := match engKey a with
  | some k => (engDecode b k).isNone
  | none => false

/-- An item of a snapshot list: the word at an address and its poison mark, as its read delivers them (R319, R352). -/
def snapItem (t : Nat) (x : MB) (a : Nat) : Nat × Bool :=
  let (m, b) := x
  if isRom a || isFlash a || isSram a then
    let r := m.readBytes a 4
    (leNat r.1, r.2.1)
  else
    match (engKey a).bind (engDecode b) with
    | some (v, _) => (v, false)
    | none => (peekWord t b a, wordMark b a)

/-- What the decoding of such a read does beside: corrections written back and counted, uncorrectable words marked and raised
(R322, R323, R328); a register is read without effect. -/
def snapTouch (t : Nat) (x : MB) (a : Nat) : MB :=
  if isRom a || isFlash a || isSram a then (devRead t x a 4).2.2
  else match engKey a with
    | some k => (x.1, (engRead t x.2 k).2)
    | none => x

/-- The same for every item of the snapshots of records of some types. -/
def snapReads (t : Nat) (x : MB) (tys : List Nat) : MB := (tys.flatMap (logList x.2)).foldl (snapTouch t) x

/-! Reads -/

/-- A read of an RC field clears exactly what it returned (R6). -/
def rcClear (b : Blk) (a : Nat) : Blk :=
  match findReg a with
  | some (r, i) => r.flds.foldl (fun b F => if F.acc = .rc then b.setF F i 0 else b) b
  | none => b

/-- The decoding of the word of an engine store at an address, if one lies there (R319). -/
def engTouch (t : Nat) (b : Blk) (a : Nat) : Blk := match engKey a with
  | some k => (engRead t b k).2
  | none => b

/-- A register read by reader `r` (R6, R32, R257, R269, R282): the word and the device after. A word of an engine store is decoded
first, with the high word that a read of a low one latches (R319). -/
def readWord (t : Nat) (b : Blk) (r a : Nat) : Nat × Blk :=
  let b := if onPair 0 a then engTouch t (engTouch t b a) (a + 4) else if onPair 4 a then b else engTouch t b a
  if a = 0x40000000 then (t % 2 ^ 32, hiLatch b r 0x40000004 (t / 2 ^ 32))
  else if a = 0x40000004 then (hiWord b r a, b)
  else if onPair 0 a then (peekWord t b a, hiLatch b r (a + 4) (peekWord t b (a + 4) % 2 ^ 32 + 2 ^ 32 * b2n (wordMark b (a + 4))))
  else if onPair 4 a then (hiWord b r a, b)
  else if 0x40100000 ≤ a ∧ a < 0x40100020 then
    let k := (a - 0x40100000) / 4
    (rtcWord b r k, rtcRead b r k)
  else if a = 0x40100020 then (rtcWord b r 8, b)
  else if a = 0x400E0060 then (peekWord t b a, chgFlagsRead b)
  else if a = 0x400F0180 then
    let b := gaugeSaveLatch b
    (peekWord t b a, b)
  else (peekWord t b a, rcClear b a)

/-- The word that reader `r` is given carries the poison mark (R319, R327). -/
def readMark (b : Blk) (r a : Nat) : Bool := if onPair 4 a then hiMark b r a else wordMark b a

/-- A read of the address space: the word, a poison mark, memory and device after. A read by Pilot (4, 5) of Keeper's SRAM is an exception,
delivers nothing and counts as poisoned (R366). -/
def busRead (t : Nat) (x : MB) (r a : Nat) : Nat × Bool × MB :=
  if 4 ≤ r ∧ isSram a ∧ Config.keeperSram a then (0, true, x.1, x.2.raise t 1 0xFFFF)
  else if isRom a || isFlash a || isSram a then
    let y := devRead t x a 4
    (leNat y.1, y.2.1, y.2.2)
  else
    let y := readWord t x.2 r a
    (y.1, readMark x.2 r a, x.1, y.2)

/-! Writes with behaviour of their own, block by block: `none` = the address is not one of them -/

/-- The result of a write: its status and the device. -/
abbrev Wr := Nat × Blk

/-- An ignored write that sets a flag, with its status. -/
def refuseWith (b : Blk) (F : Fld) (i st : Nat) : Wr := (st, b.flag F i)

/-- The status of a write whose value was taken as given, or reduced to a limit or a range (R25, R421). -/
def asGiven (same : Bool) : Nat := if same then sOK else sLIMIT

/-- The write of an enable bit of output `o` that R222 takes from Pilot and hosts. -/
def ownBars (b : Blk) (w : Writer) (o new cur : Nat) : Bool :=
  let g := b.f SEQ_OUT_CFG.GROUP o
  w != .keeper && decide (g < 8) && b.gst g != gIDLE && new != cur

/-- The write of an enable bit: refused under R222, R231 or R464, else acted on. -/
def enableWrite (b : Blk) (w : Writer) (o new cur : Nat) (act : Blk → Blk) : Wr :=
  if ownBars b w o new cur then refuseWith b SEQ_GRP_STATE.OWN_REJ (b.f SEQ_OUT_CFG.GROUP o) sSTATE
  else if new = 1 ∧ b.barred o then (sSTATE, b)
  else (sOK, act b)

/-- The status a quay command that carries a toggle returns (table Toggle refusal reasons). -/
def toggleStatus (reason : Nat) : Nat := if reason = 0 then sOK else if reason = 2 then sDENIED else sSTATE

/-- Writes in the BERTH and FEED blocks (R37, R53, R64, R70, R71, R99, R222, R465). -/
def wrBerth (t : Nat) (b : Blk) (w : Writer) (origin a v : Nat) : Option Wr :=
  if 0x40010000 ≤ a ∧ a < 0x40012000 then
    let nn := (a - 0x40010000) / 256
    let off := a % 256
    let st := b.bst nn
    let k := w == .keeper
    if off = 0x04 ∧ k ∧ st = bHELD ∧ v % 2 = 0 then some (sOK, b.setF BERTH_CTL.ON nn 0)
    else if off = 0x04 then
      let y := enableWrite b w (22 + nn) (v % 2) (b.f BERTH_CTL.ON nn) fun b =>
        if v % 2 = 1 then berthOnRequest t b nn origin else berthOffRequest t b nn origin
      some (if y.1 = sOK ∧ v % 2 = 1 ∧ togglesAt t b nn then (toggleStatus (toggleReason b nn origin), y.2) else y)
    else if off = 0x00 ∨ (0x0C ≤ off ∧ off ≤ 0x48) ∨ off = 0x58 then
      if st = bPENDING ∨ st = bINRUSH ∨ st = bON ∨ st = bHELD ∨ (off = 0 ∧ 12 ≤ bits v 8 4) then
        some (refuseWith b BERTH_STATE.CFG_REJ nn sSTATE)
      else if off = 0x38 ∨ off = 0x3C ∨ off = 0x40 then
        some (sOK, plainWrite (b.setBrt nn { b.brt nn with rd := none }) k a v)
      else if off = 0x1C then
        let mv := v / 65536 % 65536
        let ms := v % 65536
        some (asGiven (clampN 50 2000 mv == mv && clampN 1 4000 ms == ms),
          plainWrite b k a (clampN 50 2000 mv * 65536 + clampN 1 4000 ms))
      else if off = 0x44 then some (asGiven (decide (v % 65536 ≤ b.f BERTH_LIM.TJ_LIM_MAX 0)), plainWrite b k a v)
      else some (sOK, plainWrite b k a v)
    else if 0x88 ≤ off ∧ off ≤ 0x9C then
      if (st ≠ bOFF ∧ st ≠ bTRIPPED ∧ st ≠ bLOCKED) ∨ (off = 0x94 ∧ 12 ≤ v % 16) then
        some (refuseWith b BERTH_STATE.CFG_REJ nn sSTATE)
      else if off = 0x98 then some (asGiven (decide (v / 65536 % 65536 ≤ b.f BERTH_TLIM.TRIP_MAX nn)), plainWrite b k a v)
      else some (sOK, plainWrite b k a v)
    else if off = 0x80 then
      let b := plainWrite b k a v
      let clip := b.ftApplied BERTH_FT.FT_CODE nn != v % 256 || b.ftApplied BERTH_FT.FT_HELD nn != v / 256 % 256
      some (if clip then sLIMIT else sOK, b)
    else none
  else
    match FEED_CFG.FWD_MV.inst 2 a, FEED_CTL.FORCE_OFF.inst 2 a with
    | some _, _ =>
      let c := clampN 50 400 (bits v 16 9) * 65536 + clampN 2 20 (bits v 8 5) * 256 + clampN 10 50 (bits v 0 6)
      some (asGiven (c == bits v 16 9 * 65536 + bits v 8 5 * 256 + bits v 0 6), plainWrite b (w == .keeper) a c)
    | _, some n => some (sOK, feedForce b n (v % 2))
    | _, _ =>
      if a = 0x40030800 then
        some (asGiven (decide (tokCount (v % 8) ≤ tokCount (b.f BERTH_TOKENS.TOK_LIMIT 0))), plainWrite b (w == .keeper) a v)
      else none

/-- A loop that is neither DISABLED nor FAULTED, among those a phase names. -/
def loopLive (b : Blk) (n : Nat) : Bool := decide (n < 8) && b.lst n != lDISABLED && b.lst n != lFAULTED

/-- Writes in the LOOP and ENGINE blocks (R116 to R118, R129, R130, R152, R153, R157, R165, R222). -/
def wrLoop (t : Nat) (b : Blk) (w : Writer) (a v : Nat) : Option Wr :=
  let k := w == .keeper
  if 0x40040000 ≤ a ∧ a < 0x40042000 then
    let n := (a - 0x40040000) / 1024
    let off := a % 1024
    if off = 0x00 ∨ off = 0x0C ∨ off = 0x10 then
      some (if loopLive b n then refuseWith b LOOP_STATE.CFG_REJ n sSTATE else (sOK, plainWrite b k a v))
    else if off = 0x04 then
      let b := indexUpdate t ((b.setF LOOP_CTL.FORCE_EN n (bits v 11 1)).setF LOOP_CTL.FORCE_IDX n (bits v 8 3)) n
      some (enableWrite b w n (v % 2) (b.f LOOP_CTL.EN n) fun b =>
        if v % 2 = 1 then loopEnable t b n else loopDisable t b n)
    else if 0x20 ≤ off ∧ off < 0x40 then
      let b := vsetWrite t b n ((off - 0x20) / 4) (v % 65536)
      some (if b.f LOOP_KLIM.VSET_CEIL n < v % 65536 then sLIMIT else sOK, b)
    else if off = 0x40 ∨ off = 0x44 then
      let b := plainWrite b k a v
      some (sOK, loopReplan t b n)
    else if off = 0x50 then
      some (if b.f LOOP_KLIM.IOC_MAX n < v / 65536 % 65536 then sLIMIT else sOK, plainWrite b k a v)
    else none
  else if 0x40042000 ≤ a ∧ a < 0x40042180 ∧ a % 16 = 0 then
    let p := (a - 0x40042000) / 16
    let ls := [b.f PHASE_CFG.LOOP p, v % 16].filter (loopLive b)
    some (if ls.isEmpty then (sOK, plainWrite b k a v) else (sSTATE, ls.foldl (fun b n => b.flag LOOP_STATE.CFG_REJ n) b))
  else if 0x40070000 ≤ a ∧ a < 0x40070800 then
    let n := (a - 0x40070000) / 256
    let off := a % 256
    if off = 0x04 then
      some (sOK, if v % 2 = 1 then loopOpenRequest t b n else loopOpenClear t b n)
    else if off = 0x30 then
      some (if loopLive b n then refuseWith b LOOP_STATE.CFG_REJ n sSTATE else (sOK, plainWrite b k a v))
    else if 0x10 ≤ off ∧ off ≤ 0x2C then
      some (if coefAccepted b n then sOK else sLOOP_CLOSED, coefWrite b n ((off - 0x10) / 4) v)
    else none
  else none

/-- Writes in the IREG block (R141, R144, R222). -/
def wrIreg (t : Nat) (b : Blk) (w : Writer) (a v : Nat) : Option Wr :=
  let k := w == .keeper
  if 0x40060000 ≤ a ∧ a < 0x40060200 then
    let n := (a - 0x40060000) / 64
    let off := a % 64
    if off = 0x00 ∨ off = 0x14 then
      some (if b.ist n ≠ iDISABLED ∧ b.ist n ≠ iFAULTED then refuseWith b IB_STATE.CFG_REJ n sSTATE
        else (sOK, (fun b => if off = 0x14 then engClean b (128 + n) else b) (plainWrite b k a v)))
    else if off = 0x04 then
      some (enableWrite b w (8 + n) (v % 2) (b.f IB_CTL.EN n) fun b =>
        if v % 2 = 1 then buckEnable t b n else buckDisable t b n)
    else if off = 0x0C then
      some (if b.f IB_KLIM.VSET_CEIL n < v % 4096 then sLIMIT else sOK, plainWrite b k a v)
    else if off = 0x1C then
      some (if b.f IB_KLIM.ILIM_MAX n < v % 8192 then sLIMIT else sOK, plainWrite b k a v)
    else none
  else if 0x40061000 ≤ a ∧ a < 0x400610C0 then
    let n := (a - 0x40061000) / 32
    let off := a % 32
    if off = 0x00 then
      some (if b.dst n ≠ iDISABLED ∧ b.dst n ≠ iFAULTED then refuseWith b LDO_STATE.CFG_REJ n sSTATE
        else (sOK, plainWrite b k a v))
    else if off = 0x04 then
      let code := bits v 8 8
      let b := ldoCodeWrite b n code
      let y := enableWrite b w (16 + n) (v % 2) (b.f LDO_CTL.EN n) fun b =>
        if v % 2 = 1 then ldoEnable t b n else ldoDisable t b n
      some (if y.1 = sOK ∧ b.ldoCode n < code then (sLIMIT, y.2) else y)
    else none
  else none

/-- Writes in the ADC, ACC, CMP and THERM blocks (R178, R189, R191, R192, R202, R211, R469, table Throttle sources). -/
def wrMeas (t : Nat) (b : Blk) (w : Writer) (origin a v : Nat) : Option Wr :=
  let k := w == .keeper
  let claimed (F : Fld) (n : Nat) : Option Wr :=
    (F.inst n a).map fun i => if b.on F i && !k then (sCONFLICT, b) else (sOK, plainWrite b k a v)
  let r := claimed ADC_SLOT_A.CLAIM 48 <|> claimed ADC_SLOT_B.CLAIM 48 <|> claimed BLANK_CFG.CLAIM 8 <|>
    claimed MON_CFG.CLAIM 32
  let acc (F : Fld) : Option Wr :=
    (F.inst 128 a).map fun i =>
      if k then (sOK, plainWrite b k a v)
      else if b.on F i then (sCONFLICT, b)
      else if origin = 2 ∨ origin = 3 then (sOK, plainWrite b k a v) else (sDENIED, b)
  let r := r <|> acc ACC_CFG.CLAIM <|> acc ACC_TRK_CFG.CLAIM
  let r := r <|> (ACC_LATCH.REQ.inst 4 a).map fun i => (sOK, accLatchMask t b i v)
  let r := r <|> (ACC_TLATCH.REQ.inst 4 a).map fun i => (sOK, trkLatchMask b i v)
  let r := r <|> (if 0x40091000 ≤ a ∧ a ≤ 0x4009108C then
    some (if v = 0 then (sSTATE, b) else (sOK, plainWrite b k a v)) else none)
  let r := r <|> (if a = 0x400C0200 then some (sOK, brokenClear b origin v) else none)
  let thr (i : Nat) : Wr :=
    let c := plainWrite b k a v
    (sOK, if b.on THR_CTL.ENFORCED i then enforceDue (enforceDue c (b.f THR_CFG.LOOP i)) (c.f THR_CFG.LOOP i) else c)
  let r := r <|> ((THR_CFG.LOOP.inst 4 a <|> THR_ENF.ENF_IDX.inst 4 a).map thr)
  r <|> (THR_CTL.HOST_REQ.inst 4 a).map fun _ => (sOK, if origin = 0 then b else plainWrite b k a v)

/-! Sequencer configuration (R239) -/

/-- The groups in whose FIRST and COUNT range a step lies. -/
def stepGroups (b : Blk) (k : Nat) : List Nat :=
  (List.range 8).filter fun g =>
    decide (b.f SEQ_GRP_CFG.FIRST g ≤ k ∧ k < b.f SEQ_GRP_CFG.FIRST g + b.f SEQ_GRP_STEPS.COUNT g)

/-- The groups that name an output: by a step mask or by GROUP. -/
def outGroups (b : Blk) (o : Nat) : List Nat :=
  (List.range 8).filter fun g =>
    b.f SEQ_OUT_CFG.GROUP o == g ||
    (List.range (b.f SEQ_GRP_STEPS.COUNT g)).any fun i => bit (stepMask b (poolStep b g i)) o

/-- An output is in two groups, or a step is. -/
def seqConflict (b : Blk) : Bool :=
  (List.range 64).any fun x => decide (1 < (stepGroups b x).length) || decide (1 < (outGroups b x).length)

/-- A configuration write of the sequencer, with the groups it concerns. -/
def seqCfgWrite (b : Blk) (w : Writer) (gs : List Nat) (a v : Nat) : Wr :=
  let b' := plainWrite b (w == .keeper) a v
  if w = .keeper then (sOK, b')
  else if seqConflict b' then (sCONFLICT, b)
  else
    let busy := gs.filter fun g => b.gst g != gIDLE
    if busy.isEmpty then (sOK, b') else (sSTATE, busy.foldl (fun b g => b.flag SEQ_GRP_STATE.CFG_REJ g) b)

/-- The same result, LIMIT in place of OK where the value was reduced. -/
def seqLimited (same : Bool) (r : Wr) : Wr := (if r.1 = sOK ∧ !same then sLIMIT else r.1, r.2)

/-- Writes in the SEQ block (R230, R232 to R234, R239). -/
def wrSeq (t : Nat) (b : Blk) (w : Writer) (origin a v : Nat) : Option Wr :=
  if 0x400D0000 ≤ a ∧ a < 0x400D0100 then
    let g := (a - 0x400D0000) / 32
    let off := a % 32
    if off = 0x00 then
      let c := v / 2 ^ 27 * 2 ^ 27 + clampN 5 1000 (bits v 16 11) * 65536 + v % 65536
      some (seqLimited (c == v) (seqCfgWrite b w [g] a c))
    else if off = 0x04 then some (seqCfgWrite b w [g] a v)
    else if off = 0x08 then
      let bar := b.safeNow && (bit v 0 || bit v 2)
      let b := if bit v 1 then seqStop t b g 1 else b
      let b := if bit v 2 then seqAck t b g else b
      let b := if bit v 0 then seqStart t b g origin else b
      let b := if bit v 3 then seqAllOffReq t b g else b
      some (if bar then sSTATE else sOK, b)
    else none
  else if 0x400D1000 ≤ a ∧ a < 0x400D1800 then
    let k := (a - 0x400D1000) / 32
    let off := a % 32
    let (given, c) : Nat × Nat :=
      if off = 0x08 then (bits v 16 14 * 65536 + bits v 0 14, min 10000 (bits v 16 14) * 65536 + clampN 10 10000 (bits v 0 14))
      else if off = 0x0C then (bits v 0 21, clampN 100 2000000 (bits v 0 21))
      else if off = 0x10 then
        (v / 2 ^ 24 * 2 ^ 24 + bits v 0 21, v / 2 ^ 24 * 2 ^ 24 + clampN 100 2000000 (bits v 0 21))
      else (v, v)
    some (seqLimited (c == given) (seqCfgWrite b w (stepGroups b k) a c))
  else if 0x400D2000 ≤ a ∧ a < 0x400D2100 then
    let g := b.f SEQ_OUT_CFG.GROUP ((a - 0x400D2000) / 4)
    some (seqCfgWrite b w (if g < 8 then [g] else []) a v)
  else none

/-- Writes in the KEEP/CHG and GAUGE blocks (R253, R254, R270, R275). -/
def wrKeep (t : Nat) (b : Blk) (w : Writer) (a v : Nat) : Option Wr :=
  let k := w == .keeper
  match a with
  | 0x400E0040 =>
    some (if b.cst ≠ cOFF then refuseWith b CHG_CFG.CFG_REJ 0 sSTATE else (sOK, plainWrite b k a v))
  | 0x400E0080 => some (if b.cst ≠ cOFF then refuseWith b CHG_CFG.CFG_REJ 0 sSTATE else (sOK, plainWrite b k a v))
  | 0x400E0084 => some (if b.cst ≠ cOFF then refuseWith b CHG_CFG.CFG_REJ 0 sSTATE else (sOK, plainWrite b k a v))
  | 0x400E0044 =>
    let bar := v % 2 = 1 ∧ b.safeNow
    let b := if bit v 1 then chgSuspend t b else b
    let b := if v % 2 = 0 then chgDisable t b else chgEnable t b
    some (if bar then sSTATE else sOK, if bit v 1 then b else chgResume t b)
  | 0x400E0048 =>
    let b := chgReplan b (plainWrite b k a v)
    some (if ichgApplied b < bits v 0 13 ∨ vcellApplied b < v / 65536 % 65536 then sLIMIT else sOK, b)
  | 0x400E004C => some (sOK, chgReplan b (plainWrite b k a v))
  | 0x400E0050 => some (sOK, chgReplan b (plainWrite b k a v))
  | 0x400F0140 => some (sOK, gaugeCommit b b.biv.osf v)
  | _ => none

/-- Writes in the BIV block (R278, R281, R285, R287, R290, R291, R293, R294). -/
def wrBiv (t : Nat) (b : Blk) (w : Writer) (a v : Nat) : Option Wr :=
  if 0x40100000 ≤ a ∧ a < 0x4010001C then some (sOK, rtcStageWrite b w ((a - 0x40100000) / 4) v)
  else if 0x40100100 ≤ a ∧ a < 0x40100200 then
    some (sOK, forAll 4 b fun i b => ramWrite b w (a - 0x40100100 + i) (v / 256 ^ i % 256))
  else
    match a with
    | 0x4010001C => some (sOK, rtcStatusWrite b w v)
    | 0x40100028 =>
      let b := plainWrite b false a v
      some (sOK, if bit v 31 then measStart t b else b)
    | 0x4010002C => some (sOK, alarmWrite b v)
    | 0x40100034 =>
      let b := plainWrite b false a v
      some (sOK, wakeCause b (wakeLevels b))
    | 0x4010003C => some (sOK, wakeOutWrite b w v)
    | 0x40100044 => some (sOK, if bit v 1 then switchClear b else b)
    | 0x4010004C => some (sOK, stbyWrite t b v)
    | _ => none

/-- Writes in the FAULT, WDOG, ECC, OTP, LOG, SYSCTL and HOST blocks that act on the device alone (R307, R308, R312, R329,
R331, R333, R336, R352, R463). -/
def wrSys (t : Nat) (b : Blk) (w : Writer) (a v : Nat) : Option Wr :=
  if 0x40120000 ≤ a ∧ a < 0x40130000 then
    if !wdWriter b w then some (sDENIED, b)
    else
      match a with
      | 0x40120000 => some (sOK, if b.on WD_CFG.LOCKED 0 then b else wdShow t (plainWrite b false a v))
      | 0x40120004 => some (sOK, if v % 2 = 1 then wdLock t b w else b)
      | 0x40120008 => some (sOK, wdCheckin b w (v % 16))
      | 0x4012000C => some (sOK, wdKey t b w v)
      | _ => some (sOK, plainWrite b false a v)
  else
    match a with
    | 0x40110000 => some (sOK, faultClear t b w 0 v)
    | 0x40110004 => some (sOK, faultClear t b w 1 v)
    | 0x40110008 => some (sOK, faultClear t b w 2 v)
    | 0x40110030 => some (sOK, if v % 2 = 1 then safeExit t b w else b)
    | 0x40130048 =>
      let b := plainWrite b false a v
      let b := if bit v 30 then scrubAbort b else b
      some (sOK, if bit v 31 then scrubGo b else b)
    | 0x40140000 => some (if w = .keeper then (sOK, plainWrite b false a v) else (sDENIED, b))
    | 0x40140004 => some (if w = .keeper then (sOK, plainWrite b false a v) else (sDENIED, b))
    | 0x40140008 =>
      let key := bits v 8 8
      if w ≠ .keeper then some (sDENIED, b)
      else match v % 16 with
      | 1 => some (sOK, otpCmdProgram b w key)
      | 2 => some (sOK, otpCmdIncrement b w key)
      | 3 => some (sOK, otpCmdFinalise b w key)
      | _ => some (sOK, otpGuard b w 0 id)
    | 0x40150010 =>
      some (sOK, if v % 2 = 1 ∧ w = .pilot then
        logSnap t b ((b.msg.map fun r => msgTag r.msg).getD 0) ((b.msg.map (·.port)).getD 0) else b)
    | 0x40000230 => some (sOK, if w = .pilot ∨ w = .keeper then sysRestart t b v else b)
    | _ => none

/-- Writes of the ECC_TEST registers (R329, R330). -/
def wrEcc (t : Nat) (x : MB) (w : Writer) (a v : Nat) : Option (Nat × MB) :=
  if 0x40130020 ≤ a ∧ a ≤ 0x40130030 then
    if w ≠ .pilot ∧ w ≠ .keeper then some (sDENIED, x)
    else
      let x : MB := (x.1, plainWrite x.2 false a v)
      if a = 0x40130020 then
        let x := if bit v 0 then eccTestGo t x w else x
        some (sOK, if bit v 1 then eccTestRead x w else x)
      else some (sOK, x)
  else none

/-- A reserved offset of the register space: no register and no byte of Bivouac RAM lies there (R459). -/
def reservedAt (a : Nat) : Bool := (findReg a).isNone && !(decide (0x40100000 ≤ a) && decide (a < 0x40100200))

/-- Pilot's data area of flash (table Flash layout). -/
def pilotData (a : Nat) : Bool := decide (0x10400000 ≤ a) && decide (a < 0x10700000)

/-- A write of Pilot into flash (R326, R369): in its data area the 64-bit word that holds the address is programmed with the 32 bits given
and ones beside them (DESIGN CHOICE), or refused; elsewhere refused. -/
def flashStore (m : Mem) (w : Writer) (a v : Nat) : Nat × Mem :=
  if w = .pilot ∧ pilotData a ∧ m.flashTakes (a / 8 * 8) 1 then
    (sOK, m.flashWrite (a / 8 * 8) (if a / 4 % 2 = 0 then leBytes 4 v else [255, 255, 255, 255] ++ leBytes 4 v) 1)
  else (sSTATE, m)

/-- A write by Keeper, Pilot, Tender or a host port taking effect at edge `t`; `origin` is its class (R90). A write of Pilot to Keeper's
SRAM is an exception of Pilot's (R366); ROM is written by no access. PILOT_READY and QP_POST are not among these registers. -/
def busWrite (t : Nat) (x : MB) (w : Writer) (origin a v : Nat) : Nat × MB :=
  let (m, b) := x
  if isSram a then
    if w = .pilot ∧ Config.keeperSram a then (sSTATE, m, b.raise t 1 0xFFFF) else (sOK, devWrite t x a (leBytes 4 v))
  else if isFlash a then
    let y := flashStore m w a v
    (y.1, y.2, b)
  else if isRom a then (sOK, x)
  else if reservedAt a then (sOK, x)
  else
    match wrEcc t x w a v with
    | some y => y
    | none =>
      match wrBerth t b w origin a v <|> wrLoop t b w a v <|> wrIreg t b w a v <|> wrMeas t b w origin a v <|>
          wrSeq t b w origin a v <|> wrKeep t b w a v <|> wrBiv t b w a v <|> wrSys t b w a v with
      | some y => (y.1, m, y.2)
      | none => (sOK, m, plainWrite b (w == .keeper) a v)

end Sys2Proof.Machine
end

