-- ==== Sys2Proof/Machine/Checker.lean ====
section
/-! DEFINITION. Keeper's checks of a configuration image: spec/15_firmware_config.md (R376, R377, R381, R466) with the field
rules it names and the engine budget of spec/01_tick_and_hierarchies.md (R20 to R23). -/
namespace Sys2Proof.Machine

/-- A configuration image as read from its header and records (table Configuration image layout). -/
structure Img where
  seq : Nat := 0
  epoch : Nat := 0
  signed : Bool := false
  recs : List (Nat × Nat) := []
  deriving DecidableEq, Repr

/-- The record area of an image of a LENGTH, SIGNED or not. -/
def recBytes (len : Nat) (signed : Bool) : Nat := len - 36 - (if signed then 64 else 0)

/-- MAGIC, FORMAT and LENGTH of a header (check 1). -/
def headOk (h : List Nat) : Bool :=
  let len := leAt h 12 4
  let sg := bit (h.getD 9 0) 0
  leAt h 0 4 == 0x46434853 && leAt h 10 2 == 1 && len % 4 == 0 && decide (len ≤ 65536) &&
  decide (36 + (if sg then 64 else 0) ≤ len) && recBytes len sg % 8 == 0

/-- An image read from the bytes of a slot whose check 1 has passed. -/
def imgOf (l : List Nat) : Img :=
  let sg := bit (l.getD 9 0) 0
  { seq := leAt l 4 4
    epoch := l.getD 8 0
    signed := sg
    recs := (List.range (recBytes (leAt l 12 4) sg / 8)).map fun i => (leAt l (32 + 8 * i) 4, leAt l (36 + 8 * i) 4) }

/-- The kind of a record: 0 WRITE, 1 CLAIM, 2 TASK. -/
def recKind (r : Nat × Nat) : Nat := r.1 % 4

/-- Task type, instance, engine and slot of a TASK record. -/
def recTask (r : Nat × Nat) : Task := ⟨r.2 % 256, r.1 / 4 % 64, r.1 / 256, r.2 / 256 % 256⟩

/-- Head and tail cycles, and the number of instances, of a task type (table Deadline task costs). -/
def taskCost (kind : Nat) : Nat × Nat :=
  [(20, 40), (5, 20), (6, 12), (4, 8), (10, 0), (16, 0), (20, 0)].getD kind (0, 0)
def taskCount (kind : Nat) : Nat := [8, 8, 1, 6, 6, 2, 1].getD kind 0

/-- The WRITE records and the tasks of an image. -/
def Img.writes (im : Img) : List (Nat × Nat) := im.recs.filter fun r => recKind r == 0
def Img.tasks (im : Img) : List Task := (im.recs.filter fun r => recKind r == 2).map recTask
/-- The codes of the CLAIM records. -/
def Img.claims (im : Img) : List Nat := (im.recs.filter fun r => recKind r == 1).map (·.2)

/-! The configuration an image gives -/

/-- The fields stated as set from the image, and FAULT_SEV (R376). -/
def fromImage (F : Fld) : Bool :=
  F == HOST_PORT_CFG.CLASS || F == HW_CFG.NODE_ID || F == HW_CFG.MASTER_ID || F == ENG_LOOP_CFG.LIVE_TUNE ||
  F == ENG_LOOP_CFG.ENGINE || F == ENG_LOOP_CFG.SLOT || F == LOG_LIST.ADDR || F == LOG_LIST.VALID || F == FAULT_SEV.SEV

/-- A field that a WRITE record may name. -/
def imgField (F : Fld) : Bool := F.acc == .rw || fromImage F

/-- The register of a WRITE has a field that it may name. -/
def writable (a : Nat) : Bool := match findReg a with
  | some (r, _) => r.flds.any imgField
  | none => false

/-- The fields of one WRITE record set; `ok` picks them. -/
def putFields (ok : Fld → Bool) (b : Blk) (r : Nat × Nat) : Blk :=
  match findReg r.1 with
  | some (d, i) => d.flds.foldl (fun b F => if ok F then b.setF F i (bits r.2 F.lo F.w) else b) b
  | none => b

/-- The limit fields alone, as loaded from LIMITS. -/
def limitView (b : Blk) : Blk :=
  regMap.foldl (fun v r => forAll r.count v fun i v =>
    r.flds.foldl (fun v F => if F.acc = .ko ∧ F ≠ FAULT_SEV.SEV then v.setF F i (b.f F i) else v) v) {}

/-- The fields that an image over the reset values and the limits would give. -/
def imgView (b : Blk) (im : Img) : Blk := im.writes.foldl (putFields imgField) (limitView b)

/-- An address of a field, and its resource code. -/
def Fld.at_ (F : Fld) (i : Nat) : Nat := F.base + F.stride * i
def fieldCode (a : Nat) : Nat := 0x0C000000 + (a - 0x40000000) / 4
def fldCode (F : Fld) (i : Nat) : Nat := fieldCode (F.at_ i)

/-! Converter slots (R175 to R177) -/

/-- MODE, CH and CH2 of slot `i` of converter `k`. -/
def slotMode (c : Blk) (k i : Nat) : Nat := if k = 0 then c.f ADC_SLOT_A.MODE i else c.f ADC_SLOT_B.MODE i
def slotCh (c : Blk) (k i : Nat) : Nat := if k = 0 then c.f ADC_SLOT_A.CH i else c.f ADC_SLOT_B.CH i
def slotCh2 (c : Blk) (k i : Nat) : Nat := if k = 0 then c.f ADC_SLOT_A.CH2 i else c.f ADC_SLOT_B.CH2 i

/-- A slot converts a channel, by FIXED or ALT, in every tick of a parity. -/
def slotConv (c : Blk) (ch par k i : Nat) : Bool :=
  let m := slotMode c k i
  (m == 0 && slotCh c k i == ch) || (m == 1 && (if par = 0 then slotCh c k i else slotCh2 c k i) == ch)

/-- All configurable slots: converter and index. -/
def allSlots : List (Nat × Nat) := (List.range 48).flatMap fun i => [(0, i), (1, i)]

/-- The earliest entry, converter and slot, that converts a channel in the ticks of a parity. -/
def convAt (c : Blk) (ch par : Nat) : Option (Nat × Nat) := allSlots.find? fun s => slotConv c ch par s.1 s.2

/-- A channel is converted in every tick. -/
def convEvery (c : Blk) (ch : Nat) : Bool := (convAt c ch 0).isSome && (convAt c ch 1).isSome

/-- The TOKEN entries of a token. -/
def tokenAt (c : Blk) (k : Nat) : List (Nat × Nat) := allSlots.filter fun s => slotMode c s.1 s.2 == 3 && slotCh c s.1 s.2 == k

/-- The code of a slot, and what a refusal names where an entry is missing (R177). -/
def slotCode (k i : Nat) : Nat := 0x01000000 + 64 * k + i
def entryCode (s : Option (Nat × Nat)) : Nat := match s with
  | some s => slotCode s.1 s.2
  | none => Config.noSlotCode

/-- What a refusal at check 6 that names a channel puts into CFG_REJECT: a code of class 0x0C, whose field the spec does not give. -/
def chanCode (ch : Nat) : Nat := 0x0C000000 + Config.channelField ch % 2 ^ 24

/-- The results a sampled task reads in a tick, each by what a refusal names when it is not there and its entry (R176). -/
def taskReads (c : Blk) (kind inst : Nat) : List (Nat × Option (Nat × Nat)) :=
  let ch (x : Nat) : List (Nat × Option (Nat × Nat)) := [(chanCode x, convAt c x 0), (chanCode x, convAt c x 1)]
  match kind with
  | 0 => ch (0x58 + inst)
  | 1 => ch (0x60 + inst)
  | 2 => ch 0x7A ++ ch 0x7B
  | 3 => (Config.noSlotCode, (tokenAt c inst).head?) :: ch 0x70
  | _ => []

/-- The entry of the latest result of a task. -/
def taskEntry (c : Blk) (kind inst : Nat) : Option (Nat × Nat) :=
  (taskReads c kind inst).foldl (fun m x => match m, x.2 with
    | some a, some e => if a.2 < e.2 then some e else some a
    | none, e => e
    | m, none => m) none

/-- The sample slot of a task (R176). -/
def taskSlot (c : Blk) (kind inst : Nat) : Option Nat :=
  if (taskReads c kind inst).all (·.2.isSome) then (taskEntry c kind inst).map (·.2) else none

/-- What a refusal of a task under R176 names: the channel of a result that no entry gives, or the slot of its latest result. -/
def taskCode (c : Blk) (kind inst : Nat) : Nat := match (taskReads c kind inst).find? (·.2.isNone) with
  | some x => x.1
  | none => entryCode (taskEntry c kind inst)

/-- The default engine assignment, for the tasks whose samples the slot table gives (table Default engine assignment). -/
def defaultTasks (c : Blk) : List Task :=
  let one (eng kind inst : Nat) : List Task :=
    if 4 ≤ kind then [⟨eng, kind, inst, 0⟩]
    else match taskSlot c kind inst with
      | some s => [⟨eng, kind, inst, s⟩]
      | none => []
  ((List.range 8).flatMap fun n => one (n / 2) 0 n ++ one (n / 2) 1 n) ++ one 3 2 0 ++
  ((List.range 6).flatMap fun k => one 4 3 k) ++ ((List.range 6).flatMap fun k => one 4 4 k) ++
  one 4 5 0 ++ one 4 5 1 ++ one 4 6 0

/-- The task list of an image: its TASK records, or the default assignment when it has none. -/
def tasksOf (c : Blk) (im : Img) : List Task := if im.tasks.isEmpty then defaultTasks c else im.tasks

/-! Objects in use (R466): managed output IDs 0 to 53 -/

/-- The object whose own register lies at an address. -/
def ownerOf (a : Nat) : Option Nat :=
  if 0x40040000 ≤ a ∧ a < 0x40042000 then some ((a - 0x40040000) / 1024)
  else if 0x40070000 ≤ a ∧ a < 0x40070800 then some ((a - 0x40070000) / 256)
  else if 0x40060000 ≤ a ∧ a < 0x40060200 then some (8 + (a - 0x40060000) / 64)
  else if 0x40061000 ≤ a ∧ a < 0x400610C0 then some (16 + (a - 0x40061000) / 32)
  else if 0x40010000 ≤ a ∧ a < 0x40012000 then some (22 + (a - 0x40010000) / 256)
  else none

/-- An entry names a channel: its own, those of the ticks of both parities, or one of a BEAT or QUAD run. -/
def slotNames (c : Blk) (ch k i : Nat) : Bool :=
  let run (n : Nat) : Bool := decide (slotCh c k i ≤ ch) && decide (ch < slotCh c k i + n)
  match slotMode c k i with
  | 0 => run 1
  | 1 => run 1 || slotCh2 c k i == ch
  | 2 => run 16
  | 5 => run 4
  | _ => false

/-- The WRITE records assign a channel a converter slot: they write an entry that names it. -/
def slotGiven (c : Blk) (im : Img) (ch : Nat) : Bool :=
  allSlots.any fun s => slotNames c ch s.1 s.2 &&
    im.writes.any fun r => r.1 == (if s.1 = 0 then ADC_SLOT_A.CLAIM else ADC_SLOT_B.CLAIM).at_ s.2

/-- An object in use. DEDUCED: a converter slot is assigned by a WRITE record of its entry, not by the slot plan of reset; a berth's are those
of its current and of its VOUT. -/
def inUse (c : Blk) (im : Img) (o : Nat) : Bool :=
  decide (c.f SEQ_OUT_CFG.GROUP o < 8) ||
  (decide (22 ≤ o ∧ o < 54) && c.on BERTH_CFG.EARLY (o - 22)) ||
  (decide (o < 8) && (List.range 24).any fun p => c.f PHASE_CFG.LOOP p == o) ||
  (if o < 22 then slotGiven c im (0x58 + o) else slotGiven c im (o - 22) || slotGiven c im (0x20 + (o - 22))) ||
  (im.tasks.any fun x => (x.kind == 0 && x.inst == o) || (x.kind == 1 && x.inst + 8 == o)) ||
  (im.writes.any fun r => ownerOf r.1 == some o) ||
  (im.claims.any fun x => decide (0x0C000000 ≤ x) && decide (x < 0x0D000000) &&
    ownerOf (0x40000000 + (x - 0x0C000000) * 4) == some o)

/-! Check 5: resources (R381) -/

/-- A claim on a resource: its code, the capacity and the amount (capacity 0 = one claimant), and the group or setting
that may claim it again. -/
structure Claim where
  code : Nat
  cap : Nat := 0
  amount : Nat := 1
  again : Option Nat := none
  deriving DecidableEq, Repr

/-- The group whose steps hold a pool entry. -/
def groupOfStep (c : Blk) (k : Nat) : Option Nat := (stepGroups c k).head?

/-- The claims of a write at an address of register instance `i` of `n`. -/
def claimAt (F : Fld) (n a : Nat) (f : Nat → List Claim) : List Claim := match F.inst n a with
  | some i => f i
  | none => []

/-- The claim of pin `i` of a group (0 VSEL, 1 MON, 2 EN, 3 TX, 4 phase). -/
def pinClaim (g i : Nat) : Claim := { code := 0x02000000 + 256 * g + i }

/-- What SRC, SEL and LEN of a blanking timer are in the image, by which two claims of it agree (R202). -/
def timerSet (c : Blk) (i : Nat) : Nat := c.f BLANK_CFG.SRC i + 4 * c.f BLANK_CFG.SEL i + 2 ^ 7 * c.f BLANK_CFG.LEN i

/-- What a WRITE of a register claims beside its field (R381): the VSEL pins of a loop, the pin of a phase, of a monitor, of an EN output in a
group and of an external sensor, converter slots, blanking timers, accumulators, trackers, inrush tokens, token IDs, LIVE_TUNE,
managed outputs, pool entries. -/
def writeClaims (c : Blk) (a v : Nat) : List Claim :=
  let outs (lo k : Nat) : List Claim := match groupOfStep c k with
    | some g => (bitsSet 32 v).map fun o => { code := 0x08000000 + (lo + o), again := some g }
    | none => []
  claimAt LOOP_CFG.SCALE 8 a (fun _ => ([bits v 16 4, bits v 20 4, bits v 24 4].filter (· < 12)).map (pinClaim 0)) ++
  claimAt PHASE_CFG.LOOP 24 a (fun p => if v % 16 < 8 then [pinClaim 4 p] else []) ++
  claimAt MON_CFG.DIV 32 a (fun k => pinClaim 1 k ::
    (if c.f MON_CFG.BLANK k < 8 then
      [{ code := 0x03000000 + c.f MON_CFG.BLANK k, again := some (timerSet c (c.f MON_CFG.BLANK k)) }] else [])) ++
  claimAt TS_CFG.WIN_SR 12 a (fun s => if 4 ≤ s then [pinClaim 3 (s - 4)] else []) ++
  claimAt ADC_SLOT_A.CLAIM 48 a (fun i => if slotMode c 0 i < 6 then [{ code := slotCode 0 i }] else []) ++
  claimAt ADC_SLOT_B.CLAIM 48 a (fun i => if slotMode c 1 i < 6 then [{ code := slotCode 1 i }] else []) ++
  claimAt BLANK_CFG.SRC 8 a (fun i => [{ code := 0x03000000 + i, again := some (timerSet c i) }]) ++
  claimAt ACC_CFG.CLAIM 128 a (fun i => [{ code := 0x04000000 + i }]) ++
  claimAt ACC_TRK_CFG.CLAIM 128 a (fun i => [{ code := 0x05000000 + i }]) ++
  claimAt BERTH_CFG.EARLY 32 a (fun _ => if bit v 6 then [{ code := 0x07000000, cap := c.tokensInUse }] else []) ++
  claimAt SEQ_STEP_TOK.WAIT_EN 64 a (fun _ =>
    (if bit v 31 then [{ code := 0x0A000000 + 2 * bits v 16 8 }] else []) ++
    (if bit v 15 then [{ code := 0x0A000001 + 2 * bits v 0 8 }] else [])) ++
  claimAt ENG_LOOP_CFG.LIVE_TUNE 8 a (fun _ => if bit v 31 then [{ code := 0x0B000000, cap := 2 }] else []) ++
  claimAt SEQ_OUT_CFG.GROUP 64 a (fun o => if v % 16 < 8 then
    { code := 0x08000000 + o, again := some (v % 16) } :: (if 54 ≤ o then [pinClaim 2 (o - 54)] else []) else []) ++
  claimAt SEQ_GRP_STEPS.COUNT 8 a (fun g =>
    (List.range (bits v 16 5)).map fun k => { code := 0x09000000 + (c.f SEQ_GRP_CFG.FIRST g + k), again := some g }) ++
  claimAt SEQ_STEP_OUT_LO.MASK 64 a (outs 0) ++ claimAt SEQ_STEP_OUT_HI.MASK 64 a (outs 32)

/-- The claims of a record. -/
def claimsOf (c : Blk) (r : Nat × Nat) : List Claim :=
  match recKind r with
  | 0 => writeClaims c r.1 r.2 ++ [{ code := fieldCode r.1 }]
  | 1 => [{ code := r.2 }]
  | 2 =>
    let x := recTask r
    let w := (taskCost x.kind).1 + (taskCost x.kind).2
    [{ code := 0x0D000000 + x.kind * 256 + x.inst }, { code := 0x06000000 + x.eng, cap := 190, amount := w }]
  | _ => []

/-- A resource as held: code, record of the first claimant, sum claimed, group or setting. -/
abbrev Held5 := List (Nat × Nat × Nat × Option Nat)

/-- One claim of record `i` against the resources held: the refusal, or the resources after. -/
def claimOne (i : Nat) (held : Held5) (x : Claim) : Except (Nat × Nat × Nat) Held5 :=
  match held.find? fun h => h.1 == x.code with
  | none => if x.cap ≠ 0 ∧ x.cap < x.amount then .error (x.code, i, i) else .ok ((x.code, i, x.amount, x.again) :: held)
  | some h =>
    if x.cap = 0 then (if x.again.isSome ∧ x.again = h.2.2.2 then .ok held else .error (x.code, h.2.1, i))
    else if x.cap < h.2.2.1 + x.amount then .error (x.code, h.2.1, i)
    else .ok ((x.code, h.2.1, h.2.2.1 + x.amount, none) :: held.filter fun y => y.1 != x.code)

/-- The claims of an image in record order. -/
def claimAll (c : Blk) : Nat → Held5 → List (Nat × Nat) → Option (Nat × Nat × Nat)
  | _, _, [] => none
  | i, held, r :: rest =>
    match (claimsOf c r).foldl (fun acc x => match acc with
      | .error e => .error e
      | .ok h => claimOne i h x) (Except.ok held : Except (Nat × Nat × Nat) Held5) with
    | .error e => some e
    | .ok h => claimAll c (i + 1) h rest

/-! Check 6: field rules. Each rule is a list of codes with what breaks it -/

/-- The first code whose rule is broken. -/
def firstBroken (l : List (Nat × Bool)) : Option Nat := (l.find? (·.2)).map (·.1)

/-- A task put into a list that rises by sample slot; of equals the first stays first. -/
def insTask (x : Task) : List Task → List Task
  | [] => [x]
  | y :: r => if x.slot < y.slot then x :: y :: r else y :: insTask x r

/-- The finishing cycle of a task list (R22). -/
def finishOf (l : List Task) : Nat :=
  let heads := (l.map fun x => (taskCost x.kind).1).sum
  let sampled := (l.filter fun x => (taskCost x.kind).2 != 0).foldl (fun acc x => insTask x acc) []
  sampled.foldl (fun t x => max t (4 * x.slot + 40) + (taskCost x.kind).2) heads

/-- R23 for one engine. -/
def engineBroken (l : List Task) : Bool :=
  decide (190 < (l.map fun x => (taskCost x.kind).1 + (taskCost x.kind).2).sum) || decide (200 < finishOf l) ||
  l.any fun x => (taskCost x.kind).2 != 0 && decide (160 < (taskCost x.kind).2 + 4 * x.slot)

/-- R23, with the task records of no task of the table. -/
def rulesEngines (c : Blk) (im : Img) : List (Nat × Bool) :=
  (im.tasks.map fun x => (0x0D000000 + x.kind * 256 + x.inst, decide (4 < x.eng) || decide (taskCount x.kind ≤ x.inst))) ++
  (List.range 5).map fun e => (0x06000000 + e, engineBroken ((tasksOf c im).filter fun x => x.eng == e))

/-- R66, R83 and the sensor codes for a berth. -/
def rulesBerth (c : Blk) (im : Img) : List (Nat × Bool) :=
  ((List.range 32).filter fun nn => inUse c im (22 + nn)).flatMap fun nn =>
    let rcb := c.f BERTH_TW_RTH.RCB nn
    let rba := c.f BERTH_TW_RTH.RBA nn
    let cc := c.f BERTH_TW_C.CC nn
    let cb := c.f BERTH_TW_C.CB nn
    [(fldCode BERTH_PROF_V.VMAX nn, c.f BERTH_PROF_V.VMAX nn == 0),
     (fldCode BERTH_PROF_AJ.AMAX nn, c.f BERTH_PROF_AJ.AMAX nn == 0 || c.f BERTH_PROF_AJ.JMAX nn == 0),
     (fldCode BERTH_TW_R.R20 nn, c.f BERTH_TW_R.R20 nn == 0),
     (fldCode BERTH_TW_RTH.RCB nn, rcb == 0 || rba == 0 || decide (rcb * cc < 80) || decide (rba * cb < 80)),
     (fldCode BERTH_TW_C.CC nn, cc == 0 || cb == 0),
     (fldCode BERTH_TW_LIM.WARN nn, decide (c.f BERTH_TW_LIM.TRIP nn < c.f BERTH_TW_LIM.WARN nn)),
     (fldCode BERTH_TW_AMB.AMB_SRC nn, decide (12 ≤ c.f BERTH_TW_AMB.AMB_SRC nn)),
     (fldCode BERTH_CFG.SOA_REF nn, decide (12 ≤ c.f BERTH_CFG.SOA_REF nn))]

/-- The VSEL codes of a loop. -/
def vselCodes (c : Blk) (n : Nat) : List Nat := [c.f LOOP_CFG.VSEL0 n, c.f LOOP_CFG.VSEL1 n, c.f LOOP_CFG.VSEL2 n]

/-- The sample slot of a task: that of its TASK record, else where the slot table converts its voltage. -/
def slotOf (c : Blk) (im : Img) (kind inst : Nat) : Option Nat :=
  ((tasksOf c im).find? fun x => x.kind == kind && x.inst == inst).map (·.slot) <|> (taskEntry c kind inst).map (·.2)

/-- R128, R158 and R171 for a loop. -/
def rulesLoop (c : Blk) (im : Img) : List (Nat × Bool) :=
  let used := (List.range 8).filter fun n => inUse c im n
  ((List.range 24).map fun p =>
    (fldCode PHASE_CFG.LOOP p, decide (8 ≤ c.f PHASE_CFG.LOOP p) && decide (c.f PHASE_CFG.LOOP p < 15))) ++
  used.flatMap fun n =>
    let phases := (List.range 24).filter fun p => c.f PHASE_CFG.LOOP p == n
    let vs := vselCodes c n
    let pins := vs.filter (· < 12)
    let others := (used.filter (· != n)).flatMap (vselCodes c)
    let kbus := c.on LOOP_CFG.KBUS_SRC n
    let grp := c.f SEQ_OUT_CFG.GROUP n
    [(fldCode PHASE_CFG.LOOP (phases.getD 16 0), decide (16 < phases.length)),
     (fldCode LOOP_CFG.SCALE n,
       (vs.any fun p => decide (12 ≤ p ∧ p ≤ 14)) || pins.any fun p => decide (1 < (pins.filter (· == p)).length) || others.contains p),
     (fldCode LOOP_CFG.SCALE n, (vs.getD 0 0 == 15 && vs.getD 1 0 != 15) || (vs.getD 1 0 == 15 && vs.getD 2 0 != 15)),
     (fldCode LOOP_CFG.SCALE n, phases.isEmpty),
     (fldCode LOOP_PROF_V.VMAX n, c.f LOOP_PROF_V.VMAX n == 0),
     (fldCode LOOP_PROF_AJ.AMAX n, c.f LOOP_PROF_AJ.AMAX n == 0 || c.f LOOP_PROF_AJ.JMAX n == 0)] ++
    ((List.range 8).map fun k => (fldCode (LOOP_VSET.CODE k) n,
      decide (c.f (LOOP_VSET.CODE k) n < 500) || decide (11000 < c.f (LOOP_VSET.CODE k) n))) ++
    [(fldCode LOOP_PER.PER n, decide (c.f LOOP_PER.PER n < 800) || decide (5333 < c.f LOOP_PER.PER n) ||
       decide (c.f LOOP_PER.PER n ≤ c.f LOOP_PER.LOOP_OFS n)),
     (fldCode LOOP_SHED_N.NMIN n, c.f LOOP_SHED_N.NMIN n == 0 || decide (phases.length < c.f LOOP_SHED_N.NMIN n)),
     (fldCode LOOP_ILIM.ILIM n, decide (c.f LOOP_ILIM.IOC n ≤ c.f LOOP_ILIM.ILIM n)),
     (fldCode LOOP_CFG.KBUS_SRC n, kbus && (decide (1 < (used.filter fun m => c.on LOOP_CFG.KBUS_SRC m).length) ||
       !c.on LOOP_CFG.SCALE n || !c.on LOOP_CFG.PREBIAS n || (decide (grp < 8) && c.on SEQ_GRP_CFG.DOMAIN grp))),
     (fldCode ENG_LOOP_CFG.SLOT n, decide (30 < c.f ENG_LOOP_CFG.SLOT n) || (match slotOf c im 0 n with
       | some s => decide (30 < s)
       | none => false)),
     (fldCode ENG_LOOP_CFG.LIVE_TUNE n, kbus && c.on ENG_LOOP_CFG.LIVE_TUNE n),
     (fldCode (ENG_LOOP_B.COEF 0) n, (List.range 4).all fun k => c.f (ENG_LOOP_B.COEF k) n == 0),
     (fldCode ENG_LOOP_DCLAMP.DMAX n, decide (c.f ENG_LOOP_DCLAMP.DMAX n ≤ c.f ENG_LOOP_DCLAMP.DMIN n)),
     (fldCode ENG_LOOP_CFG.ENGINE n, decide (4 ≤ c.f ENG_LOOP_CFG.ENGINE n) ||
       (im.tasks.any fun x => x.kind == 0 && x.inst == n && decide (4 ≤ x.eng))),
     (fldCode ENG_LOOP_VIN.VIN_REF n, !kbus && c.f ENG_LOOP_VIN.VIN_REF n == 0)]

/-- R143 for a buck. -/
def rulesBuck (c : Blk) (im : Img) : List (Nat × Bool) :=
  let used := (List.range 8).filter fun n => inUse c im (8 + n)
  used.flatMap fun n =>
    [(fldCode IB_CFG.PHASE n, used.any fun m => decide (m < n) && c.f IB_CFG.PHASE m == c.f IB_CFG.PHASE n),
     (fldCode IB_CFG.L_SEL n, decide (5 ≤ c.f IB_CFG.L_SEL n)),
     (fldCode IB_PI.KP n, c.f IB_PI.KP n == 0),
     (fldCode IB_RAMP.SS_RATE n, c.f IB_RAMP.SS_RATE n == 0),
     (fldCode IB_VSET.CODE n, decide (c.f IB_VSET.CODE n < 240) || decide (2200 < c.f IB_VSET.CODE n)),
     (fldCode IB_ILIM.ILIM n, decide ((if n < 4 then 4500 else 2250) < c.f IB_ILIM.ILIM n)),
     (fldCode IB_CFG.PHASE n, match slotOf c im 1 n with
       | some s => decide (35 < s)
       | none => false)]

/-- The ranges of the table Channel codes. -/
def chanRanges : List (Nat × Nat) :=
  [(0, 0x1F), (0x20, 0x3F), (0x40, 0x57), (0x58, 0x5F), (0x60, 0x67), (0x68, 0x6D), (0x70, 0x71), (0x72, 0x73), (0x74, 0x75),
   (0x76, 0x76), (0x77, 0x77), (0x78, 0x78), (0x79, 0x79), (0x7A, 0x7A), (0x7B, 0x7B), (0x7C, 0x7F), (0x80, 0x8B),
   (0x8C, 0x8C), (0x90, 0xAF), (0xB0, 0xCF), (0xD8, 0xDB)]

/-- `n` channels from one on lie in one range. -/
def chanRun (ch n : Nat) : Bool := chanRanges.any fun r => decide (r.1 ≤ ch) && decide (ch + n ≤ r.2 + 1)

/-- A channel code that is not reserved. -/
def chanOk (ch : Nat) : Bool := ch == 0x3FF || chanRun ch 1

/-- The channels of a slot entry are legal (R177). -/
def slotOk (c : Blk) (k i : Nat) : Bool :=
  let ch := slotCh c k i
  match slotMode c k i with
  | 0 => chanOk ch
  | 1 => chanOk ch && chanOk (slotCh2 c k i)
  | 2 => chanRun ch 16
  | 3 => decide (ch < 6)
  | 5 => chanRun ch 4
  | _ => true

/-- The channels of an entry lie in a range. -/
def slotIn (c : Blk) (lo hi k i : Nat) : Bool :=
  let isIn (ch : Nat) : Bool := decide (lo ≤ ch) && decide (ch ≤ hi)
  match slotMode c k i with
  | 0 => isIn (slotCh c k i)
  | 1 => isIn (slotCh c k i) || isIn (slotCh2 c k i)
  | 2 => isIn (slotCh c k i)
  | 4 => (List.range 256).any fun r => isIn (c.f ADC_HK.CH r)
  | 5 => isIn (slotCh c k i)
  | _ => false

/-- A channel that an entry, the housekeeping list or the check list converts. -/
def chanUsed (c : Blk) (ch : Nat) : Bool :=
  (allSlots.any fun s => slotIn c ch ch s.1 s.2) || (List.range 16).any fun i => c.f ADC_CHK.CH i == ch

/-- A task of the image reads its samples from entries up to its slot, one of them at its slot (R176). -/
def taskOk (c : Blk) (x : Task) : Bool :=
  if 3 < x.kind then true else decide (taskSlot c x.kind x.inst = some x.slot)

/-- R177, R204 and the shunts. -/
def rulesSlots (c : Blk) (im : Img) : List (Nat × Bool) :=
  let hks := allSlots.filter fun s => slotMode c s.1 s.2 == 4
  let shunt0 (F : Fld) (i ch : Nat) : Nat × Bool := (fldCode F i, c.f F i == 0 && chanUsed c ch)
  let fixedAt (ch k i : Nat) : Bool := slotMode c k i == 0 && slotCh c k i == ch
  (allSlots.map fun s => (slotCode s.1 s.2, !slotOk c s.1 s.2)) ++
  ((List.range 256).map fun i => (fldCode ADC_HK.CH i, !chanOk (c.f ADC_HK.CH i))) ++
  ((List.range 16).map fun i => (fldCode ADC_CHK.CH i, !chanOk (c.f ADC_CHK.CH i))) ++
  ((List.range 128).map fun i => (fldCode ACC_CFG.CH i, !chanOk (c.f ACC_CFG.CH i))) ++
  ((List.range 128).map fun i => (fldCode ACC_TRK_CFG.CH i, !chanOk (c.f ACC_TRK_CFG.CH i))) ++
  ((List.range 32).map fun nn => (chanCode nn, !convEvery c nn)) ++ [(chanCode 0x70, !convEvery c 0x70)] ++
  ((List.range 8).map fun n => (chanCode (0x58 + n), inUse c im n && !convEvery c (0x58 + n))) ++
  ((List.range 8).map fun n => (chanCode (0x60 + n), inUse c im (8 + n) && !convEvery c (0x60 + n))) ++
  ((List.range 24).map fun p => (chanCode (0x40 + p), (convAt c (0x40 + p) 0).isNone && (convAt c (0x40 + p) 1).isNone)) ++
  ((List.range c.tokensInUse).map fun k =>
    let l := tokenAt c k
    (entryCode (l[1]? <|> l[0]?), decide (l.length ≠ 1) || l.any fun s => decide (38 < s.2))) ++
  [(chanCode 0x78, !(List.range 48).any fun i => (fixedAt 0x78 0 i && fixedAt 0x79 1 i) || (fixedAt 0x79 0 i && fixedAt 0x78 1 i)),
   (chanCode 0x8C, !convEvery c 0x8C),
   (entryCode hks[1]?, decide (hks.length ≠ 1))] ++
  ((tasksOf c im).map fun x => (taskCode c x.kind x.inst, !taskOk c x)) ++
  ((List.range 4).flatMap fun i => [0, 1].map fun k => (slotCode k i, slotIn c 0xB0 0xCF k i)) ++
  ((List.range 32).map fun nn => shunt0 ADC_BSHUNT.SHUNT nn nn) ++
  [shunt0 ADC_FSHUNT.SHUNT 0 0x72, shunt0 ADC_FSHUNT.SHUNT 1 0x73, shunt0 ADC_PSHUNT.SHUNT 0 0x79, shunt0 ADC_CSHUNT.SHUNT 0 0x7A]

/-- R202, R220 and the codes of monitors and sensors. -/
def rulesMon (c : Blk) (im : Img) : List (Nat × Bool) :=
  ((List.range 32).flatMap fun k =>
    let tm := c.f MON_CFG.BLANK k
    [(fldCode MON_CFG.DIV k, c.f MON_CFG.DIV k == 3),
     (fldCode MON_CFG.BLANK k, decide (8 ≤ tm) && decide (tm < 15)),
     (0x03000000 + tm, decide (tm < 8) && c.f BLANK_CFG.SRC tm == 0)]) ++
  ((List.range 12).flatMap fun s =>
    [(fldCode TS_CFG.WIN_SR s, decide (c.f TS_CFG.WIN_SR s < 4) || decide (229 < c.f TS_CFG.WIN_SR s)),
     (fldCode TS_NBR.NBR s, bit (c.f TS_NBR.NBR s) s)]) ++
  ((List.range 4).flatMap fun k =>
    let n := c.f THR_CFG.LOOP k
    let enf := c.on THR_CFG.ENF k
    let i := c.f THR_ENF.ENF_IDX k
    [(fldCode THR_CTL.GRACE k, decide (c.f THR_CTL.GRACE k < 1) || decide (500 < c.f THR_CTL.GRACE k)),
     (fldCode THR_ENF.REL_SR k, c.f THR_ENF.REL_SR k == 0),
     (fldCode THR_CFG.LOOP k, enf && !inUse c im n),
     (fldCode THR_ENF.ENF_IDX k, enf && (decide (7 < i) || decide (c.f (LOOP_VSET.CODE 0) n < c.f (LOOP_VSET.CODE i) n)))])

/-- A group's steps. -/
def groupSteps (c : Blk) (g : Nat) : List Nat := (List.range (c.f SEQ_GRP_STEPS.COUNT g)).map fun i => poolStep c g i

/-- R238 and the codes of the sequencer. An EN output is in use when it is in a group or the image writes its register (R466). -/
def rulesSeq (c : Blk) (im : Img) : List (Nat × Bool) :=
  let ids (en id : Fld) : List Nat := ((List.range 64).filter fun k => c.on en k).map fun k => c.f id k
  let twice (l : List Nat) (x : Nat) : Bool := decide (1 < (l.filter (· == x)).length)
  ((List.range 8).flatMap fun g =>
    let n := c.f SEQ_GRP_STEPS.COUNT g
    [(fldCode SEQ_GRP_CFG.START_SRC g, c.f SEQ_GRP_CFG.START_SRC g == 3),
     (fldCode SEQ_GRP_CFG.FIRST g, decide (n ≠ 0) && (decide (64 < c.f SEQ_GRP_CFG.FIRST g + n) ||
       (groupSteps c g).any fun k => decide (1 < (stepGroups c k).length))),
     (fldCode SEQ_GRP_STEPS.COUNT g, n == 0 && (((List.range 64).any fun o => c.f SEQ_OUT_CFG.GROUP o == g) ||
       bit (c.f HO_SD.SD_GROUPS 0) g || c.f SEQ_GRP_CFG.START_SRC g == 1 || c.f SEQ_GRP_CFG.START_SRC g == 2)),
     (fldCode SEQ_GRP_CFG.T_OFF_MIN g,
       decide (c.f SEQ_GRP_CFG.T_OFF_MIN g < 5) || decide (1000 < c.f SEQ_GRP_CFG.T_OFF_MIN g))] ++
    (groupSteps c g).map fun k =>
      (fldCode SEQ_STEP_OUT_LO.MASK k, (stepOuts c k).any fun o => c.f SEQ_OUT_CFG.GROUP o != g)) ++
  ((List.range 64).flatMap fun k =>
    [(fldCode SEQ_STEP_QUAL.QUAL k, decide (c.f SEQ_STEP_QUAL.QUAL k < 10) || decide (10000 < c.f SEQ_STEP_QUAL.QUAL k)),
     (fldCode SEQ_STEP_TMO.TMO k, decide (c.f SEQ_STEP_TMO.TMO k < 100) || decide (2000000 < c.f SEQ_STEP_TMO.TMO k)),
     (fldCode SEQ_STEP_OFF.OFF_TMO k, decide (c.f SEQ_STEP_OFF.OFF_TMO k < 100) || decide (2000000 < c.f SEQ_STEP_OFF.OFF_TMO k)),
     (fldCode SEQ_STEP_OUT_LO.MASK k, (List.range 64).any fun j => j != k && stepMask c j &&& stepMask c k != 0),
     (fldCode SEQ_STEP_TOK.WAIT_EN k,
       (c.on SEQ_STEP_TOK.WAIT_EN k && twice (ids SEQ_STEP_TOK.WAIT_EN SEQ_STEP_TOK.WAIT_ID) (c.f SEQ_STEP_TOK.WAIT_ID k)) ||
       (c.on SEQ_STEP_TOK.EMIT_EN k && twice (ids SEQ_STEP_TOK.EMIT_EN SEQ_STEP_TOK.EMIT_ID) (c.f SEQ_STEP_TOK.EMIT_ID k)))]) ++
  (List.range 64).flatMap fun o =>
    let grp := c.f SEQ_OUT_CFG.GROUP o
    let src := c.f SEQ_OUT_CFG.PG_SRC o
    let mon := c.f SEQ_OUT_CFG.MON o
    [(fldCode SEQ_OUT_CFG.GROUP o, (decide (8 ≤ grp) && decide (grp < 15)) || src == 3),
     (fldCode SEQ_OUT_CFG.GROUP o, decide (54 ≤ o) && src == 0 &&
       (decide (grp < 8) || im.writes.any fun r => r.1 == SEQ_OUT_CFG.GROUP.at_ o)),
     (fldCode SEQ_OUT_CFG.GROUP o, decide (grp < 8) && (
       (src == 1 && (c.on MON_CFG.FLT_UV mon || c.on MON_CFG.FLT_OV mon)) ||
       (decide (22 ≤ o ∧ o < 54) && c.on BERTH_CFG.EARLY (o - 22))))]

/-- R275 and the codes of the charger. -/
def rulesPack (c : Blk) : List (Nat × Bool) :=
  [(fldCode KBUS_WIN.KBUS_UV 0, decide (c.f KEEP_CFG.KEEP_ON 0 < c.f KBUS_WIN.KBUS_UV 0)),
   (fldCode HO_CFG.DWELL_MS 0, decide (c.f HO_CFG.DWELL_MS 0 < 1) || decide (1000 < c.f HO_CFG.DWELL_MS 0)),
   (fldCode CHG_SESSION.SESSION_H 0, decide (c.f CHG_SESSION.SESSION_H 0 < 1) || decide (20 < c.f CHG_SESSION.SESSION_H 0)),
   (fldCode CHG_SET.ICHG 0, decide (c.f CHG_LIM.ICHG_MAX 0 < c.f CHG_SET.ICHG 0) || decide (4000 < c.f CHG_LIM.ICHG_MAX 0)),
   (fldCode CHG_CFG.L_SEL 0, c.f CHG_CFG.L_SEL 0 == 3),
   (fldCode GAUGE_CFG.DESIGN_CAP 0, decide (c.f GAUGE_CFG.DESIGN_CAP 0 < 500) || decide (6000 < c.f GAUGE_CFG.DESIGN_CAP 0)),
   (fldCode GAUGE_REST.T_REST 0, decide (20 < c.f GAUGE_REST.T_REST 0))] ++
  ((List.range 10).map fun i => (fldCode GAUGE_OCV.MV (i + 1), decide (c.f GAUGE_OCV.MV (i + 1) ≤ c.f GAUGE_OCV.MV i))) ++
  [(fldCode GAUGE_END.VEOD 0, decide (c.f GAUGE_END.VEOC 0 ≤ c.f GAUGE_END.VEOD 0)),
   (fldCode HO_SD.SD_GROUPS 0, (bitsSet 8 (c.f HO_SD.SD_GROUPS 0)).any fun g => c.f SEQ_GRP_STEPS.COUNT g == 0)]

/-- The Logbook list check, class by class. -/
def rulesLog (c : Blk) : List (Nat × Bool) :=
  (List.range 12).map fun k =>
    let l := (List.range 48).map fun i => 64 * k + i
    (fldCode LOG_LIST.ADDR (64 * k), l.any fun i =>
      c.on LOG_LIST.VALID i && (!mapped (4 * c.f LOG_LIST.ADDR i) || (i % 64 != 0 && !c.on LOG_LIST.VALID (i - 1))))

/-- The WRITE records that name no writable field, and records of no kind. -/
def rulesRec (im : Img) : List (Nat × Bool) :=
  im.recs.map fun r => (fieldCode r.1, (recKind r == 0 && !writable r.1) || recKind r == 3 || (recKind r == 1 && r.1 != 1))

/-- Check 6. -/
def check6 (c : Blk) (im : Img) : Option Nat :=
  firstBroken (rulesRec im ++ rulesEngines c im ++ rulesBerth c im ++ rulesLoop c im ++ rulesBuck c im ++ rulesSlots c im ++
    rulesMon c im ++ rulesSeq c im ++ rulesPack c ++ rulesLog c)

/-- The first check that fails (0 = valid), with the resource code and the records of holder and claimant. -/
def checkImage (b : Blk) (head l : List Nat) : Nat × Nat × Nat × Nat :=
  if !headOk head then (1, 0, 0, 0)
  else
    let n := l.length
    let im := imgOf l
    let body := l.take (n - 4 - (if im.signed then 64 else 0))
    if crc32 (l.take (n - 4)) ≠ leAt l (n - 4) 4 then (2, 0, 0, 0)
    else if (if im.signed then !Config.ecdsaOk (ownerKey b) body (slice l (n - 68) 64) else b.on BOOT_POLICY.CFG_SIG_REQ 0) then
      (3, 0, 0, 0)
    else if im.epoch < b.counter 1 then (4, 0, 0, 0)
    else
      let c := imgView b im
      match claimAll c 0 [] im.recs with
      | some (code, h, x) => (5, code, h, x)
      | none => match check6 c im with
        | some code => (6, code, 0, 0)
        | none => (0, 0, 0, 0)

/-- The address of a configuration slot. -/
def cfgSlotAt (k : Nat) : Nat := 0x10700000 + 65536 * k

/-- Bytes read by Keeper; a poisoned word raises KEEPER_LOCKSTEP (R327). -/
def keeperRead (t : Nat) (x : MB) (a n : Nat) : List Nat × MB :=
  let y := devRead t x a n
  (y.1, if y.2.1 then (y.2.2.1, y.2.2.2.raise t 0 0xFFFF) else y.2.2)

/-- A slot read by Keeper: header, whole image (empty where the header is not one), device after. -/
def cfgRead (t : Nat) (x : MB) (k : Nat) : List Nat × List Nat × MB :=
  let y := keeperRead t x (cfgSlotAt k) 32
  if headOk y.1 then
    let z := keeperRead t y.2 (cfgSlotAt k) (leAt y.1 12 4)
    (y.1, z.1, z.2)
  else (y.1, [], y.2)

/-- CFG_REJECT and CFG_REJECT_REC of a refusal at check 5 or 6. -/
def rejectShow (b : Blk) (r : Nat × Nat × Nat × Nat) : Blk :=
  if 5 ≤ r.1 then
    ((b.setF CFG_REJECT.CODE 0 r.2.1).setF CFG_REJECT_REC.HOLDER 0 r.2.2.1).setF CFG_REJECT_REC.CLAIMANT 0 r.2.2.2
  else b

/-- R377 run on a slot: the result code, its image, device after. -/
def cfgCheck (t : Nat) (x : MB) (k : Nat) : Nat × Img × MB :=
  let (h, l, x) := cfgRead t x k
  let r := checkImage x.2 h l
  (r.1, if r.1 = 1 then { seq := leAt h 4 4 } else imgOf l, x.1, rejectShow x.2 r)

/-- A CONFIG record's DETAIL (table CONFIG and FIRMWARE record fields). -/
def cfgRecord (t : Nat) (b : Blk) (seq slot result : Nat) : Blk := b.trigger t 6 (leBytes 4 seq ++ [slot, result])

end Sys2Proof.Machine
end

