-- ==== Sys2Proof/Machine/Boot.lean ====
section
/-! DEFINITION. Keeper: the ten steps of BOOT, the Keeper restart, Pilot's start and readiness, and the state after POWERUP:
spec/15_firmware_config.md (R361 to R379, R385), spec/12_faults_watchdog.md (R304, R305, R463). -/
namespace Sys2Proof.Machine

/-! Step 1 and 2: OTP, patches, limits -/

/-- The register at an address has a field of a kind. -/
def hasField (p : Fld → Bool) (a : Nat) : Bool := match findReg a with
  | some (r, _) => r.flds.any p
  | none => false

/-- Patch slot `p` is applied (R361). -/
def patchOk (b : Blk) (p : Nat) : Bool :=
  let l := b.otpBytes (0x780 + 128 * p) 8
  b.finalised 1 && leAt l 0 4 == 0x50544348 && Config.romPatchable (leAt l 4 4)

/-- The limit records up to the first whose address is 0 (R363). -/
def limitRecs (b : Blk) : List (Nat × Nat) :=
  ((List.range 112).map fun i =>
    let l := b.otpBytes (0x400 + 8 * i) 8
    (leAt l 0 4, leAt l 4 4)).takeWhile fun r => r.1 != 0

/-- A register with KO fields that a limit record may name (R364). -/
def limitReg (a : Nat) : Bool :=
  hasField (fun F => F.acc == .ko) a && (FAULT_SEV.SEV.inst 4 a).isNone

/-- The KO fields of a register written by Keeper, once in a boot (R4). -/
def putLimit (b : Blk) (r : Nat × Nat) : Blk :=
  { putFields (fun F => F.acc == .ko) b r with ko := r.1 :: b.ko }

/-- The limits loaded: each register once, with the value of the last record that names it (R363 to R365). -/
def limitLoad (b : Blk) : Blk :=
  let l := limitRecs b
  let good := l.filter fun r => limitReg r.1
  let last (r : Nat × Nat) : Bool := ((good.reverse.find? fun q => q.1 == r.1).map (·.2)) == some r.2
  let once := good.foldl (fun (acc : List (Nat × Nat)) r => if last r ∧ !acc.any (fun q => q.1 == r.1) then acc ++ [r] else acc) []
  let b := once.foldl putLimit b
  let b := b.setOn BOOT_STATUS.LIM_IGN 0 (l.any fun r => !limitReg r.1)
  b.setOn BOOT_STATUS.LIMITS_OPEN 0 (!b.finalised 1)

/-! Step 3 and 4: boot record, spares -/

/-- The boot record of Bivouac RAM as held, its CRC, and a new one written (R373). -/
def bootRec (b : Blk) : List Nat := slice b.biv.ram 0xB8 8
def bootRecOk (b : Blk) : Bool := crc16 ((bootRec b).take 6) == leAt (bootRec b) 6 2
def bootRecPut (b : Blk) (active pending tries : Nat) : Blk :=
  let l := [active, pending, tries, 0, 0, 0]
  ramPut (b.setF BOOT_STATUS.TRIES 0 tries) 0xB8 (l ++ leBytes 2 (crc16 l))

/-- An entry of the spare map: class, unit (4 bytes), spare (2 bytes), CRC-8. -/
def mapEntry (l : List Nat) (i : Nat) : Option (Nat × Nat × Nat) :=
  let e := slice l (8 * i) 8
  if crc8 (e.take 7) = e.getD 7 0 then some (e.getD 0 0, leAt e 1 4, leAt e 5 2) else none

/-- The bytes of an entry. -/
def mapBytes (e : Nat × Nat × Nat) : List Nat :=
  let l := [e.1 % 256] ++ leBytes 4 e.2.1 ++ leBytes 2 e.2.2
  l ++ [crc8 l]

/-- A spare put in place of its unit (R385). -/
def mapApply (b : Blk) (e : Nat × Nat × Nat) : Blk :=
  let (k, u, n) := e
  match k with
  | 4 => (b.setF ADC_STATUS.SUBST 0 (u + 1)).setF ADC_STATUS.SHADOW 0 0
  | 5 => (b.setF ENG_STATUS.LE4_ROLE 0 (u + 1)).setF ENG_STATUS.LE4_SHADOW 0 15
  | 6 => { b with macroUsed := Tab.put b.macroUsed 0 (u / 65536) (Tab.get b.macroUsed 0 (u / 65536) + 1) }
  | 14 => { b with macroUsed := Tab.put b.macroUsed 0 (u / 65536) (Tab.get b.macroUsed 0 (u / 65536) + 1) }
  | 9 =>
    let b := setSpareCore b (n % 2) u
    if u < 32 then b.setF MON_STAT.CORE u (n % 2 + 1) else b
  | 11 =>
    let b := b.setF ADC_STATUS.REF_SPARE_USED 0 1
    if b.f ADC_STATUS.REF_ACT 0 = u then b.setF ADC_STATUS.REF_ACT 0 2
    else if b.f ADC_STATUS.REF_IDLE 0 = u then b.setF ADC_STATUS.REF_IDLE 0 2 else b
  | 12 => b.setF CLK_STATUS.PLL_SEL 0 1
  | _ => b

/-- Comparator cores counted as used without an entry are not used again. -/
def coresUsed (b : Blk) (entries : Nat) : Blk :=
  forAll (b.counter 9 - entries) b fun _ b => match unusedCore b with
    | some x => setSpareCore b x 0xFE
    | none => b

/-- SRAM rows counted as used without an entry, in the macros from `lo` on: taken from the lowest macro that has any left (DESIGN CHOICE). -/
def rowsUsed (b : Blk) (lo lost : Nat) : Blk :=
  forAll lost b fun _ b => match (List.range 4).find? fun i => decide (Tab.get b.macroUsed 0 (lo + i) < 32) with
    | some i => { b with macroUsed := Tab.put b.macroUsed 0 (lo + i) (Tab.get b.macroUsed 0 (lo + i) + 1) }
    | none => b

/-- The spares that the counters count beyond the entries of the map marked as used (R385); those of the classes whose spares are not held
apart are marked by the counter alone. -/
def lostUsed (b : Blk) (es : List (Nat × Nat × Nat)) : Blk :=
  let lost (k : Nat) : Nat := b.counter k - (es.filter fun e => e.1 == k).length
  let b := rowsUsed (rowsUsed b 0 (lost 6)) 4 (lost 14)
  let b := if lost 11 = 0 then b else b.setF ADC_STATUS.REF_SPARE_USED 0 1
  coresUsed b (es.filter fun e => e.1 == 9).length

/-- The spare map and the counters applied (R385). -/
def spareApply (t : Nat) (x : MB) : MB :=
  let y := keeperRead t x 0x10720000 4096
  let z := keeperRead t y.2 0x10730000 4096
  let es := (List.range 512).filterMap fun i => mapEntry y.1 i <|> mapEntry z.1 i
  let b := es.foldl mapApply { z.2.2 with macroUsed := [] }
  (z.2.1, spareShow (lostUsed b es))

/-! Step 5: the configuration -/

/-- A field that a resource code claims has its CLAIM bit set. -/
def claimBit (b : Blk) (code : Nat) : Blk :=
  let i := code % 2 ^ 24
  match code / 2 ^ 24 with
  | 1 => if i < 64 then b.setF ADC_SLOT_A.CLAIM (i % 64) 1 else b.setF ADC_SLOT_B.CLAIM (i % 64) 1
  | 2 => if i / 256 = 1 then b.setF MON_CFG.CLAIM (i % 256) 1 else b
  | 3 => b.setF BLANK_CFG.CLAIM i 1
  | 4 => b.setF ACC_CFG.CLAIM i 1
  | 5 => b.setF ACC_TRK_CFG.CLAIM i 1
  | 0x0C =>
    match findReg (0x40000000 + 4 * i) with
    | some (r, j) => r.flds.foldl (fun b F =>
        if F == ADC_SLOT_A.CLAIM || F == ADC_SLOT_B.CLAIM || F == MON_CFG.CLAIM || F == BLANK_CFG.CLAIM || F == ACC_CFG.CLAIM ||
          F == ACC_TRK_CFG.CLAIM then b.setF F j 1 else b) b
    | none => b
  | _ => b

/-- The slot entries at a task's slot that convert a channel it reads are claimed. -/
def claimTask (b : Blk) (x : Task) : Blk :=
  let reads (k : Nat) : Bool :=
    match x.kind with
    | 0 => slotConv b (0x58 + x.inst) 0 k x.slot || slotConv b (0x58 + x.inst) 1 k x.slot
    | 1 => slotConv b (0x60 + x.inst) 0 k x.slot || slotConv b (0x60 + x.inst) 1 k x.slot
    | 2 => slotConv b 0x7A 0 k x.slot || slotConv b 0x7B 0 k x.slot || slotConv b 0x7A 1 k x.slot || slotConv b 0x7B 1 k x.slot
    | 3 => slotMode b k x.slot == 3 && slotCh b k x.slot == x.inst
    | _ => false
  let b := if reads 0 then b.setF ADC_SLOT_A.CLAIM x.slot 1 else b
  if reads 1 then b.setF ADC_SLOT_B.CLAIM x.slot 1 else b

/-- The slot entries that an image gives a channel are in use by it (R178). -/
def claimEntries (b : Blk) (im : Img) : Blk :=
  allSlots.foldl (fun b s =>
    let F := if s.1 = 0 then ADC_SLOT_A.CLAIM else ADC_SLOT_B.CLAIM
    if slotMode b s.1 s.2 < 6 ∧ im.writes.any (fun r => r.1 == F.at_ s.2) then b.setF F s.2 1 else b) b

/-- The timers that the monitors of an image use are claimed (R202). -/
def claimTimers (b : Blk) : Blk :=
  forAll 32 b fun k b => if b.f MON_CFG.BLANK k < 8 then b.setF BLANK_CFG.CLAIM (b.f MON_CFG.BLANK k) 1 else b

/-- The value of a WRITE record with every field it may not name as the register holds it. -/
def imgValue (b : Blk) (a v : Nat) : Nat :=
  match findReg a with
  | some (r, i) => (r.flds.map fun F =>
      (if F.acc = .rw then bits v F.lo F.w else if F.acc = .ko then b.f F i else 0) * 2 ^ F.lo).sum
  | none => 0

/-- One WRITE record applied (R376): set-from-image fields and coefficient words directly, the sequencer block as a whole, every other
register as a write by Keeper. -/
def imgWrite (t : Nat) (x : MB) (r : Nat × Nat) : MB :=
  let b := putFields fromImage x.2 r
  let b := if hasField (fun F => F.acc == .ko && fromImage F) r.1 then { b with ko := r.1 :: b.ko } else b
  if 0x400D0000 ≤ r.1 ∧ r.1 < 0x400E0000 then (x.1, putFields (fun F => F.acc == .rw) b r)
  else if (coefLoop r.1).isSome then (x.1, coefPlace b ((coefLoop r.1).getD 0) ((r.1 % 256 - 0x10) / 4) (imgValue b r.1 r.2))
  else if hasField (fun F => F.acc == .rw) r.1 then (busWrite t (x.1, b) .keeper 3 r.1 (imgValue b r.1 r.2)).2
  else (x.1, b)

/-- An image loaded: records in order, tasks, claims (R376). -/
def imgLoad (t : Nat) (x : MB) (im : Img) : MB :=
  let x := im.writes.foldl (imgWrite t) x
  let b := x.2
  let tasks := tasksOf b im
  let b := tasks.foldl (fun b x =>
    if x.kind = 0 ∧ (!im.tasks.isEmpty ∨ !im.writes.any (fun r => r.1 == ENG_LOOP_CFG.ENGINE.at_ x.inst)) then
      (b.setF ENG_LOOP_CFG.ENGINE x.inst x.eng).setF ENG_LOOP_CFG.SLOT x.inst x.slot
    else b) b
  let b := im.tasks.foldl claimTask (claimTimers (im.claims.foldl claimBit (claimEntries b im)))
  let b := forAll 5 b fun e b => b.setF ENG_LOAD.BUDGET e
    ((tasks.filter fun x => x.eng == e).map fun x => (taskCost x.kind).1 + (taskCost x.kind).2).sum
  let b := b.setF ENG_LIVE_MAP.MAP 0 (maskOf ((List.range 8).filter fun n => b.on ENG_LOOP_CFG.LIVE_TUNE n))
  (x.1, forAll 32 { b with tasks := tasks } fun nn b => b.setBrt nn { b.brt nn with rd := none })

/-- A record of Keeper, formed at the next edge (R352). -/
def keeperRec (t : Nat) (x : MB) (ty : Nat) (det : List Nat) : MB := (x.1, x.2.trigger t ty det)

/-- Keeper reads the Logbook: the slots that hold a stored error, with what their reading does (R319, R322, R327). -/
def logRead (t : Nat) (x : MB) : MB :=
  let hit (l : Tab Nat) (i : Nat) : Bool := l.any fun p => decide (slotAddr i ≤ p.1 ∧ p.1 < slotAddr i + 256)
  ((List.range 1712).filter fun i => hit x.1.syn i || hit x.1.mark i).foldl (fun x i => (keeperRead t x (slotAddr i) 256).2) x

/-- The CFG_SEQ of the newest Logbook record. -/
def newestCfg (m : Mem) : Option Nat :=
  (newest m ((List.range 1712).filter (slotValid m))).map fun i => leNat (m.seen (slotAddr i + 20) 4)

/-- What CFG_SEQ shows of a slot (0xFFFF_FFFF = invalid). -/
def cfgSeqOf (r : Nat × Img) : Nat := if r.1 = 0 then r.2.seq else 0xFFFFFFFF

/-- The refusals of both slots recorded (R378). -/
def cfgRefused (t : Nat) (x : MB) (k : Nat) (r : Nat × Img) : MB :=
  if r.1 = 0 then x
  else keeperRec t (x.1, x.2.setF BOOT_STATUS.CFG_RESULT 0 r.1) 6 (leBytes 4 r.2.seq ++ [k, r.1])

/-- No valid image (R379). -/
def noImage (t : Nat) (b : Blk) : Blk :=
  { (b.setF BOOT_STATUS.NOCFG 0 1).raise t 8 0xFFFF with col := { b.col with endSafe := true } }

/-- Step 5 (R377 to R379). -/
def cfgBoot (t : Nat) (x : MB) : MB :=
  let (ra, ia, x) := cfgCheck t x 0
  let (rb, ib, x) := cfgCheck t x 1
  let x := cfgRefused t (cfgRefused t x 0 (ra, ia)) 1 (rb, ib)
  let b := (x.2.setF CFG_SEQ.SEQ 0 (cfgSeqOf (ra, ia))).setF CFG_SEQ.SEQ 1 (cfgSeqOf (rb, ib))
  let pick : Option (Nat × Img) :=
    if ra = 0 ∧ (rb ≠ 0 ∨ ib.seq ≤ ia.seq) then some (0, ia) else if rb = 0 then some (1, ib) else none
  match pick with
  | none => (x.1, noImage t b)
  | some (k, im) =>
    let b := (b.setF BOOT_STATUS.CFG_SLOT 0 k).setF BOOT_STATUS.NOCFG 0 0
    let b := { b with cfgRaise := if im.signed then im.epoch else 0 }
    let x := imgLoad t (x.1, b) im
    let x := logRead t x
    if newestCfg x.1 = some im.seq then x else keeperRec t x 6 (leBytes 4 im.seq ++ [k, 0])

/-! Step 6 to 8: twins, EARLY berths, engines -/

/-- The cool-down hold of a berth after POWERUP, from the reading of step 6 (R68). DESIGN CHOICE: HOLD is taken once, here; a write of
BERTH_nn_SOA_HOLD after step 6 and before the first grant leaves the hold that runs as it is. -/
def holdStart (b : Blk) : Blk :=
  if !b.fresh then b
  else
    let gone := if !twinBlockOk b ∨ b.biv.osf then 0 else b.f BIV_RTC_EPOCH.SECONDS 0 - leAt b.biv.ram 156 4 - 1
    forAll 32 b fun nn b =>
      let h := b.f BERTH_SOA_HOLD.HOLD nn * 200000
      if h = 0 then b else b.setBrt nn { b.brt nn with holding := true, holdLeft := h - 2000000 * gone }

/-- EARLY berths requested (R54); none without an image (R379). -/
def earlyRequest (t : Nat) (b : Blk) : Blk :=
  if b.on BOOT_STATUS.NOCFG 0 then b
  else forAll 32 b fun nn b => if b.on BERTH_CFG.EARLY nn then berthOnRequest t b nn 3 else b

/-- Engines and converters started (R56, R174). -/
def enginesStart (b : Blk) : Blk := meTakeover (b.setF ADC_STATUS.LP 0 0)

/-! Step 10: Pilot images -/

/-- The address of a Pilot slot. -/
def pilotAt (k : Nat) : Nat := 0x10000000 + 0x200000 * k

/-- R370 on a slot: the failing check (0 = valid) with its header, device after. -/
def pilotCheck (t : Nat) (x : MB) (k : Nat) : Nat × List Nat × MB :=
  let y := keeperRead t x (pilotAt k) 128
  let h := y.1
  let len := leAt h 12 4
  if leAt h 0 4 ≠ 0x49504853 ∨ len % 8 ≠ 0 ∨ 2097024 < len then (1, h, y.2)
  else if !Config.ecdsaOk (vendorKey y.2.2) (h.take 64) (slice h 64 64) then (2, h, y.2)
  else
    let z := keeperRead t y.2 (pilotAt k + 128) len
    if sha256 z.1 ≠ slice h 20 32 then (3, h, z.2)
    else if h.getD 8 0 < z.2.2.counter 0 then (4, h, z.2)
    else (0, h, z.2)

/-- The VERSION and the EPOCH of a header. -/
def pilotVersion (h : List Nat) : Nat := leAt h 4 4
def pilotEpoch (h : List Nat) : Nat := h.getD 8 0

/-- A FIRMWARE record (table CONFIG and FIRMWARE record fields). -/
def fwRec (t : Nat) (x : MB) (version slot event : Nat) : MB := keeperRec t x 7 (leBytes 4 version ++ [slot, event])

/-- What stands at the end of every BOOT: the hand-over in ON_PACK without a shutdown timer (R247), the gauge on DESIGN_CAP (R267). -/
def bootEnd (b : Blk) : Blk :=
  let b := ((b.setF KEEP_STATUS.HO_STATE 0 hPACK).setF KEEP_STATUS.DWELL_CNT 0 0).setF KEEP_STATUS.SD_RUN 0 0
  let b := { b.setF SD_REMAIN.MS 0 0 with keep := { b.keep with sdAt := none, sdStby := false } }
  gaugeBoot b b.stby

/-- Recovery: neither slot is valid (R375). -/
def recovery (t : Nat) (x : MB) : MB :=
  let x := fwRec t x 0 0 5
  let b := safeState t ((bootEnd x.2).setF BOOT_STATUS.RECOVERY 0 1)
  (x.1, { b with dev := .safe, quaysOpen := true })

/-- A slot started by R372: the one selected where it is valid, else the other; a FIRMWARE record when it is the pending one. -/
def pilotStart (t : Nat) (x : MB) (ok : Nat → Bool) (ver : Nat → Nat) (k : Nat) (pend : Bool) : MB :=
  let j := if ok k then k else 1 - k
  let p := pend && ok k
  let x : MB := (x.1, { (x.2.setF BOOT_STATUS.PILOT_SLOT 0 j).setOn BOOT_STATUS.PENDING 0 p with pilot := some j })
  if p then fwRec t x (ver j) j 1 else x

/-- Step 10 (R370, R372, R373, R375): the boot record first, with its try or its revert, then the slot it selects, or recovery when neither
is valid. -/
def pilotBoot (t : Nat) (x : MB) : MB :=
  let (r0, h0, x) := pilotCheck t x 0
  let (r1, h1, x) := pilotCheck t x 1
  let ver (k : Nat) : Nat := if k = 0 then pilotVersion h0 else pilotVersion h1
  let ok (k : Nat) : Bool := if k = 0 then r0 == 0 else r1 == 0
  let b := (x.2.setF PILOT_VER.VERSION 0 (if ok 0 then ver 0 else 0)).setF PILOT_VER.VERSION 1 (if ok 1 then ver 1 else 0)
  let x : MB := (x.1, (b.setF BOOT_STATUS.REVERTED 0 0).setF BOOT_STATUS.PENDING 0 0)
  let go (x : MB) (k : Nat) (pend : Bool) : MB := if !ok 0 ∧ !ok 1 then recovery t x else pilotStart t x ok ver k pend
  let l := bootRec x.2
  if !bootRecOk x.2 then
    if !ok 0 ∧ !ok 1 then recovery t x
    else
      let k := if ok 0 ∧ (!ok 1 ∨ ver 1 ≤ ver 0) then 0 else 1
      go (x.1, bootRecPut x.2 k 0xFF 0) k false
  else if l.getD 1 0 < 2 then
    let tries := l.getD 2 0 + 1
    if 4 ≤ tries then
      let x := fwRec t (x.1, (bootRecPut x.2 (l.getD 0 0) 0xFF 0).setF BOOT_STATUS.REVERTED 0 1) (ver (l.getD 1 0)) (l.getD 1 0) 3
      go x (l.getD 0 0 % 2) false
    else go (x.1, bootRecPut x.2 (l.getD 0 0) (l.getD 1 0) tries) (l.getD 1 0) true
  else go (x.1, bootRecPut x.2 (l.getD 0 0) (l.getD 1 0) (l.getD 2 0)) (l.getD 0 0 % 2) false

/-! BOOT -/

/-- The shutdown block tells of a power loss; and there is no Logbook record of it (R357). -/
def lossTold (b : Blk) : Bool := shutdownOk b && (shutdownHeld b).getD 0 0 == 3
def lossUnrecorded (x : MB) : Bool :=
  let l := shutdownHeld x.2
  lossTold x.2 &&
  !(List.range 1712).any fun i => slotValid x.1 i && slotType x.1 i == 10 && x.1.seen (slotAddr i + 8) 8 == slice l 8 8

/-- Step `k` of the table Boot order. -/
def bootStepDo (t : Nat) (x : MB) (k : Nat) : MB :=
  let (m, b) := x
  match k with
  | 1 => (m, otpDigestCheck t (otpScan t { b with ko := [] }))
  | 2 => (m, limitLoad (b.setF BOOT_STATUS.PATCH_MAP 0 (maskOf ((List.range 8).filter (patchOk b)))))
  | 3 =>
    let x := if lossTold b then logRead t x else x
    let b := x.2
    let b := if lossUnrecorded x then b.raise t 32 0xFFFF else b
    let b := if b.biv.osf then b.raise t 35 0xFFFF else b
    (x.1, lastShutdown t { b with stby := standbyTime b })
  | 4 => spareApply t x
  | 5 => cfgBoot t x
  | 6 => (m, holdStart (twinsStart (sensBoot b)))
  | 7 => (m, earlyRequest t b)
  | 8 => (m, enginesStart b)
  | 9 => logScan (logRead t x)
  | 10 => pilotBoot t x
  | _ => x

/-- The steps of BOOT after the last one done, up to step `upTo`, in order (R367); Keeper
does none while the die shutdown holds it (R214). -/
def bootSteps (t : Nat) (x : MB) (upTo : Nat) : MB :=
  if x.2.dev ≠ .boot ∨ x.2.therm.stopped then x
  else (List.range 10).foldl (fun x i =>
    if x.2.bootStep = i ∧ i < upTo then bootStepDo t (x.1, { x.2 with bootStep := i + 1 }) (i + 1) else x) x

/-! Pilot ready -/

/-- Counter `k` raised to a value by INCREMENT commands (R374, R378). -/
def counterTo (b : Blk) (k v : Nat) : Blk := forAll (v - b.counterDue k) b fun _ b => otpUp b k

/-- The counters as OTP_CNT shows them. -/
def countersShow (b : Blk) : Blk := forAll 32 b fun k b => b.setF OTP_CNT.VALUE k (b.counter k)

/-- A pending image that signals ready becomes ACTIVE, and PILOT_EPOCH is raised to its EPOCH (R373, R374). -/
def pilotConfirm (t : Nat) (x : MB) : MB :=
  match x.2.pilot with
  | some k =>
    if x.2.on BOOT_STATUS.PENDING 0 then
      let y := keeperRead t x (pilotAt k) 12
      let b := bootRecPut (y.2.2.setF BOOT_STATUS.PENDING 0 0) k 0xFF 0
      fwRec t (y.2.1, countersShow (counterTo b 0 (pilotEpoch y.1))) (pilotVersion y.1) k 2
    else x
  | none => x

/-- The device enters SAFE in place of READY at the end of this BOOT (R304 to R306, R309, R379). -/
def bootEndsSafe (b : Blk) : Bool :=
  b.col.endSafe || b.on BOOT_STATUS.NOCFG 0 || b.on FAULT_STATE.PERMANENT 0 || b.on FAULT_STATE.HALT_STUCK 0 ||
  b.therm.stopped

/-- READY from the next edge: the safe-state line of a commanded restart released, the Watchman locked at that edge, CONFIG_EPOCH
raised (R313, R368, R378, R463). -/
def enterReady (t : Nat) (b : Blk) : Blk :=
  let b := { b with eng := { b.eng with started := true } }
  let b := { b.setF FAULT_STATE.SAFE_LINE 0 0 with dev := .ready, quaysOpen := true }
  let b := if b.on WD_CFG.LOCKED 0 then b else wdLockAt (t + 1) b
  countersShow (counterTo b 1 b.cfgRaise)

/-- 1 written to PILOT_READY by Pilot in BOOT (R368, R373). -/
def pilotReady (t : Nat) (x : MB) (w : Writer) (v : Nat) : MB :=
  if v % 2 = 0 ∨ w ≠ .pilot ∨ x.2.dev ≠ .boot ∨ x.2.pilot = none then x
  else
    let x := pilotConfirm t x
    let b := bootEnd x.2
    let b := if bootEndsSafe b then { b with dev := .safe, quaysOpen := true } else enterReady t b
    (x.1, { b with col := { b.col with endSafe := false } })

/-! The Keeper restart -/

/-- A field that a Keeper restart returns to its reset value before BOOT loads it again. -/
def loadedField (F : Fld) : Bool :=
  F.acc == .rw || F.acc == .ko || fromImage F || F == ADC_SLOT_A.CLAIM || F == ADC_SLOT_B.CLAIM || F == MON_CFG.CLAIM ||
  F == BLANK_CFG.CLAIM || F == ACC_CFG.CLAIM || F == ACC_TRK_CFG.CLAIM || F.base == 0x40000200 || F.base == 0x40000208 ||
  F.base == 0x40000210 || F.base == 0x40000214 || F.base == 0x40000218 || F == ENG_LOAD.LAST_FINISH || F == ENG_LOAD.MAX_FINISH ||
  F == ENG_SHADOW.MISMATCHES || F == ADC_HK_RES.VALID || F == TS_STAT.BROKEN || F == THERM_BROKEN.MAP || F == HW_STATUS.DUP_ID

/-- The registers as a Keeper restart leaves them: the Bivouac domain and the blocks of HELD berths keep theirs. -/
def restartRegs (b : Blk) : Tab Nat :=
  b.regs.filter fun p =>
    let a := p.1 / 32 * 4
    let kept := bivKey p.1 || (decide (0x40010000 ≤ a ∧ a < 0x40012000) && b.bst ((a - 0x40010000) / 256) == bHELD)
    kept || (match findReg a with
      | some (r, _) => !(r.flds.any fun F => F.lo == p.1 % 32 && loadedField F)
      | none => true)

/-- Keeper starts again: outputs in their safe state, quays cleared, Watchman in boot mode, BOOT from its first step (R305,
R313, R463, R467). -/
def keeperRestart (t : Nat) (b : Blk) : Blk :=
  let due := b.col.due
  if due = 0 ∨ b.therm.stopped ∨ b.dev = .powerup ∨ b.dev = .standby ∨ b.dev = .off then b
  else
    let b := if b.on FAULT_STATE.SAFE_LINE 0 then b else safeState t b
    let b := if bit due 0 then shutdownBlock t (b.incr FAULT_STATE.HALT_COUNT 0) 4 else b
    let b := quayClear b
    let b := forAll 32 b fun nn b => b.setBrt nn { b.brt nn with rd := some (soaFactors b nn) }
    let b := { b with regs := restartRegs b }
    let b := b.setOn CLK_STATUS.TICK_SRC 0 (b.on CLK_STATUS.TICK_SRC 0 && b.sig .xin = 0)
    let b := ((b.setF FAULT_STATE.REACT 0 0).setF ADC_STATUS.LP 0 1).setF ENG_STATUS.LE4_SHADOW 0 15
    let b := (b.setF ADC_STATUS.SHADOW 0 0).setF ADC_STATUS.DISPUTE 0 0
    let b := wdBoot b t
    { b with
      dev := .boot, bootStep := 0, pilot := none, fresh := b.fresh && decide (b.bootStep < 6), ko := [], meOn := false, lantern := false
      col := { b.col with due := 0, reactEnd := 0, endSafe := b.col.endSafe || due != 2, stall := b.col.stall || bit due 2 }
      adc := { b.adc with
        lpRound := true, shadowing := false, chkRepeat := none, chkOff := 0, arbWait := none, s48 := none, dec := [], late := []
        hkLast := none, hkOf := [], lp := [] }
      eng := {}, rowHits := [], tasks := []
      seq := { b.seq with autoDone := false, autoDue := false }, auth := { last := b.auth.last }, restWin := {}, therm := { b.therm with clear := 0 }
      log := { b.log with ready := false }, upload := none, later := [], wait := none, clearWait := false, otpHeld := false, revSeen := [], chgSeen := 0,
      chgLast := 0, cfgRaise := 0, sens := [] }

/-! POWERUP (R447) -/

/-- STBY_EXC of a monitor, which stays set until a write clears it (R198), by key of the register file. -/
def stbyExcKey (k : Nat) : Bool := (List.range 32).any fun nn => k == (0x400B0008 + 16 * nn) * 8 + 7

/-- What POWERUP keeps: OTP, the Bivouac domain with its RAM, STBY_EXC (R198), the feed controllers (R60), the input signals, the die shutdown,
the model's own counters of free values; everything else is at its reset value. -/
def powerUpBlk (b : Blk) : Blk :=
  { regs := b.regs.filter fun p => bivKey p.1 || stbyExcKey p.1
    env := b.env, otp := b.otp, tapLock := b.finalised 3, biv := b.biv, therm := { stopped := b.therm.stopped, due := b.therm.due }, feed := b.feed, rng := b.rng
    free := b.free
    hw := { unfit := (List.range 2).foldl (fun m s => if b.sig (.hwGnd s) ≠ 0 then setBit m s else m) 0 } }

end Sys2Proof.Machine
end

