-- ==== Sys2Proof/Machine/Links.lean ====
section
/-! DEFINITION. The direct window, SPI and the two-wire ports: spec/16_host_links.md (R387 to R396). A link delivers whole
frames; what the device drives in answer is emitted on the link. -/
namespace Sys2Proof.Machine

/-! The direct window (R388) -/

/-- An offset of the window lies in a listed register. -/
def winListed (off : Nat) : Bool :=
  decide (off < 0x48) || (decide (0x80 ≤ off) && decide (off < 0xA0))

/-- The quay whose buffers hold an offset. -/
def winQuay (off : Nat) : Option Nat := if 0x1000 ≤ off ∧ off < 0x2000 then some ((off - 0x1000) / 0x400) else none

/-- QUAY_STATUS of a quay as a word. -/
def quayStatus (x : Quay) : Nat :=
  x.submitSt * 2 ^ 24 + x.submitSeq * 65536 + x.respSeq * 256 + b2n x.copying * 32 + b2n x.resp * 16 + x.queued

/-- LEGACY_ADC_CTL as a word, at the pseudo-address of the register map. -/
def legacyCtl (t : Nat) (b : Blk) : Nat := peekWord t b 0x50000044

/-- A register of the window read by port `p`: the word and the device after (R32, R194, R282). -/
def winWord (t : Nat) (b : Blk) (p off : Nat) : Nat × Blk :=
  match off with
  | 0x00 => (0x96240103, b)
  | 0x04 => (devState b p (portClass b p), b)
  | 0x08 => (b.f FAULT_STATUS_LO.SRC 0, b)
  | 0x0C => (b.f FAULT_STATUS_HI.SRC 0, b)
  | 0x10 => (firstFault b, b)
  | 0x14 => (Tab.get b.attn 0 p, b)
  | 0x18 => readWord t b p 0x40000000
  | 0x1C => readWord t b p 0x40000004
  | 0x40 => (legacyValue b p, legacyRead b p)
  | 0x44 => (legacyCtl t b, b)
  | _ =>
    if 0x30 ≤ off ∧ off < 0x40 then (quayStatus (b.qy p ((off - 0x30) / 4)), b)
    else if 0x80 ≤ off ∧ off < 0xA0 then (rtcWord b p ((off - 0x80) / 4), rtcRead b p ((off - 0x80) / 4))
    else (0, b)

/-- `n` bytes read from an offset by port `p`: a register is read once, at the first of its bytes; unlisted offsets read 0,
quay buffers by byte. -/
def winRead (t : Nat) (b : Blk) (p off n : Nat) : List Nat × Blk :=
  let r := (List.range n).foldl (fun (acc : List Nat × Blk × Nat) i =>
    let (l, b, w) := acc
    let a := off + i
    match winQuay a with
    | some q => (l ++ [Tab.get (b.qy p q).buf 0 ((a - 0x1000) % 0x400)], b, w)
    | none =>
      if !winListed a then (l ++ [0], b, w)
      else
        let (w, b) := if i = 0 ∨ a % 4 = 0 then winWord t b p (a / 4 * 4) else (w, b)
        (l ++ [w / 256 ^ (a % 4) % 256], b, w)) ([], b, 0)
  (r.1, r.2.1)

/-- A byte read lies in a poisoned word of a quay buffer (R327). -/
def winPoison (b : Blk) (p off n : Nat) : Bool :=
  (List.range n).any fun i => match winQuay (off + i) with
    | some q => (b.qy p q).psn.contains ((off + i - 0x1000) % 0x400 / 8)
    | none => false

/-- The CRC-8 or PEC that ends a read of port `p`, inverted when it reads a poisoned word (R327, R391). -/
def readCrc (b : Blk) (p off n : Nat) (l : List Nat) : Nat := if winPoison b p off n then crc8 l ^^^ 0xFF else crc8 l

/-- Every byte of a write is accepted (R388, R397): whole listed registers, and buffers but for a request buffer that is
being copied. -/
def winAccepts (b : Blk) (p off n : Nat) : Bool :=
  (List.range n).all fun i =>
    let a := off + i
    match winQuay a with
    | some q => !((b.qy p q).copying && decide ((a - 0x1000) % 0x400 < 0x200))
    | none => winListed a && decide (off ≤ a / 4 * 4) && decide (a / 4 * 4 + 4 ≤ off + n)

/-- The pseudo-address under which a window register's write is staged (R460). -/
def winBase : Nat := 0x60000000

/-- An accepted write of port `p`: buffer bytes are stored, register words take effect at the next edge. -/
def winStore (b : Blk) (p off : Nat) (l : List Nat) : Blk :=
  forAll l.length b fun i b =>
    let a := off + i
    match winQuay a with
    | some q =>
      let k := (a - 0x1000) % 0x400
      let x := (b.qy p q).store k [l.getD i 0]
      let whole := k % 8 = 7 ∧ 7 ≤ i
      b.setQy p q (if whole then { x with psn := x.psn.filter (· != k / 8) } else x)
    | none =>
      if a % 4 = 0 then
        { b with staged := b.staged ++ [⟨.port p, portClass b p, winBase + a, leAt l i 4⟩] }
      else b

/-- A window register write taking effect at edge `t` (R281, R307, R389, R400). -/
def winWrite (t : Nat) (b : Blk) (p off v : Nat) : Blk :=
  match off with
  | 0x08 => faultClear t b (.port p) 0 v
  | 0x0C => faultClear t b (.port p) 1 v
  | 0x10 => faultClear t b (.port p) 2 v
  | 0x14 => { b with attn := Tab.put b.attn 0 p (Tab.get b.attn 0 p &&& ((0xFFFFFFFF ^^^ v) ||| b.noted (attnKey p))) }
  | 0x44 =>
    if portClass b p = 0 then b
    else
      let c := plainWrite b false 0x50000044 v
      if c.f LEGACY_ADC_CTL.EN 0 = b.f LEGACY_ADC_CTL.EN 0 ∧ c.f LEGACY_ADC_CTL.CH 0 = b.f LEGACY_ADC_CTL.CH 0 then c
      else legacyRestart c
  | _ =>
    if 0x20 ≤ off ∧ off < 0x30 then
      let q := (off - 0x20) / 4
      let b := if bit v 1 then quayAck t b p q else b
      if bit v 0 then quaySubmit t b p q else b
    else if 0x80 ≤ off ∧ off < 0x9C then rtcStageWrite b (.port p) ((off - 0x80) / 4) v
    else if off = 0x9C then rtcStatusWrite b (.port p) v
    else b

/-- A port answers on its link. -/
def portUp (b : Blk) (p : Nat) : Bool := hwUp b && portOn b p

/-- The number of data bytes a length byte stands for. -/
def lenOf (n : Nat) : Nat := if n % 256 = 0 then 256 else n % 256

/-- A malformed or refused frame counted, and a CRC or PEC error. -/
def badFrame (b : Blk) (p : Nat) : Blk := b.bump HOST_PORT_ERR.BAD_FRAME p
def crcErr (t : Nat) (b : Blk) (p : Nat) : Blk := (b.bump HOST_PORT_ERR.CRC_ERR p).raise t 33 0xFFFF

/-! SPI (R390, R391) -/

/-- A frame that is no write or read, or is cut short. -/
def spiBad (t : Nat) (b : Blk) : Blk := (badFrame b 0).raise t 33 0xFFFF

/-- A write frame: command, offset, length, data, CRC and one further byte; a refused one is counted and raises nothing. -/
def spiWrite (t : Nat) (b : Blk) (l : List Nat) : Blk :=
  if !portUp b 0 then b
  else
    let n := lenOf (l.getD 3 0)
    let off := l.getD 1 0 * 256 + l.getD 2 0
    if l.getD 0 0 ≠ 2 ∨ l.length < n + 6 then spiBad t b
    else if crc8 (l.take (n + 4)) ≠ l.getD (n + 4) 0 then (crcErr t b 0).emit 0 [0x5A]
    else if winAccepts b 0 off n then (winStore b 0 off (slice l 4 n)).emit 0 [0xA5]
    else (badFrame b 0).emit 0 [0x3C]

/-- A read frame: command, offset, length, the dummy byte and the bytes clocked. -/
def spiRead (t : Nat) (b : Blk) (l : List Nat) : Blk :=
  if !portUp b 0 then b
  else
    let n := lenOf (l.getD 3 0)
    let off := l.getD 1 0 * 256 + l.getD 2 0
    if l.getD 0 0 ≠ 0x0B ∨ l.length < n + 6 then spiBad t b
    else
      let (d, b) := winRead t b 0 off n
      b.emit 0 (d ++ [readCrc b 0 off n (l.take 4 ++ d)])

/-! Two-wire target (R392, R393) -/

/-- The port answers as a target, and its address. -/
def twAddr (b : Blk) (p : Nat) : Nat := if p = 1 then b.f HOST_TW_CFG.TW0_ADDR 0 else b.f HOST_TW_CFG.TW1_ADDR 0
def twTarget (b : Blk) (p : Nat) : Bool := portUp b p && (p == 1 || (p == 2 && b.on HOST_TW_CFG.TW1_TGT 0))

/-- A write may start at an offset: in a quay buffer, or at the first byte of a listed register (R388). -/
def winOffsetOk (off : Nat) : Bool := (winQuay off).isSome || (winListed off && off % 4 == 0)

/-- The PEC of a write transfer is there and right. -/
def twPecOk (l : List Nat) : Bool :=
  let n := lenOf (l.getD 3 0)
  decide (n + 5 ≤ l.length) && crc8 (l.take (n + 4)) == l.getD (n + 4) 0

/-- Whether the device acknowledges byte `i` of a write transfer addressed to it (R393). -/
def twAck (l : List Nat) (i : Nat) : Bool :=
  if i = 2 then winOffsetOk (l.getD 1 0 * 256 + l.getD 2 0)
  else if i = lenOf (l.getD 3 0) + 4 then twPecOk l
  else true

/-- The acknowledge bits of a transfer. -/
def twAcks (b : Blk) (p : Nat) (l : List Bool) : Blk := { b with tw := { b.tw with acks := Tab.put b.tw.acks [] p l } }

/-- A write transfer: address, offset, length, data and PEC; applied when it is accepted, the PEC is right and a stop followed; a wrong PEC
raises HOST_PROTO whatever the offset. -/
def twWrite (t : Nat) (b : Blk) (p : Nat) (l : List Nat) (stop : Bool) : Blk :=
  if !twTarget b p ∨ l.getD 0 0 ≠ 2 * twAddr b p then b
  else
    let n := lenOf (l.getD 3 0)
    let off := l.getD 1 0 * 256 + l.getD 2 0
    let b := twAcks b p ((List.range l.length).map (twAck l))
    if l.length < n + 5 then badFrame b p
    else if !twPecOk l then crcErr t b p
    else if !winAccepts b p off n then badFrame b p
    else if stop then winStore b p off (slice l 4 n) else b

/-- A read transfer: address+W, offset, length, address+R; data and PEC are driven, and 0xFF for each further byte a host clocks after it
has acknowledged the PEC. -/
def twRead (t : Nat) (b : Blk) (p : Nat) (l : List Nat) : Blk :=
  if !twTarget b p ∨ l.getD 0 0 ≠ 2 * twAddr b p ∨ l.getD 4 0 ≠ 2 * twAddr b p + 1 then b
  else
    let n := lenOf (l.getD 3 0)
    let off := l.getD 1 0 * 256 + l.getD 2 0
    let (d, b) := winRead t (twAcks b p (List.replicate 5 true)) p off n
    b.emit p (d ++ [readCrc b p off n (l.take 5 ++ d)] ++ List.replicate (l.length - 5) 0xFF)

/-! Two-wire controller (R394 to R396) -/

/-- The notify that is due, once the gap has passed (R394). -/
def twNotify (t : Nat) (b : Blk) : Blk :=
  let gap := 2000 * atLeast1 (b.f HOST_TW_CFG.NOTIFY_GAP 0)
  if hwUp b ∧ b.tw.due ∧ b.on HOST_TW_CFG.NOTIFY_EN 0 ∧ (b.tw.notifyAt = 0 ∨ b.tw.notifyAt - 1 + gap ≤ t) then
    let l := [2 * b.f HOST_TW_CFG.NOTIFY_ADDR 0, 2 * b.f HOST_TW_CFG.TW0_ADDR 0, Tab.get b.attn 0 1 % 256]
    let b := twSendPec b 1 l
    { b with tw := { b.tw with due := false, notifyAt := t + 1, repeats := 0 } }
  else b

/-- A notify that was not acknowledged is sent again, twice at most, 1 ms apart (R394). -/
def notifyRetry (t : Nat) (b : Blk) : Blk :=
  if hwUp b ∧ b.tw.notifyAt ≠ 0 ∧ b.tw.repeats < 2 ∧ b.tw.notifyAt - 1 + 2000 * (b.tw.repeats + 1) ≤ t then
    let b := twSend b 1 (Tab.get b.tw.own [] 1)
    { b with tw := { b.tw with repeats := b.tw.repeats + 1 } }
  else b

/-- Arbitration lost on port `p`, by an address or data byte or (`atStop`) by a stop or repeated start (R395). -/
def twArbLost (t : Nat) (b : Blk) (p : Nat) (atStop : Bool) : Blk :=
  if !hwUp b ∨ Tab.get b.tw.own [] p = [] then b
  else
    let b := { b with tw := { b.tw with again := insNat p b.tw.again } }
    if atStop then (b.bump HOST_PORT_ERR.ARB_STOP p).raise t 42 0xFFFF else b

/-- The bus has been free for 50 µs: the own transfer again (R395). -/
def twRepeat (b : Blk) (p : Nat) : Blk :=
  if hwUp b ∧ b.tw.again.contains p then
    let b := { b with tw := { b.tw with again := b.tw.again.filter (· != p) } }
    twSend b p (Tab.get b.tw.own [] p)
  else b

/-- SDA low for 1 ms: SDA is high after `n` clocks, or still low after the ninth (R396). -/
def twBusClear (t : Nat) (b : Blk) (p n : Nat) : Blk :=
  if !hwUp b then b
  else if n ≤ 9 then { b with tw := { b.tw with hungAt := Tab.del b.tw.hungAt p } }
  else
    let b := { b with tw := { b.tw with hungAt := Tab.put b.tw.hungAt 0 p (t + 1) } }
    (b.flag HOST_PORT_ERR.HUNG p).raise t 33 0xFFFF

/-- The next try, 100 ms later (R396). -/
def twHungRetry (t : Nat) (b : Blk) (p n : Nat) : Blk :=
  let h := Tab.get b.tw.hungAt 0 p
  if h ≠ 0 ∧ h - 1 + 200000 ≤ t then twBusClear t b p n else b

/-! Reads reported as events of their own (R6, R32, R194, R282) -/

/-- A low word read by a reader: Pilot (4) any pair, a port TICK_LO of its window. A load by Pilot of a poisoned word is an exception
(R327). -/
def lowWordRead (t : Nat) (b : Blk) (r a : Nat) : Blk :=
  if (r = 4 ∧ (a = 0x40000000 ∨ onPair 0 a)) ∨ (portUp b r ∧ a = 0x40000000) then
    let y := readWord t b r a
    if r = 4 ∧ readMark b r a then y.2.raise t 1 0xFFFF else y.2.give r y.1
  else b

/-- What Pilot keeps of a clearing read for the responses of R425. -/
def pilotSeen (b : Blk) (a v : Nat) : Blk :=
  match FEED_STATUS.REV_COUNT.inst 2 a with
  | some n => { b with revSeen := Tab.put b.revSeen 0 n (Tab.get b.revSeen 0 n + v / 65536) }
  | none => if a = 0x400E0060 then { b with chgSeen := b.chgSeen ||| v, chgLast := v } else b

/-- A register with an RC field read by Pilot. -/
def rcRead (t : Nat) (b : Blk) (a : Nat) : Blk :=
  match findReg a with
  | some (r, _) =>
    if r.flds.any fun F => F.acc == .rc then
      let y := readWord t b 4 a
      (pilotSeen y.2 a y.1).give 4 y.1
    else b
  | none => b

/-- LEGACY_ADC_DATA read from a port that answers on its link. -/
def legacyDataRead (b : Blk) (p : Nat) : Blk := if portUp b p then (legacyRead b p).give p (legacyValue b p) else b

end Sys2Proof.Machine
end

