-- ==== Sys2Proof/Machine/Access.lean ====
section
/-! DEFINITION. Writes on their way to their tick edge (R460), the posting of a response (R399, R401), the accesses by which
Pilot takes an exception (R31, R327, R366), and the flash copies of the spare map (R385). -/
namespace Sys2Proof.Machine

/-! Posting -/

/-- The opcodes of Pilot 2.4 (spec/17_command_set.md). -/
def opcodes : List Nat :=
  [0, 1, 2, 3, 4, 0x100, 0x101, 0x102, 0x200, 0x201, 0x202, 0x203, 0x300, 0x301, 0x400, 0x401, 0x402, 0x403, 0x404, 0x405,
   0x500, 0x501, 0x600, 0x601, 0x602, 0x603, 0x604, 0x700, 0x701, 0x702, 0x800, 0x801, 0x802, 0x900, 0x901, 0x902] ++
  [0xA00, 0xA01, 0xA02, 0xA03, 0xA04, 0xA05, 0xB00, 0xB01, 0xC00, 0xC01, 0xC02, 0xC03, 0x1100, 0x1101, 0x1102, 0xD00, 0xD01,
   0xD02, 0xD03, 0xE00, 0xE01, 0xE02, 0xE03, 0xE04, 0xF00, 0xF01, 0xF02, 0xF03, 0xF04, 0xF05, 0x1000, 0x1001, 0x1002]

/-- The response Pilot posts for the open message: the one its opcode's command has built, or the refusal of a message that no
opcode takes (R420, checks 1 and 2). -/
def answerNow (b : Blk) (r : Req) : Option (List Nat) :=
  b.answer <|>
    (if opcodes.contains (msgOp r.msg) then none
    else some (respond r.msg 0x80 (if msgCrcOk r.msg then sBAD_OPCODE else sBAD_CRC) []))

/-- The responses of a quay that the host has still to acknowledge. -/
def unacked (b : Blk) (p q : Nat) : Nat := (b.qy p q).posted.length + b2n (b.qy p q).resp

/-- A write that follows its response (SYS_RESTART, SYS_POWER) counts from the posting. -/
def deferFrom (t : Nat) (b : Blk) (r : Req) : Blk :=
  { b with deferred := b.deferred.map fun d =>
      if d.at_ = 0 then { d with at_ := t + 1, ahead := unacked b r.port r.quay } else d }

/-- A held remote message counts its second from the posting of the HW_RELAY response (R430). -/
def holdFrom (t : Nat) (b : Blk) (r : Req) : Blk :=
  match heldOf b r.port with
  | some h => if msgOp r.msg = 0x1101 ∧ h.posted = none then setHeld b r.port (some { h with posted := some t }) else b
  | none => b

/-- Pilot's write of QP_POST latched in tick `t`: the response posted and the message closed; the post of a request that the
device has answered with TIMEOUT is discarded (R399, R401). No message open, or no response built: no effect. -/
def qpPost (t : Nat) (b : Blk) : Blk :=
  match b.msg with
  | none => b
  | some r =>
    match answerNow b r with
    | none => b
    | some m =>
      let b := holdFrom t (deferFrom t b r) r
      let b := ((b.setF QP_TAKE.VALID 0 0).setF QP_TAKE.PORT 0 0).setF QP_TAKE.QUAY 0 0
      let b := { b with msg := none, answer := none, wait := none, clearWait := false, otpHeld := false }
      if r.dead then b else quayPost b r.port r.quay m

/-! Writes in a tick (R460) -/

/-- The class of the message Pilot holds open, PILOT (3) without one (R90). -/
def pilotOrigin (b : Blk) : Nat := match b.msg with
  | some r => portClass b r.port
  | none => 3

/-- A write put on its way to the next edge; COEF_PEND shows one of a LIVE_TUNE loop's coefficient words (R159). -/
def stage (b : Blk) (w : Writer) (origin a v : Nat) : Blk :=
  let b := { b with staged := b.staged ++ [⟨w, origin, a, v⟩] }
  match coefLoop a with
  | some n => pendShow b n
  | none => b

/-- A write of word `v` made in tick `t` by Keeper, Pilot or Tender at an address, or by a host port at an offset of its
direct window (R388, R460); a Pilot access outside every mapped block takes an exception (R31). -/
def registerWrite (t : Nat) (b : Blk) (w : Writer) (a v : Nat) : Blk :=
  if !hwUp b then b
  else
    match w with
    | .port p => if portUp b p && winAccepts b p a 4 then winStore b p a (leBytes 4 v) else b
    | .pilot => if mapped a then stage b .pilot (pilotOrigin b) a v else b.raise t 1 0xFFFF
    | .keeper => stage b .keeper 3 a v
    | .tender => stage b .tender 3 a v

/-- The enable registers: of several writes latched at one edge the last is the value latched. -/
def enableReg (a : Nat) : Bool :=
  (BERTH_CTL.ON.inst 32 a).isSome || (LOOP_CTL.EN.inst 8 a).isSome || (IB_CTL.EN.inst 8 a).isSome ||
  (LDO_CTL.EN.inst 6 a).isSome || a == 0x400E0044

/-- The writes of a tick with every write to an enable register but the last left out. -/
def lastEnables : List Staged → List Staged
  | [] => []
  | s :: r => if enableReg s.addr && r.any (fun x => x.addr == s.addr) then lastEnables r else s :: lastEnables r

/-- A word whose KO fields are those the register holds. -/
def keepKo (b : Blk) (a v : Nat) : Nat :=
  match findReg a with
  | some (r, i) => (r.flds.map fun F => (if F.acc = .ko then b.f F i else bits v F.lo F.w) * 2 ^ F.lo).sum
  | none => v

/-- A write by Keeper: the KO fields of a register are accepted once in a boot (R4). -/
def keeperWrite (t : Nat) (x : MB) (a v : Nat) : MB :=
  let (m, b) := x
  if hasField (fun F => F.acc == .ko) a then
    if b.ko.contains a then (busWrite t x .keeper 3 a (keepKo b a v)).2
    else (busWrite t (m, { b with ko := a :: b.ko }) .keeper 3 a v).2
  else (busWrite t x .keeper 3 a v).2

/-- A write latched at edge `t`. -/
def applyWrite (t : Nat) (x : MB) (s : Staged) : MB :=
  let (m, b) := x
  match s.who with
  | .port p => (m, winWrite t b p (s.addr - winBase) s.val)
  | .keeper => keeperWrite t x s.addr s.val
  | w =>
    if s.addr = 0x40000234 then pilotReady t x w s.val
    else if s.addr = 0x40160038 then (m, if w = .pilot ∧ s.val % 2 = 1 then qpPost t b else b)
    else (busWrite t x w s.origin s.addr s.val).2

/-- A write by the control side, not by a host port's window. -/
def byCore (s : Staged) : Bool := s.who == .pilot || s.who == .keeper || s.who == .tender

/-- A write of WD_KEY, and one of SAFE_EXIT. -/
def keyWrite (s : Staged) : Bool := byCore s && s.addr == 0x4012000C
def exitWrite (s : Staged) : Bool := byCore s && s.addr == 0x40110030

/-- A write that is judged in step 4 of its tick: of an enable, an ON bit, a loop's OPEN_REQ or set-point, a group's START, STOP, ACK or
ALLOFF_REQ, a Watchman key, SAFE_EXIT, a latch of accumulators or trackers, which covers the samples of its tick (R189). -/
def asksObject (s : Staged) : Bool :=
  keyWrite s || exitWrite s ||
  (byCore s && (enableReg s.addr || (SEQ_GRP_CTL.START.inst 8 s.addr).isSome || (ENG_LOOP_CTL.OPEN_REQ.inst 8 s.addr).isSome ||
    (s.addr / 8192 == 0x20020 && 0x20 ≤ s.addr % 1024 && s.addr % 1024 < 0x40) || (ACC_LATCH.REQ.inst 4 s.addr).isSome || (ACC_TLATCH.REQ.inst 4 s.addr).isSome))

/-- A write of a register with bits that a 1 clears. Such a write goes first among those of an edge, so that a bit which another
write of the edge sets reads 1 (R6). -/
def clearsBits (s : Staged) : Bool :=
  match s.who with
  | .port _ => s.addr < winBase + 0x20
  | _ => hasField (fun F => F.acc == .w1c) s.addr

/-- The writes of the tick before, latched at edge `t`: those that clear bits, then the others, each in the order in which they
were made; those that step 4 judges wait for it (R6, R12, R460). -/
def applyStaged (t : Nat) (x : MB) : MB :=
  let l := lastEnables x.2.staged
  let now := l.filter fun s => !asksObject s
  let now := now.filter clearsBits ++ now.filter fun s => !clearsBits s
  let y := now.foldl (applyWrite t) (x.1, { x.2 with staged := [] })
  (y.1, { y.2 with staged := l.filter asksObject })

/-- The requests latched at edge `t`, as events of the tick: those to objects, the Watchman's keys together, SAFE_EXIT last
(R308, R315, R316, R460). -/
def applyRequests (t : Nat) (x : MB) : MB :=
  let l := x.2.staged.filter asksObject
  let objs := l.filter fun s => !keyWrite s && !exitWrite s
  let (m, b) := objs.foldl (applyWrite t) (x.1, { x.2 with staged := x.2.staged.filter fun s => !asksObject s })
  let b := wdKeys t b ((l.filter keyWrite).map fun s => (s.who, s.val))
  (l.filter exitWrite).foldl (applyWrite t) (m, b)

/-- The writes Pilot makes in tick `t` of those it keeps for a later tick (R427). -/
def makeLater (t : Nat) (b : Blk) : Blk :=
  let due := b.later.filter fun y => decide (y.1 ≤ t)
  { b with staged := b.staged ++ due.map (·.2), later := b.later.filter fun y => !decide (y.1 ≤ t) }

/-- The payload of BERTH_SET. -/
def berthShort (b : Blk) (nn : Nat) : List Nat :=
  [b.bst nn, b.f BERTH_STATE.CAUSE nn, b.f BERTH_PSTAT.REJ_REASON nn, 0]

/-- The response that waited for a write latched in tick `t` (R424): of a toggle STATE where the 1 was not taken and the reason's status
where it was refused (R426), of LOOP_RETUNE LOOP_CLOSED where a word was refused (R427). -/
def waitAnswer (t : Nat) (b : Blk) : Blk :=
  match b.wait, b.msg with
  | some w, some r =>
    if t < w.due then b
    else
      let st :=
        if w.loop then (if w.bad then sLOOP_CLOSED else sOK)
        else if !b.on BERTH_CTL.ON w.idx then sSTATE
        else if b.bst w.idx = bTRIPPED ∨ b.bst w.idx = bLOCKED then toggleStatus (b.f BERTH_PSTAT.REJ_REASON w.idx)
        else sOK
      let pay := if !w.loop then berthShort b w.idx else if w.bad then [] else leBytes 8 w.due
      { b with wait := none, answer := some (respond r.msg 0x80 st pay) }
  | _, _ => b

/-! Pilot's exceptions (R31, R327, R366) -/

/-- The OTP read window. -/
def otpWindow (a : Nat) : Bool := decide (0x40141000 ≤ a) && decide (a < 0x40143000)

/-- A Pilot access with behaviour of its own: `kind` 0 a read outside every mapped block, 1 an access to Keeper's SRAM, 2 an
instruction fetch from ROM or the OTP window, 3 a load or fetch of a memory word, which takes the exception when the word is
poisoned. -/
def pilotException (t : Nat) (x : MB) (kind a : Nat) : MB :=
  let (m, b) := x
  if !hwUp b then x
  else
    match kind with
    | 0 => (m, if mapped a then b else b.raise t 1 0xFFFF)
    | 1 => (m, if isSram a && Config.keeperSram a then b.raise t 1 0xFFFF else b)
    | 2 => (m, if isRom a || otpWindow a then b.raise t 1 0xFFFF else b)
    | _ =>
      if isSram a || isFlash a || (engKey a).isSome then
        let y := busRead t x 4 a
        (y.2.2.1, if y.2.1 then y.2.2.2.raise t 1 0xFFFF else y.2.2.2)
      else x

/-! The spare map in flash (R385) -/

/-- The first entry of the spare map that is blank in both copies. -/
def mapFree (m : Mem) : Option Nat :=
  (List.range 512).find? fun i =>
    m.rawBytes (0x10720000 + 8 * i) 8 == List.replicate 8 255 && m.rawBytes (0x10730000 + 8 * i) 8 == List.replicate 8 255

/-- One entry programmed into both copies; none is written into a full map. -/
def mapPut (m : Mem) (e : Nat × Nat × Nat) : Mem :=
  match mapFree m with
  | some i => (m.flashWrite (0x10720000 + 8 * i) (mapBytes e) 1).flashWrite (0x10730000 + 8 * i) (mapBytes e) 1
  | none => m

/-- The entries that wait, written in order. -/
def mapFlush (x : MB) : MB := (x.2.mapOut.foldl mapPut x.1, { x.2 with mapOut := [] })

end Sys2Proof.Machine
end

