-- ==== Sys2Proof/Machine/Tick.lean ====
section
/-! DEFINITION. The work of a tick in the order of the table Order of work in tick n (R12), and the work of a beat, a round
and a slow round (R10). -/
namespace Sys2Proof.Machine

/-! Inputs of an edge -/

/-- One input change latched at edge `t`: a signal's value; a bit error of a stored word; a difference of the Keeper pair
(source 0). -/
def latchInput (t : Nat) (x : MB) (i : Sig × Int) : MB :=
  let (m, b) := x
  match i.1 with
  | .upset a => (upset m a (i.2.toNat % 83), b)
  | .engUpset k => (m, engFlip b k (i.2.toNat % 42))
  | .lockstep => (m, if i.2 ≠ 0 then b.raise t 0 0xFFFF else b)
  | s => (m, b.setSig s i.2)

/-- The device runs: CORE is clocked. -/
def running (b : Blk) : Bool := b.dev != .powerup && b.dev != .standby && b.dev != .off

/-! Step 1: the edge -/

/-- The Logbook's records and snapshots of edge `t`, with what the reading of the snapshots does (R322, R351, R352). -/
def logEdge (t : Nat) (x : MB) : MB := snapReads t (x.1, logForm (snapItem t x) t x.2) (snapTypes t x.2)

/-- The POWER_LOSS record of a hold-up, its snapshot latched at the edge after the detection, goes to its slot (R356). -/
def holdupRecord (t : Nat) (x : MB) : MB :=
  let b := x.2
  match b.holdup with
  | some h =>
    if h.record.isSome ∨ t ≤ h.edge then x
    else
      let r := logRec (snapItem t x) b ⟨10, h.edge, leBytes 4 h.vhold ++ leBytes 2 h.lost ++ [b2n h.otp]⟩
      snapReads t (x.1, logShow { b with
        holdup := some { h with record := some r }
        log := { b.log with writing := h.slot.map fun i => (i, b.f LOG_NEXT.SEQ 0, r) } }) [10]
  | none => x

/-- Clock status as latched at an edge. -/
def clockShow (b : Blk) : Blk :=
  (b.setOn CLK_STATUS.XIN_OK 0 (b.sig .xin != 0)).setOn CLK_STATUS.HRPLL_LOCK 0 (b.sig .hrpllLock != 0)

/-- What takes effect and is latched at edge `t`: records of the tick before with their snapshots, writes, comparators and
trips, monitors, sequencer, hand-over; then the collector (R26, R75, R298, R460). A line that a write raises is latched at the
next edge, as an event of the tick (R25, R313, R316). -/
def tickEdge (t : Nat) (x : MB) : MB :=
  let x := logEdge t (x.1, blankEdge { x.2.ageNotes with devEdge := x.2.dev })
  let x := holdupRecord t (x.1, wdEdge t x.2)
  let b := x.2
  let earlier := b.lines
  let (m, b) := applyStaged t (x.1, clockShow { b with lines := [] })
  let later := b.lines
  let b := { b with lines := earlier }
  let b := forAll 8 b fun n b => loopLatch (enforceEdge b n) n
  let b := forAll 32 b fun nn b => fastTripRecord t b nn
  let b := packTick (handoverTick t (seqLatch (monsLatch b)))
  let b := faultCollect t (shadowEdge t { b with tapLock := b.tapLock || b.finalised 3 })
  (m, { b.ageNotes with lines := b.lines ++ later })

/-! Steps 2 and 3: samples and engines -/

/-- The engines' share: loops, bucks, the charger, with what an overrun aborts (R24). -/
def enginesTick (t : Nat) (b : Blk) : Blk :=
  let b := engineTick t (phaseSamples t b)
  let b := forAll 8 b fun n b => loopTick t (taskRuns b 0 n) b n
  let b := forAll 8 b fun n b => buckTick t (taskRuns b 1 n) b n
  chargerTick t (taskRuns b 2 0) b

/-- The samples of a tick and what is computed from them; before the engines start and in a hold-up the charger switches nothing
(R174). -/
def tickWork (t : Nat) (b : Blk) : Blk :=
  let b := adcTick t (gaugeTick t b)
  let b := if b.meOn then enginesTick t b else chargerTick t false b
  let b := forAll 6 b fun n b => ldoTick b n
  iregPgShow (feedsTick (berthsTick t (taskRuns b 3) b))

/-! Supplies and the start of POWERUP (R447 to R450); mV -/

/-- The higher of VNET and VKB, and VHOLD. -/
def supplyMv (b : Blk) : Int := max (b.sig (.cal 0x70)) (b.sig (.cal 0x71)) * 2
def vholdMv (b : Blk) : Int := b.sig (.cal 0x76) * 2

/-- The supply is above the start threshold, at its typical value (table Supply supervision). -/
def supplyUp (b : Blk) : Bool := decide (9500 < supplyMv b)

/-- VIO is of the 3.3 V band; a band, and VIO, VDDC and AVDD in range (tables Operating conditions, Supply supervision). -/
def vio33Now (b : Blk) : Bool := decide (2500 < b.sig .vio)
def vioMin (v33 : Bool) : Int := if v33 then 3000 else 1710
def vioMax (v33 : Bool) : Int := if v33 then 3600 else 1890
def railsOk (b : Blk) : Bool :=
  decide (vioMin (vio33Now b) ≤ b.sig .vio) && decide (b.sig .vio ≤ vioMax (vio33Now b)) &&
  decide (873 ≤ b.sig .vddc) && decide (b.sig .vddc ≤ 927) && decide (3230 ≤ b.sig .avdd) && decide (b.sig .avdd ≤ 3370)

/-- POWERUP begins: registers at their reset values, the feed controllers and KEEP with them (R60, R244). -/
def startUp (b : Blk) : Blk := { powerUpBlk b with dev := .powerup, up := some 0 }

/-- A wake: from STANDBY by any cause held, from device OFF by ALARM or WAKE_IN with VNET or VKB present (R289, R293). -/
def wake (b : Blk) : Blk :=
  let c := b.f BIV_WAKE_CAUSE.CAUSE 0
  if b.dev = .standby ∧ c ≠ 0 then startUp b
  else if b.dev = .off ∧ c % 4 ≠ 0 ∧ !b.biv.onVbiv then startUp b
  else b

/-- A TICK without the core clock: POWERUP begins with the supply above the start threshold, in device OFF with its rise above (`was`: it
was above), and goes on (R447, R451). -/
def powerUpTick (was : Bool) (b : Blk) : Blk :=
  match b.dev, b.up with
  | .powerup, some n => { b with up := some (n + 1) }
  | .powerup, none => if supplyUp b then startUp b else b
  | .off, _ => if !was && supplyUp b then startUp b else b
  | _, _ => b

/-! Step 4: counters -/

/-- The supply counts of R356, R357 and R448. -/
def supplyTick (b : Blk) : Blk :=
  let up := b.vholdUp || decide (12000 ≤ vholdMv b) || b.dev != .boot
  { b with
    vioLow := if b.sig .vio < vioMin b.vio33 then b.vioLow + 1 else 0
    vsupLow := runN b.vsupLow (decide (supplyMv b < 9000)), vholdUp := up
    vholdLow := b.vholdLow.tick (up && decide (vholdMv b < 12000) && decide (9000 < supplyMv b)) }

/-- The counts that the events of a tick are judged by. -/
def tickCounts (t : Nat) (b : Blk) : Blk :=
  wdTick t (throttleTick t (dieTick (kbusTick t (vnetTick t (carrierTick t (supplyTick b))))))

/-! ATTN -/

/-- ATTN_CAUSE of a port after its mask. -/
def attnMasked (b : Blk) (p : Nat) : Nat := Tab.get b.attn 0 p &&& b.f HOST_PORT_CFG.ATTN_MASK p

/-- A bit of a port's ATTN_CAUSE that its mask enables has changed from 0 to 1 since the edge before (R394, R416). -/
def attnRises (b : Blk) (p : Nat) : Bool :=
  (attnMasked b p ^^^ (attnMasked b p &&& Tab.get b.attnPrev 0 p)) != 0

/-- ATTN_N of an edge (R389); a rising bit of port 1 makes a notify due (R394), one of port 3 sends an ATTN frame (R416). -/
def attnTick (b : Blk) : Blk :=
  let pin := (List.range 4).any fun p => b.on HOST_PORT_CFG.ATTN_PIN p && attnMasked b p != 0
  let b1 := if attnRises b 1 ∧ b.on HOST_TW_CFG.NOTIFY_EN 0 then { b with tw := { b.tw with due := true } } else b
  let peer := b.f HW_CFG2.RELAY_NODE 0
  let b3 := if attnRises b 3 ∧ peer ≠ 0 then hwSend b1 8 peer false (leBytes 4 (Tab.get b.attn 0 3)) else b1
  { b3 with attnPin := pin, attnPrev := b.attn }

/-! The tick -/

/-- The STANDBY request of the shutdown timer, made once its groups are IDLE (R250). -/
def sdStandby (t : Nat) (b : Blk) : Blk := if sdStandbyDue b then standbyRequest t b else b

/-- Tick `t` from its edge to the next: the edge, the samples and engines, the requests to objects and the sequencer as events
(R460), the counts; the state after it holds what takes effect at edge `t + 1`. -/
def tickRun (t : Nat) (x : MB) : MB :=
  let (m, b) := tickEdge t x
  let b := forAll 8 (engineWork t (tickWork t) b) fun n b => enforceMove t b n
  let (m, b) := applyRequests t (m, b)
  let b := attnTick (tickCounts t (seqTick t b))
  mapFlush (m, waitAnswer t (sdStandby t (makeLater t (restWindowBreak t b))))

/-- TICK `t` with the input changes of its edge; a device without its core clock only sees its inputs change, and may begin POWERUP. -/
def tickDo (t : Nat) (ins : List (Sig × Int)) (x : MB) : MB :=
  let y := ins.foldl (latchInput t) (x.1, { x.2 with out := [] })
  if running y.2 then tickRun t y else (y.1, powerUpTick (supplyUp x.2) y.2)

/-! Beat, round, slow round (R10) -/

/-- The work of the beat that tick `t` starts. -/
def beatDo (t : Nat) (b : Blk) : Blk :=
  if t % 16 = 0 ∧ b.beatAt ≠ t + 1 ∧ running b then
    forAll 8 { b with beatAt := t + 1 } fun n b => loopBeat b n
  else b

/-- The clock checks of a round (R17): 2 %, for RCOSC 5 %; the Hawser sides by their carrier. -/
def clockRound (t : Nat) (b : Blk) : Blk :=
  let ok (d : Nat) : Bool :=
    if d = 7 ∨ d = 8 then sideFit b (d - 7) && !wrapped b (d - 7)
    else decide ((b.sig (.domainDev d)).natAbs ≤ if d = 9 then 500 else 200)
  let b := b.setF CLK_STATUS.DOM_OK 0 (maskOf ((List.range 11).filter ok))
  ([0, 1, 2, 3, 4, 5, 6, 9, 10].filter fun d => !ok d).foldl
    (fun b d => (b.flag CLK_FAULT.DOM_FAIL 0 (2 ^ d)).raise t 9 0xFFFF) b

/-- The work of the round that tick `t` starts. -/
def roundDo (t : Nat) (x : MB) : MB :=
  let (m, b) := x
  if t % 2048 = 0 ∧ b.roundAt ≠ t + 1 ∧ running b then
    let b := alignRound t (clockRound t { b with roundAt := t + 1 })
    let b := monReadback t (hkResult t b)
    let b := bandgapCheck t (calUpdate (adcShadowRotate t b))
    let b := gaugeRound (accAutoLatch t (soaDecay b))
    (m, logTrips (snapItem t (m, b)) t b)
  else x

/-- The work of the slow round that tick `t` starts; the evaluation of R207 only when the round begins after BOOT. In BOOT the twin
block is written once step 6 has read it, so that what it held is not lost (R84, R93). -/
def slowDo (t : Nat) (b : Blk) : Blk :=
  if t % 524288 = 0 ∧ b.slowAt ≠ t + 1 ∧ running b then
    let b := { b with slowAt := t + 1 }
    let b := if b.devEdge = .boot then b else throttleEval t (sensEval t b)
    let b := monsSlow (shadowRotate (bandgapExchange b))
    twinBlock (injectionTest t (linkSend t b))
  else b

end Sys2Proof.Machine
end

