-- ==== Sys2Proof/Machine/Acts.lean ====
section
/-! DEFINITION. How a command's work on the block becomes work on the state. Without its core clock (POWERUP, STANDBY, device
OFF) the device does the work of the Bivouac domain, its supplies and its hard-wired gates alone. -/
namespace Sys2Proof.Machine

/-- Work of a part that runs in every device state, on the block. -/
def State.actAny (s : State) (f : Nat → Blk → Blk) : State := { s with b := f s.tick s.b }

/-- The same on the memories too. -/
def State.actAnyX (s : State) (f : Nat → MB → MB) : State :=
  { s with mem := (f s.tick (s.mem, s.b)).1, b := (f s.tick (s.mem, s.b)).2 }

/-- Work that needs the core clock, on the block; none without it. -/
def State.act (s : State) (f : Nat → Blk → Blk) : State := if running s.b then s.actAny f else s

/-- The same on the memories too. -/
def State.actX (s : State) (f : Nat → MB → MB) : State := if running s.b then s.actAnyX f else s

/-- A tick edge: the counter goes up by 1 (R11), then the tick's work; without the core clock it does not count. -/
def State.tickOn (s : State) (f : Nat → MB → MB) : State :=
  let t := if running s.b then s.tick + 1 else s.tick
  { s.actAnyX (fun _ x => f t x) with tick := t }

/-- The end of POWERUP where it `ends`: the counter restarts at 0 (R437). -/
def State.powerOn (s : State) (ends : Bool) (f : MB → MB) : State :=
  if ends then { s.actAnyX (fun _ x => f x) with tick := 0 } else s

end Sys2Proof.Machine
end

