-- ==== Sys2Proof/Machine/ExecBerths.lean ====
section
/-! DEFINITION. Berths and feeds: one meaning per row of the command table (spec/02_berths_switching.md,
spec/03_berths_protection.md). -/
namespace Sys2Proof.Machine

/-- BERTH_ON_REQUEST (R37). -/
def execBerthOnRequest (nn : Fin 32) (origin : Fin 4) (s : State) : Host.Outcome State Fault Refusal :=
  .next (s.act fun t b => berthOnRequest t b nn origin)

/-- BERTH_OFF_REQUEST (R37). -/
def execBerthOffRequest (nn : Fin 32) (origin : Fin 4) (s : State) : Host.Outcome State Fault Refusal :=
  .next (s.act fun t b => berthOffRequest t b nn origin)

/-- TOKEN_GRANT (R41). -/
def execTokenGrant (s : State) : Host.Outcome State Fault Refusal := .next (s.act fun t b => arbitrate t b)

/-- INRUSH_DONE (R51). -/
def execInrushDone (nn : Fin 32) (s : State) : Host.Outcome State Fault Refusal :=
  .next (s.act fun t b => inrushDone t b nn)

/-- INRUSH_TIMEOUT (R53). -/
def execInrushTimeout (nn : Fin 32) (s : State) : Host.Outcome State Fault Refusal :=
  .next (s.act fun t b => inrushTimeout t b nn)

/-- SOA_HOLD_ELAPSED (R68). -/
def execSoaHoldElapsed (nn : Fin 32) (s : State) : Host.Outcome State Fault Refusal :=
  .next (s.act fun _ b => holdElapsed b nn)

/-- FEED_REVERSE (R59). -/
def execFeedReverse (n : Fin 2) (uv : Int) (s : State) : Host.Outcome State Fault Refusal :=
  .next (s.actAny fun t b => feedReverse t b n uv)

/-- FEED_REARM (R59). -/
def execFeedRearm (n : Fin 2) (s : State) : Host.Outcome State Fault Refusal :=
  .next (s.actAny fun _ b => feedRearm b n)

/-- FEED_FORCE_OFF (R61). -/
def execFeedForceOff (n : Fin 2) (v : Fin 2) (s : State) : Host.Outcome State Fault Refusal :=
  .next (s.act fun _ b => feedForce b n v)

/-- VNET_UV (R63). -/
def execVnetUv (s : State) : Host.Outcome State Fault Refusal := .next (s.act fun t b => vnetUvRaise t b)

/-- VNET_OV (R63). -/
def execVnetOv (s : State) : Host.Outcome State Fault Refusal := .next (s.act fun t b => vnetOvRaise t b)

/-- FAST_TRIP (R74). -/
def execFastTrip (nn : Fin 32) (uv : Int) (s : State) : Host.Outcome State Fault Refusal :=
  .next (s.act fun t b => fastTrip t b nn uv)

/-- RETRY_WINDOW_CLOSE (R91). -/
def execRetryWindowClose (nn : Fin 32) (s : State) : Host.Outcome State Fault Refusal :=
  .next (s.act fun t b => retryWindowClose t b nn)

/-- HELD_VNET_LOW (R96). -/
def execHeldVnetLow (s : State) : Host.Outcome State Fault Refusal := .next (s.act fun t b => heldVnetLow t b)

end Sys2Proof.Machine
end

