-- ==== Sys2Proof/Machine/ExecBiv.lean ====
section
/-! DEFINITION. The Bivouac domain: one meaning per row of the command table (spec/11_bivouac.md). -/
namespace Sys2Proof.Machine

/-- BIV_SOURCE_SWITCH (R276). -/
def execBivSourceSwitch (vbiv : Bool) (s : State) : Host.Outcome State Fault Refusal :=
  .next (s.actAny fun t b => bivSource t b vbiv)

/-- BIV_DOMAIN_RESET (R277). -/
def execBivDomainReset (s : State) : Host.Outcome State Fault Refusal := .next (s.actAny bivReset)

/-- RTC_SECOND (R279). -/
def execRtcSecond (s : State) : Host.Outcome State Fault Refusal := .next (s.actAny fun _ b => rtcSecond b)

/-- TRIM_WINDOW (R284). -/
def execTrimWindow (s : State) : Host.Outcome State Fault Refusal := .next (s.actAny fun _ b => trimWindow b)

/-- RTC_STAGE_WRITE (R281). -/
def execRtcStageWrite (w : Writer) (k : Fin 7) (v : Nat) (s : State) : Host.Outcome State Fault Refusal :=
  .next (s.act fun _ b => rtcStageWrite b w k v)

/-- RTC_SET (R281). -/
def execRtcSet (w : Writer) (s : State) : Host.Outcome State Fault Refusal := .next (s.act fun _ b => rtcSet b w)

/-- RTC_COMMIT (R281). -/
def execRtcCommit (s : State) : Host.Outcome State Fault Refusal := .next (s.actAny fun _ b => rtcCommit b)

/-- RTC_READ_FREEZE (R282). -/
def execRtcReadFreeze (r : Fin 5) (k : Fin 9) (s : State) : Host.Outcome State Fault Refusal :=
  .next (s.act fun _ b => rtcRead b r k)

/-- RTC_SHADOW_RELEASE (R282). -/
def execRtcShadowRelease (r : Fin 5) (s : State) : Host.Outcome State Fault Refusal :=
  .next (s.actAny fun _ b => rtcRelease b r)

/-- MEAS_START (R285). -/
def execMeasStart (s : State) : Host.Outcome State Fault Refusal := .next (s.act fun t b => measStart t b)

/-- MEAS_DONE (R285). -/
def execMeasDone (s : State) : Host.Outcome State Fault Refusal := .next (s.act fun t b => measDone t b)

/-- OSC_STOPPED (R286). -/
def execOscStopped (s : State) : Host.Outcome State Fault Refusal := .next (s.actAny fun t b => oscStopped t b)

/-- OSC_RESTART (R286). -/
def execOscRestart (s : State) : Host.Outcome State Fault Refusal := .next (s.actAny fun _ b => oscRestart b)

/-- SWITCH_STAMP_CLEAR (R278). -/
def execSwitchStampClear (s : State) : Host.Outcome State Fault Refusal := .next (s.act fun _ b => switchClear b)

/-- WAKE_IN_ASSERT (R288). -/
def execWakeInAssert (s : State) : Host.Outcome State Fault Refusal := .next (s.actAny fun _ b => wakeInAssert b)

/-- WAKE_IN_RELEASE (R288). -/
def execWakeInRelease (s : State) : Host.Outcome State Fault Refusal := .next (s.actAny fun _ b => wakeInRelease b)

/-- HOST_WAKE (R289). -/
def execHostWake (s : State) : Host.Outcome State Fault Refusal := .next (s.actAny fun _ b => hostWake b)

/-- WAKE (R289). -/
def execWake (s : State) : Host.Outcome State Fault Refusal := .next (s.actAny fun _ b => wake b)

/-- STANDBY_REQUEST (R291). -/
def execStandbyRequest (s : State) : Host.Outcome State Fault Refusal := .next (s.act fun t b => standbyRequest t b)

/-- OFF_REQUEST (R293). -/
def execOffRequest (s : State) : Host.Outcome State Fault Refusal := .next (s.act fun t b => offRequest t b)

end Sys2Proof.Machine
end

