-- ==== Sys2Proof/Machine/Cmd.lean ====
section
/-! DEFINITION. How Pilot executes an opcode: the checks of R420, the response of R418 and R422, and the payload helpers of
R419 and R421 (spec/17_command_set.md). A command acts on the message held open, once, when its OPCODE is the command's. -/
namespace Sys2Proof.Machine

/-- An opcode: its code, the payload lengths it allows, the class it needs (0 A, 1 O, 2 W), its lease kind and index, whether
it would switch an output on (R423), its index ranges, and, for an opcode that always carries its payload (R422), the payload
of a refusal by the checks of R420. -/
structure Op where
  code : Nat
  len : List Nat → Nat → Bool
  cls : List Nat → Nat := fun _ => 0
  lease : List Nat → Option (Nat × Nat) := fun _ => none
  turnsOn : List Nat → Bool := fun _ => false
  ok : List Nat → Bool := fun _ => true
  early : Option (Blk → List Nat → List Nat × Blk) := none

/-- A payload of one length. -/
def len1 (n : Nat) : List Nat → Nat → Bool := fun _ l => l == n

/-- Fields of a payload. -/
def pU8 (p : List Nat) (i : Nat) : Nat := p.getD i 0
def pU16 (p : List Nat) (i : Nat) : Nat := leAt p i 2
def pU32 (p : List Nat) (i : Nat) : Nat := leAt p i 4
def pI32 (p : List Nat) (i : Nat) : Int := leIntAt p i 4

/-- A signed 32-bit field of a response from an exact quantity. -/
def i32 (q : Rat) : List Nat := leInt 4 (clampI (-2147483648) 2147483647 (toInt q))

/-- The nearest integer; the direction of a tie is not stated. -/
def nearest (q : Rat) : Int := if q - q.floor = 1/2 then toInt q else roundHalfUp q

/-- Bytes whose value the spec does not state. -/
def freeBytes (b : Blk) (n : Nat) : List Nat × Blk :=
  ((List.range n).map fun i => Config.freeByte (b.free + i) % 256, { b with free := b.free + n })

/-- The status of a request under checks 1 to 7 of R420 (0 = all pass). -/
def opCheck (b : Blk) (r : Req) (o : Op) : Nat :=
  let m := r.msg
  let p := msgPay m
  let rec_ := b.on BOOT_STATUS.RECOVERY 0
  if !msgCrcOk m then sBAD_CRC
  else if msgFlags m ≠ 0 then sBAD_OPCODE
  else if !o.len p (msgLen m) then sBAD_LENGTH
  else if portClass b r.port < o.cls p then sDENIED
  else if (rec_ ∧ o.code / 256 ≠ 0 ∧ o.code / 256 ≠ 0x0E) ∨ (o.turnsOn p ∧ b.safeNow) then sSTATE
  else
    let l := match o.lease p with
      | some (k, i) => if rec_ then sOK else leaseCheck b r.port k i (msgLease m) r.edge
      | none => sOK
    if l ≠ sOK then l else if o.ok p then sOK else sNOT_FOUND

/-- The response of the open message built (R418). -/
def reply (b : Blk) (m : List Nat) (st : Nat) (pay : List Nat) : Blk := { b with answer := some (respond m 0x80 st pay) }

/-- What an opcode does when checks 1 to 7 of R420 pass: its status and payload (`none` = the response follows later), memory
and device after. -/
abbrev Act := Req → List Nat → MB → Option (Nat × List Nat) × MB

/-- A status carries a payload (R422). -/
def carries (o : Op) (st : Nat) : Bool := st == sOK || st == sLIMIT || o.early.isSome

/-- The command of opcode `o` on the message held open. -/
def runOp (x : MB) (o : Op) (act : Act) : MB :=
  match x.2.msg with
  | none => x
  | some r =>
    if msgOp r.msg ≠ o.code ∨ x.2.answer.isSome ∨ x.2.wait.isSome ∨ !quaysOpenNow x.2 then x
    else
      let st := opCheck x.2 r o
      if st ≠ sOK then
        let y := match o.early with
          | some f => f x.2 (msgPay r.msg)
          | none => ([], x.2)
        (x.1, reply y.2 r.msg st y.1)
      else
        match act r (msgPay r.msg) x with
        | (some (st, pay), y) => (y.1, reply y.2 r.msg st (if carries o st then pay else []))
        | (none, y) => y

/-- An act that only reads. -/
def shows (f : Req → List Nat → Blk → List Nat) : Act := fun r p x => (some (sOK, f r p x.2), x)

/-- A write of Pilot for the open request, with the class of its port as origin (R90, R424). -/
def wr (t : Nat) (r : Req) (x : MB) (a v : Nat) : Nat × MB := busWrite t x .pilot (portClass x.2 r.port) a v

/-- LIMIT in place of OK. -/
def limited (p : Bool) (st : Nat) : Nat := if st = sOK ∧ p then sLIMIT else st

/-- The address of the register that holds a field, by instance. -/
def Fld.addr (F : Fld) (i : Nat) : Nat := F.base + F.stride * i

end Sys2Proof.Machine
end

