-- ==== Sys2Proof/Machine/CmdsCfg.lean ====
section
/-! DEFINITION. The CFG, FW, OTP and REG opcodes, and the uploads they drive: spec/17_command_set.md (R431, R432),
spec/15_firmware_config.md (R362, R370 to R380, R383). -/
namespace Sys2Proof.Machine

/-! Uploads (R431) -/

/-- The lease of the configuration. -/
def cfgLease (_ : List Nat) : Option (Nat × Nat) := some (4, 0)

/-- The flash address and the pages of an upload's target. -/
def Upload.base (u : Upload) : Nat := if u.fw then pilotAt u.slot else cfgSlotAt u.slot
def Upload.pages (u : Upload) : Nat := if u.fw then 512 else 16

/-- An upload begun on a slot, whose erase starts. -/
def uploadBegin (b : Blk) (fw : Bool) (slot len : Nat) : Blk :=
  { b with upload := some { fw := fw, slot := slot, next := 0, len := len, erasing := true } }

/-- The erase of the target slot completes. -/
def slotEraseDone (t : Nat) (x : MB) : MB :=
  match x.2.upload with
  | some u =>
    if u.erasing then
      (forAll u.pages x.1 fun i m => m.flashErase (u.base + 4096 * i),
        flashVerify t { x.2 with upload := some { u with erasing := false } } u.base)
    else x
  | none => x

/-- A chunk (CFG_CHUNK, FW_CHUNK): in order, each word programmed once; an error of the flash controller ends it with STATE (R326). -/
def uploadChunk (t : Nat) (fw : Bool) (p : List Nat) (x : MB) : Option (Nat × List Nat) × MB :=
  match x.2.upload with
  | some u =>
    let n := p.length - 4
    if u.fw ≠ fw then (some (sSTATE, []), x)
    else if u.erasing then (some (sBUSY, []), x)
    else if pU32 p 0 ≠ u.next then (some (sSTATE, []), x)
    else if (u.len + 7) / 8 * 8 < u.next + n then (some (sNOT_FOUND, []), x)
    else if !x.1.flashTakes (u.base + u.next) (n / 8) then
      (some (sSTATE, []), x.1.flashWrite (u.base + u.next) (p.drop 4) 64, x.2)
    else
      (some (sOK, leBytes 4 (u.next + n)), x.1.flashWrite (u.base + u.next) (p.drop 4) 64,
        flashVerify t { x.2 with upload := some { u with next := u.next + n } } (u.base + u.next))
  | none => (some (sSTATE, []), x)

/-- The lengths of a chunk. -/
def chunkLen : List Nat → Nat → Bool := fun _ l => decide (12 ≤ l ∧ l ≤ 492) && (l - 4) % 8 == 0

/-- An upload of a kind whose bytes have all arrived. -/
def uploadFull (b : Blk) (fw : Bool) : Option Upload := match b.upload with
  | some u => if u.fw = fw ∧ !u.erasing ∧ u.len ≤ u.next then some u else none
  | none => none

/-- The payload of CFG_END and FW_END when no check has run. -/
def endEarly (b : Blk) : List Nat × Blk :=
  let y := freeBytes b 1
  (y.1 ++ [0, 0, 0], y.2)

/-! CFG -/

/-- CFG_INFO. -/
def cfgInfo (x : MB) : MB :=
  runOp x { code := 0x0D00, len := len1 0 } (shows fun _ _ b =>
    leBytes 4 (b.f CFG_SEQ.SEQ 0) ++ leBytes 4 (b.f CFG_SEQ.SEQ 1) ++ [b.f BOOT_STATUS.CFG_SLOT 0, b.f BOOT_STATUS.CFG_RESULT 0,
      b.f BOOT_POLICY.CFG_SIG_REQ 0, b.f BOOT_STATUS.NOCFG 0] ++ leBytes 4 (b.f CFG_REJECT.CODE 0) ++
    leBytes 2 (b.f CFG_REJECT_REC.HOLDER 0) ++ leBytes 2 (b.f CFG_REJECT_REC.CLAIMANT 0))

/-- The SEQ held by a slot, 0 when it cannot be read (R380). -/
def slotSeqRead (m : Mem) (k : Nat) : Nat :=
  if m.seen (cfgSlotAt k) 4 = leBytes 4 0x46434853 ∧ m.seenOk (cfgSlotAt k) 8 then leNat (m.seen (cfgSlotAt k + 4) 4) else 0

/-- The slot an upload writes (R380). -/
def cfgTarget (x : MB) : Nat :=
  if x.2.on BOOT_STATUS.NOCFG 0 then (if slotSeqRead x.1 1 < slotSeqRead x.1 0 then 1 else 0)
  else 1 - x.2.f BOOT_STATUS.CFG_SLOT 0

/-- CFG_BEGIN (R380). -/
def cfgBegin (x : MB) : MB :=
  runOp x { code := 0x0D01, len := len1 8, cls := fun _ => 2, lease := cfgLease } fun _ p x =>
    let seq := pU32 p 0
    let len := pU32 p 4
    let above := if x.2.on BOOT_STATUS.NOCFG 0 then decide (1 ≤ seq) else decide (cfgSeq x.2 < seq)
    if !above ∨ seq = 0xFFFFFFFF then (some (sSTALE, []), x)
    else if len < 36 ∨ 65536 < len ∨ len % 8 ≠ 4 then (some (sBAD_LENGTH, []), x)
    else
      let k := cfgTarget x
      (some (sOK, [k, 0, 0, 0]), x.1, uploadBegin (x.2.setF CFG_SEQ.SEQ k 0xFFFFFFFF) false k len)

/-- CFG_CHUNK. -/
def cfgChunk (t : Nat) (x : MB) : MB :=
  runOp x { code := 0x0D02, len := chunkLen, cls := fun _ => 2, lease := cfgLease } fun _ p x => uploadChunk t false p x

/-- CFG_END: the slot checked under R377, a CONFIG record of the result. -/
def cfgEnd (t : Nat) (x : MB) : MB :=
  runOp x { code := 0x0D03, len := len1 0, cls := fun _ => 2, lease := cfgLease, early := some fun b _ => endEarly b } fun _ _ x =>
    match uploadFull x.2 false with
    | none =>
      let y := endEarly x.2
      (some (sSTATE, y.1), x.1, y.2)
    | some u =>
      let (r, im, y) := cfgCheck t x u.slot
      let b := if r = 0 then y.2.setF CFG_SEQ.SEQ u.slot im.seq else y.2
      let b := cfgRecord t { b with upload := none } im.seq u.slot (if r = 0 then 7 else r)
      (some (if r = 0 then sOK else if r = 3 then sAUTH else sSTATE, [r, 0, 0, 0]), y.1, b)

/-! FW -/

/-- FW_INFO. -/
def fwInfo (x : MB) : MB :=
  runOp x { code := 0x0E00, len := len1 0 } (shows fun _ _ b =>
    let l := bootRec b
    leBytes 4 (b.f PILOT_VER.VERSION 0) ++ leBytes 4 (b.f PILOT_VER.VERSION 1) ++
    [b.f BOOT_STATUS.PILOT_SLOT 0, l.getD 1 0, l.getD 2 0, b.f BOOT_STATUS.RECOVERY 0, b.counter 0, 0, 0, 0])

/-- The active Pilot slot: ACTIVE of the boot record, or the slot running when the record is not right. -/
def fwActive (b : Blk) : Nat := if bootRecOk b then (bootRec b).getD 0 0 % 2 else b.f BOOT_STATUS.PILOT_SLOT 0

/-- FW_BEGIN (R371). -/
def fwBegin (x : MB) : MB :=
  runOp x { code := 0x0E01, len := len1 4, cls := fun _ => 2, lease := cfgLease } fun _ p x =>
    if 0x200000 < pU32 p 0 then (some (sBAD_LENGTH, []), x)
    else
      let k := 1 - fwActive x.2
      (some (sOK, [k, 0, 0, 0]), x.1, uploadBegin (x.2.setF PILOT_VER.VERSION k 0) true k (pU32 p 0))

/-- FW_CHUNK. -/
def fwChunk (t : Nat) (x : MB) : MB :=
  runOp x { code := 0x0E02, len := chunkLen, cls := fun _ => 2, lease := cfgLease } fun _ p x => uploadChunk t true p x

/-- A FIRMWARE record's DETAIL (table CONFIG and FIRMWARE record fields). -/
def fwRecord (t : Nat) (b : Blk) (version slot event : Nat) : Blk := b.trigger t 7 (leBytes 4 version ++ [slot, event])

/-- FW_END: the slot checked under R370; a refusal is recorded. -/
def fwEnd (t : Nat) (x : MB) : MB :=
  runOp x { code := 0x0E03, len := len1 0, cls := fun _ => 2, lease := cfgLease, early := some fun b _ => endEarly b } fun _ _ x =>
    match uploadFull x.2 true with
    | none =>
      let y := endEarly x.2
      (some (sSTATE, y.1), x.1, y.2)
    | some u =>
      let (r, h, y) := pilotCheck t x u.slot
      let b := { y.2 with upload := none }
      let b := if r = 0 then b.setF PILOT_VER.VERSION u.slot (pilotVersion h) else fwRecord t b (pilotVersion h) u.slot 4
      (some (if r = 0 then sOK else if r = 2 then sAUTH else sSTATE, [r, 0, 0, 0]), y.1, b)

/-- FW_ACTIVATE (R373). -/
def fwActivate (t : Nat) (x : MB) : MB :=
  runOp x { code := 0x0E04, len := len1 0, cls := fun _ => 2, lease := cfgLease } fun _ _ x =>
    let act := fwActive x.2
    let k := 1 - act
    let (r, h, y) := pilotCheck t x k
    if r ≠ 0 then (some (sSTATE, []), y)
    else (some (sOK, [k, 0, 0, 0]), y.1, fwRecord t (bootRecPut y.2 act k 0) (pilotVersion h) k 0)

/-! OTP (R383) -/

/-- OTP_READ (R335). -/
def otpReadCmd (x : MB) : MB :=
  runOp x
    { code := 0x0F00, len := len1 4
      ok := fun p => decide (pU16 p 0 + pU16 p 2 ≤ 2048 ∧ 1 ≤ pU16 p 2 ∧ pU16 p 2 ≤ 123) } (shows fun _ p b =>
    (List.range (pU16 p 2)).flatMap fun i => leBytes 4 (b.otpRead (pU16 p 0 + i)))

/-- The payload of the OTP write opcodes. -/
def otpShort (b : Blk) : List Nat := [b.f OTP_STATUS.ERR 0, b.f OTP_STATUS.MAXPULSE 0, 0, 0]

/-- A signed request is genuine: by the active owner key, or, while its slot is blank, by its OWNER-class origin. -/
def otpSigned (b : Blk) (tag : List Nat) (body sig : List Nat) : Bool :=
  ownerBlank b || Config.ecdsaOk (ownerKey b) (tag ++ serial b ++ body) sig

/-- A word that a request may program (table OTP request checks). -/
def otpOpen (w : Nat) : Bool :=
  let a := 4 * w
  (decide (0x400 ≤ a ∧ a < 0xC00) && !decide (0x780 ≤ a ∧ a < 0xB80)) || decide (0xC00 ≤ a ∧ a < 0xD00) || decide (0x1400 ≤ a)

/-- A command of Keeper's carried out to its end. -/
def keeperOtp (t : Nat) (cmd : Blk → Writer → Nat → Blk) (b : Blk) : Blk :=
  let b := cmd b .keeper 0xC3
  if b.on OTP_STATUS.BUSY 0 then otpEnd t false b else b

/-- A word programmed by Keeper. -/
def keeperProgram (t : Nat) (b : Blk) (w v : Nat) : Blk :=
  keeperOtp t otpCmdProgram ((b.setF OTP_ADDR.INDEX 0 w).setF OTP_DATA.DATA 0 v)

/-- Words programmed from an index on, up to the first that ends with an error. -/
def keeperProgramAll (t : Nat) (b : Blk) (w : Nat) : List Nat → Blk
  | [] => b
  | v :: r =>
    let b := keeperProgram t b w v
    if b.f OTP_STATUS.ERR 0 = 0 then keeperProgramAll t b (w + 1) r else b

/-- The answer of an OTP request that Keeper has carried out: STATE with an error. -/
def otpAnswer (b : Blk) : Nat × List Nat := (if b.f OTP_STATUS.ERR 0 = 0 then sOK else sSTATE, otpShort b)

/-- An OTP request: with a wrong signature; while another OTP command runs, ERR BUSY (R338); while a record is being programmed, held until
its end (R350); else carried out, Keeper's waiting increments after it. -/
def otpAct (b : Blk) (good : Bool) (act : Blk → Blk) : Option (Nat × List Nat) × Blk :=
  if !good then (some (sAUTH, otpShort b), b)
  else if b.on OTP_STATUS.BUSY 0 then
    let b := otpErr b 1
    (some (otpAnswer b), b)
  else if b.log.writing.isSome then (none, { b with otpHeld := true })
  else
    let b := act b
    (some (otpAnswer b), otpNext b)

/-- OTP_PROGRAM. -/
def otpProgramCmd (t : Nat) (x : MB) : MB :=
  runOp x
    { code := 0x0F01, len := len1 72, cls := fun _ => 2, ok := fun p => decide (pU16 p 0 < 2048)
      early := some fun b _ => (otpShort b, b) } fun _ p x =>
    let w := pU16 p 0
    let good := otpSigned x.2 [0x4F, 0x54, 0x50, 0x50, 0x52, 0x4F, 0x47, 0x31] (slice p 0 2 ++ slice p 4 4) (p.drop 8)
    let (a, b) := otpAct x.2 good fun b => if otpOpen w then keeperProgram t b w (pU32 p 4) else otpErr b 3
    (a, x.1, b)

/-- OTP_PATCH (R362). -/
def otpPatchCmd (t : Nat) (x : MB) : MB :=
  runOp x
    { code := 0x0F02, len := len1 132, cls := fun _ => 2, ok := fun p => decide (pU8 p 0 < 8)
      early := some fun b _ => (otpShort b, b) } fun _ p x =>
    let l := p.drop 4
    let good := Config.ecdsaOk (vendorKey x.2) (l.take 64) (l.drop 64)
    let (a, b) := otpAct x.2 good fun b => keeperProgramAll t b (0x780 / 4 + 32 * pU8 p 0) (leWords l 32)
    (a, x.1, b)

/-- OTP_FINALISE (R342). -/
def otpFinaliseCmd (t : Nat) (x : MB) : MB :=
  runOp x
    { code := 0x0F03, len := len1 68, cls := fun _ => 2, ok := fun p => decide (1 ≤ pU8 p 0 ∧ pU8 p 0 ≤ 3)
      early := some fun b _ => (otpShort b, b) } fun _ p x =>
    let good := otpSigned x.2 [0x4F, 0x54, 0x50, 0x46, 0x49, 0x4E, 0x41, 0x4C] [pU8 p 0] (p.drop 4)
    let (a, b) := otpAct x.2 good fun b =>
      keeperOtp t otpCmdFinalise (b.setF OTP_ADDR.INDEX 0 (pU8 p 0))
    (a, x.1, b)

/-- An owner transfer (R346): the new key and its digest in the next slot, then the counter. -/
def ownerTransfer (t : Nat) (b : Blk) (key : List Nat) : Blk :=
  let k := ownerSlot b + 1
  let b := keeperProgramAll t b (0xD00 / 4 + 16 * k) (leWords key 16)
  if b.f OTP_STATUS.ERR 0 ≠ 0 then b
  else
    let b := keeperProgramAll t b (0xE00 / 4 + 8 * k) (leWords (sha256 key) 8)
    if b.f OTP_STATUS.ERR 0 ≠ 0 then b
    else if b.otpBytes (0xE00 + 32 * k) 32 ≠ sha256 (b.otpBytes (0xD00 + 64 * k) 64) then otpErr b 8
    else keeperOtp t otpCmdIncrement (b.setF OTP_ADDR.INDEX 0 3)

/-- The slot of the next owner key is blank. -/
def nextOwnerBlank (b : Blk) : Bool :=
  let k := ownerSlot b + 1
  (b.otpBytes (0xD00 + 64 * k) 64).all (· == 0) && (b.otpBytes (0xE00 + 32 * k) 32).all (· == 0)

/-- OTP_TRANSFER (R346). -/
def otpTransferCmd (t : Nat) (x : MB) : MB :=
  runOp x
    { code := 0x0F04, len := len1 128, cls := fun _ => 2, early := some fun b _ => ([b.counter 3, 0, 0, 0], b) } fun _ p x =>
    let b := x.2
    let key := p.take 64
    let good := otpSigned b [0x4F, 0x57, 0x4E, 0x45, 0x52, 0x58, 0x46, 0x52] (leBytes 4 (b.counter 3) ++ key) (p.drop 64)
    if good ∧ (3 ≤ b.counter 3 ∨ !nextOwnerBlank b) then (some (sSTATE, [b.counter 3, 0, 0, 0]), x)
    else
      let (a, b) := otpAct b good fun b => ownerTransfer t b key
      (a.map fun a => (a.1, [b.counter 3, 0, 0, 0]), x.1, b)

/-- The OTP request that a record's write held, carried out after it (R350). -/
def otpResume (t : Nat) (x : MB) : MB :=
  let y : MB := (x.1, { x.2 with otpHeld := false })
  if !x.2.otpHeld then x
  else match x.2.msg.map fun r => msgOp r.msg with
    | some 0x0F01 => otpProgramCmd t y
    | some 0x0F02 => otpPatchCmd t y
    | some 0x0F03 => otpFinaliseCmd t y
    | some 0x0F04 => otpTransferCmd t y
    | _ => y

/-- OTP_COUNTERS (R344). -/
def otpCountersCmd (x : MB) : MB :=
  runOp x { code := 0x0F05, len := len1 0 } (shows fun _ _ b => (List.range 32).map b.counter)

/-! REG (R432) -/

/-- The registers that the REG opcodes do not reach (R312, R329, R336). -/
def regBarred (a : Nat) : Bool :=
  decide (0x40120000 ≤ a ∧ a < 0x40130000) || decide (0x40130020 ≤ a ∧ a < 0x40130034) ||
  decide (0x40140000 ≤ a ∧ a < 0x4014000C)

/-- The leasable resource whose register lies at an address. -/
def regResource (b : Blk) (a : Nat) : Option (Nat × Nat) :=
  if 0x40010000 ≤ a ∧ a < 0x40012000 then some (0, (a - 0x40010000) / 256)
  else if 0x40040000 ≤ a ∧ a < 0x40042000 then some (1, (a - 0x40040000) / 1024)
  else if 0x40042000 ≤ a ∧ a < 0x40042180 then some (1, b.f PHASE_CFG.LOOP ((a - 0x40042000) / 16))
  else if 0x40070000 ≤ a ∧ a < 0x40070800 then some (1, (a - 0x40070000) / 256)
  else if 0x400D0000 ≤ a ∧ a < 0x400D0100 then some (2, (a - 0x400D0000) / 32)
  else if 0x400D1000 ≤ a ∧ a < 0x400D1800 then (stepGroups b ((a - 0x400D1000) / 32)).head?.map fun g => (2, g)
  else if 0x400D2000 ≤ a ∧ a < 0x400D2100 then some (2, b.f SEQ_OUT_CFG.GROUP ((a - 0x400D2000) / 4))
  else if 0x400E0040 ≤ a ∧ a < 0x400E0070 then some (3, 0)
  else none

/-- Another port holds the lease on the resource of a register. -/
def regLeased (b : Blk) (p a : Nat) : Bool :=
  match regResource b a with
  | some (k, i) =>
    match leaseOf b k i with
    | some e => b.f LEASE_RES.PORT e != p
    | none => false
  | none => false

/-- The refusal of a REG opcode on a list of addresses, 0 = none. -/
def regCheck (b : Blk) (p : Nat) (write : Bool) (l : List Nat) : Nat :=
  if l.any fun a => a % 4 != 0 || !mapped a then sNOT_FOUND
  else if l.any regBarred then sDENIED
  else if write && l.any (regLeased b p) then sLEASED else sOK

/-- The addresses of `n` words. -/
def regAddrs (a n : Nat) : List Nat := (List.range n).map fun i => a + 4 * i

/-- A word read by a REG opcode: Pilot's read, whose flags an OBSERVER may be shown later (R425). -/
def regRead1 (t : Nat) (x : MB) (a : Nat) : Nat × Bool × MB :=
  let y := busRead t x 4 a
  (y.1, y.2.1, y.2.2.1, if a = 0x400E0060 then { y.2.2.2 with chgLast := y.1 } else y.2.2.2)

/-- REG_READ. -/
def regReadCmd (t : Nat) (x : MB) : MB :=
  runOp x { code := 0x1000, len := len1 8, cls := fun _ => 2, ok := fun p => decide (1 ≤ pU16 p 4 ∧ pU16 p 4 ≤ 123) } fun r p x =>
    let l := regAddrs (pU32 p 0) (pU16 p 4)
    let st := regCheck x.2 r.port false l
    if st ≠ sOK then (some (st, []), x)
    else
      let y := l.foldl (fun (acc : List Nat × Bool × MB) a =>
        let z := regRead1 t acc.2.2 a
        (acc.1 ++ leBytes 4 z.1, acc.2.1 || z.2.1, z.2.2)) ([], false, x)
      (some (if y.2.1 then sINTERNAL else sOK, y.1), y.2.2)

/-- The fields whose tables state a range of values: its ends. The value that a table takes for those outside is that of its nearest
end, but for IGATE_MAX, whose 0 is taken as 600. -/
def fieldRanges : List (Fld × Nat × Nat) :=
  [(BERTH_INRUSH_T.DONE_MV, 50, 2000), (BERTH_INRUSH_T.TMAX, 1, 4000), (BERTH_TOKENS.TOK_CFG, 1, 6), (FEED_CFG.REARM_MV, 50, 400),
   (FEED_CFG.REV_MV, 2, 20), (FEED_CFG.FWD_MV, 10, 50), (FEED_VNET_WIN.QUAL, 1, 255), (LOOP_PER.PER, 800, 5333),
   (LOOP_TON.TOFF_MIN, 20, 255), (LOOP_TON.TON_MIN, 20, 255), (LOOP_WIN.QUAL, 1, 255), (LOOP_ILIM2.OC_QUAL, 1, 255),
   (LOOP_SHARE.TRIM_MAX, 0, 16000), (LOOP_SHED_N.NMIN, 1, 16), (LOOP_SHED_N.SHED_BEATS, 1, 255)] ++
  ((List.range 8).map fun k => (LOOP_VSET.CODE k, 500, 11000)) ++
  [(IB_VSET.CODE, 240, 2200), (IB_RAMP.SS_TMAX, 1, 65535), (IB_WIN.QUAL, 1, 255), (IB_ILIM.OC_QUAL, 1, 255), (MON_CFG.MQUAL, 1, 255),
   (BLANK_CFG.LEN, 1, 255), (TS_CFG.WIN_SR, 4, 229), (TS_CFG.BROKEN_QUAL, 1, 15), (THR_ENF.REL_SR, 1, 255), (THR_ENF.ENF_IDX, 0, 7),
   (THR_CTL.GRACE, 1, 500), (SEQ_GRP_CFG.T_OFF_MIN, 5, 1000), (SEQ_GRP_CFG.DROP_QUAL, 1, 255), (SEQ_GRP_STEPS.COUNT, 0, 16),
   (SEQ_STEP_QUAL.DELAY, 0, 10000), (SEQ_STEP_QUAL.QUAL, 10, 10000), (SEQ_STEP_TMO.TMO, 100, 2000000),
   (SEQ_STEP_OFF.OFF_TMO, 100, 2000000), (SEQ_TIMING.TOK_LEAD, 1, 65535), (SEQ_TIMING.FH_MIN, 2, 65535), (KEEP_CFG.KEEP_ON, 60, 160),
   (KEEP_CFG.REV_MV, 2, 20), (KEEP_CFG.FWD_MV, 10, 50), (HO_CFG.DWELL_MS, 1, 1000), (KBUS_WIN.QUAL, 1, 255),
   (CHG_SET.VCELL_REG, 3000, 4400), (CHG_SESSION.SESSION_H, 1, 20), (PACK_CFG.JUMP_MV, 50, 2000), (WD_CFG.PERIOD_MS, 1, 1000),
   (SCRUB_CTL.RATE, 1, 255), (HOST_TW_CFG.NOTIFY_GAP, 1, 255), (QUAY_CFG.EXEC_TMO, 1, 65535)]

/-- A value given for a field, set to the nearest end of the range stated for it (R421); LOOP_OFS is below the period beside it. -/
def fieldGiven (per : Nat) (F : Fld) (x : Nat) : Nat :=
  if F = BERTH_GATE.IGATE_MAX then (if x = 0 ∨ 600 < x then 600 else x)
  else if F = LOOP_PER.LOOP_OFS then min x (per - 1)
  else if F = BIV_TRIM.TRIM then ux 11 (clampI (-512) 512 (sx 11 x))
  else match fieldRanges.find? fun r => r.1 == F with
    | some (_, lo, hi) => clampN lo hi x
    | none => x

/-- A word given for a register, every field that `mask` gives at least in part within its range (R421). -/
def wordGiven (a mask v : Nat) : Nat := match findReg a with
  | some (r, _) =>
    let per := fieldGiven 0 LOOP_PER.PER (bits v 0 13)
    r.flds.foldl (fun w F =>
      let x := bits v F.lo F.w
      if bits mask F.lo F.w = 0 then w else w - x * 2 ^ F.lo + fieldGiven per F x * 2 ^ F.lo) v
  | none => v

/-- A word of a payload written: a value brought within its range answers LIMIT (R421). -/
def wrGiven (t : Nat) (r : Req) (x : MB) (a mask v : Nat) : Nat × MB :=
  let y := wr t r x a (wordGiven a mask v)
  (limited (wordGiven a mask v != v) y.1, y.2)

/-- Words written from an address on, up to the first whose rule refuses or limits it: status, words written, device. -/
def regWrites (t : Nat) (r : Req) (x : MB) (a n : Nat) : List Nat → Nat × Nat × MB
  | [] => (sOK, n, x)
  | v :: rest =>
    let (st, y) := wrGiven t r x a 0xFFFFFFFF v
    if st = sOK then regWrites t r y (a + 4) (n + 1) rest
    else (st, if st = sLIMIT then n + 1 else n, y)

/-- REG_WRITE. -/
def regWriteCmd (t : Nat) (x : MB) : MB :=
  runOp x
    { code := 0x1001, len := fun p l => decide (8 ≤ l) && l == 8 + 4 * pU16 p 4, cls := fun _ => 2
      ok := fun p => decide (1 ≤ pU16 p 4 ∧ pU16 p 4 ≤ 121), early := some fun b _ => ([0, 0, 0, 0], b) } fun r p x =>
    let n := pU16 p 4
    let st := regCheck x.2 r.port true (regAddrs (pU32 p 0) n)
    if st ≠ sOK then (some (st, [0, 0, 0, 0]), x)
    else
      let y := regWrites t r x (pU32 p 0) 0 (leWords (p.drop 8) n)
      (some (y.1, leBytes 2 y.2.1 ++ [0, 0]), y.2.2)

/-- REG_MODIFY. -/
def regModifyCmd (t : Nat) (x : MB) : MB :=
  runOp x { code := 0x1002, len := len1 12, cls := fun _ => 2 } fun r p x =>
    let a := pU32 p 0
    let st := regCheck x.2 r.port true [a]
    if st ≠ sOK then (some (st, []), x)
    else
      let y := regRead1 t x a
      if y.2.1 then (some (sINTERNAL, []), y.2.2)
      else
        let mask := pU32 p 4
        let z := wrGiven t r y.2.2 a mask ((y.1 &&& (0xFFFFFFFF ^^^ mask)) ||| (pU32 p 8 &&& mask))
        let w := busRead t z.2 5 a
        (some (z.1, leBytes 4 y.1 ++ leBytes 4 w.1), z.2)

end Sys2Proof.Machine
end

