-- ==== Sys2Proof/Machine/CmdsPower.lean ====
section
/-! DEFINITION. The BERTH, FEED, LOOP and IREG opcodes: spec/17_command_set.md (R421, R424 to R427). -/
namespace Sys2Proof.Machine

/-- A one-bit field of a payload as written, and whether it was reduced (R421). -/
def pFlag (p : List Nat) (i : Nat) : Nat := min 1 (pU8 p i)
def pOver (p : List Nat) (i m : Nat) : Bool := decide (m < pU8 p i)

/-! BERTH -/

/-- The same for a request refused before a berth is known. -/
def berthEarly (b : Blk) (p : List Nat) : List Nat × Blk :=
  if p ≠ [] ∧ pU8 p 0 < 32 then (berthShort b (pU8 p 0), b)
  else
    let y := freeBytes b 3
    (y.1 ++ [0], y.2)

/-- An output belongs to a group that is not IDLE (R222). -/
def outOwned (b : Blk) (o : Nat) : Bool :=
  let g := b.f SEQ_OUT_CFG.GROUP o
  decide (g < 8) && b.gst g != gIDLE


/-- BERTH_SET (R426): off, on, or a toggle whose two values latch at consecutive edges; its response follows the second (R424). -/
def berthSet (t : Nat) (x : MB) : MB :=
  runOp x
    { code := 0x0200, len := len1 4, cls := fun _ => 1, lease := fun p => some (0, pU8 p 0)
      turnsOn := fun p => pU8 p 1 == 1 || pU8 p 1 == 2, ok := fun p => decide (pU8 p 0 < 32 ∧ pU8 p 1 ≤ 2)
      early := some berthEarly } fun r p x =>
    let nn := pU8 p 0
    let act := pU8 p 1
    let was := x.2.bst nn
    let a := BERTH_CTL.ON.addr nn
    if act = 1 ∧ (was = bTRIPPED ∨ was = bLOCKED) then (some (sSTATE, berthShort x.2 nn), x)
    else
      let owned := outOwned x.2 (22 + nn)
      let (st, y) := wr t r x a (if act = 1 then 1 else 0)
      if st ≠ sOK ∨ owned then (some (sSTATE, berthShort y.2 nn), y)
      else if act ≠ 2 then (some (sOK, berthShort y.2 nn), y)
      else (none, y.1, { stage y.2 .pilot (portClass y.2 r.port) a 1 with wait := some ⟨false, nn, t + 1, false⟩ })

/-- BERTH_STATUS. -/
def berthStatus (x : MB) : MB :=
  runOp x { code := 0x0201, len := len1 4, ok := fun p => decide (pU8 p 0 < 32) } (shows fun _ p b =>
    let nn := pU8 p 0
    [b.bst nn, b.f BERTH_STATE.CAUSE nn, b.f BERTH_STATE.TOKEN nn,
      b.f BERTH_PSTAT.WARN nn + 2 * b.f BERTH_PSTAT.TWIN_HOT nn + 4 * b.f BERTH_PSTAT.FT_LATCH nn +
        8 * b.f BERTH_PSTAT.AMB_SUBST nn,
      b.f BERTH_PSTAT.RETRY_CNT nn, b.f BERTH_PSTAT.REJ_REASON nn, 0, 0] ++
    i32 (b.voutMv nn * 1000) ++ i32 (b.berthAmps nn * 1000000) ++ leBytes 4 (b.f BERTH_TW_TC.TEMP nn) ++
    leBytes 4 (b.f BERTH_TW_TB.TEMP nn) ++ i32 (b.fi BERTH_SOA_TJ.TJ_PRED nn * 100) ++
    leBytes 8 (b.f64 BERTH_TRIP_TICK_LO.TICK BERTH_TRIP_TICK_HI.TICK nn))

/-- The berths in a state, as a map. -/
def berthMap (b : Blk) (st : Nat) : Nat := maskOf ((List.range 32).filter fun nn => b.bst nn == st)

/-- BERTH_MAPS. -/
def berthMaps (x : MB) : MB :=
  runOp x { code := 0x0202, len := len1 0 } (shows fun _ _ b =>
    [bPENDING, bINRUSH, bON, bTRIPPED, bLOCKED, bHELD].flatMap fun st => leBytes 4 (berthMap b st))

/-- BERTH_FT (R71). -/
def berthFtCmd (t : Nat) (x : MB) : MB :=
  runOp x
    { code := 0x0203, len := len1 4, cls := fun _ => 1, lease := fun p => some (0, pU8 p 0)
      ok := fun p => decide (pU8 p 0 < 32) } fun r p x =>
    let nn := pU8 p 0
    let (st, y) := wr t r x (BERTH_FT.FT_CODE.addr nn) (pU8 p 1 + pU8 p 2 * 256 + pFlag p 3 * 65536)
    let b := y.2
    (some (limited (pOver p 3 1) st,
      [nn, b.ftApplied BERTH_FT.FT_CODE nn, b.ftApplied BERTH_FT.FT_HELD nn, b.f BERTH_FT.REV_EN nn]), y)

/-! FEED -/

/-- FEED_STATUS: REV_COUNT as Pilot reports it (R425). -/
def feedStatusCmd (t : Nat) (x : MB) : MB :=
  runOp x { code := 0x0300, len := len1 4, ok := fun p => decide (pU8 p 0 < 2) } fun r p x =>
    let n := pU8 p 0
    let a := FEED_STATUS.REV_COUNT.addr n
    let st := x.2.f FEED_STATUS.STATE n
    let b := if portClass x.2 r.port = 0 then x.2 else
      let y := readWord t x.2 4 a
      pilotSeen y.2 a y.1
    let count := Tab.get b.revSeen 0 n
    (some (sOK, [st, 0, 0, 0] ++ i32 (b.cal (0x74 + n) * 2000) ++ i32 (b.feedAmps n * 1000000) ++ leBytes 4 count),
      x.1, { b with revSeen := Tab.put b.revSeen 0 n 0 })

/-- FEED_FORCE (R61). -/
def feedForceCmd (t : Nat) (x : MB) : MB :=
  runOp x { code := 0x0301, len := len1 4, cls := fun _ => 1, ok := fun p => decide (pU8 p 0 < 2) } fun r p x =>
    let (st, y) := wr t r x (FEED_CTL.FORCE_OFF.addr (pU8 p 0)) (pFlag p 1)
    (some (limited (pOver p 1 1) st, []), y)

/-! LOOP -/

/-- The loop named by a payload, and its lease. -/
def loopIdx (p : List Nat) : Bool := decide (pU8 p 0 < 8)
def loopLease (p : List Nat) : Option (Nat × Nat) := some (1, pU8 p 0)

/-- LOOP_CTL as a word with its enable or its forced index replaced. -/
def loopCtlWord (en force idx : Nat) : Nat := en + idx * 256 + force * 2048

/-- LOOP_SET (R119, R122, R222). -/
def loopSetCmd (t : Nat) (x : MB) : MB :=
  runOp x
    { code := 0x0400, len := len1 4, cls := fun _ => 1, lease := loopLease, turnsOn := fun p => decide (1 ≤ pU8 p 1)
      ok := loopIdx } fun r p x =>
    let n := pU8 p 0
    let b := x.2
    let (st, y) := wr t r x (LOOP_CTL.EN.addr n)
      (loopCtlWord (pFlag p 1) (b.f LOOP_CTL.FORCE_EN n) (b.f LOOP_CTL.FORCE_IDX n))
    (some (limited (pOver p 1 1) st, [y.2.lst n, y.2.f LOOP_STATE.CAUSE n, 0, 0]), y)

/-- LOOP_VSET (R118, R421). -/
def loopVsetCmd (t : Nat) (x : MB) : MB :=
  runOp x
    { code := 0x0401, len := len1 8, cls := fun _ => 1, lease := loopLease
      ok := fun p => loopIdx p && decide (pU8 p 1 < 8) } fun r p x =>
    let n := pU8 p 0
    let k := pU8 p 1
    let c := nearest ((pI32 p 4 : Rat) / (if x.2.on LOOP_CFG.SCALE n then 2000 else 500))
    let code := clampI 500 11000 c
    let (st, y) := wr t r x ((LOOP_VSET.CODE k).addr n) code.toNat
    (some (limited (code != c) st, i32 (y.2.codeUv n (y.2.vsetCode n k))), y)

/-- LOOP_FORCE (R116). -/
def loopForceCmd (t : Nat) (x : MB) : MB :=
  runOp x { code := 0x0402, len := len1 4, cls := fun _ => 1, lease := loopLease, ok := loopIdx } fun r p x =>
    let n := pU8 p 0
    let (st, y) := wr t r x (LOOP_CTL.EN.addr n) (loopCtlWord (x.2.f LOOP_CTL.EN n) (pFlag p 1) (min 7 (pU8 p 2)))
    (some (limited (pOver p 1 1 || pOver p 2 7) st, []), y)

/-- A request for OPEN, or its end, is one the state allows (R153, R157). -/
def openAllowed (b : Blk) (n req : Nat) : Bool :=
  let s := b.lst n
  if req = 1 then s == lSOFTSTART || s == lREGULATING || s == lBURST || s == lOPEN
  else s == lOPEN || b.on ENG_LOOP_CTL.OPEN_REQ n

/-- LOOP_OPEN (R153, R157). -/
def loopOpenCmd (t : Nat) (x : MB) : MB :=
  runOp x { code := 0x0403, len := len1 4, cls := fun _ => 1, lease := loopLease, ok := loopIdx } fun r p x =>
    let n := pU8 p 0
    if !openAllowed x.2 n (pFlag p 1) then (some (sSTATE, []), x)
    else
      let (st, y) := wr t r x (ENG_LOOP_CTL.OPEN_REQ.addr n) (pFlag p 1)
      (some (limited (pOver p 1 1) st, [y.2.lst n, y.2.f ENG_LOOP_STAT.OPEN_SRC n, 0, 0]), y)

/-- The address of coefficient word `k` of a loop. -/
def coefAddr (n k : Nat) : Nat := 0x40070010 + 256 * n + 4 * k

/-- The eight words of a LOOP_RETUNE written in tick `m`. -/
def retuneWrites (b : Blk) (r : Req) (p : List Nat) (n : Nat) : List Staged :=
  (List.range 8).map fun k => ⟨.pilot, portClass b r.port, coefAddr n k, pU32 p (4 + 4 * k)⟩

/-- LOOP_RETUNE (R427): all words at one edge in DISABLED and OPEN; through OPEN in a running ordinary loop; one word per edge in
a LIVE_TUNE loop. -/
def loopRetune (t : Nat) (x : MB) : MB :=
  runOp x { code := 0x0404, len := len1 36, cls := fun _ => 1, lease := loopLease, ok := loopIdx } fun r p x =>
    let n := pU8 p 0
    let b := x.2
    let s := b.lst n
    let ws := retuneWrites b r p n
    let ctl (v : Nat) : Staged := ⟨.pilot, portClass b r.port, ENG_LOOP_CTL.OPEN_REQ.addr n, v⟩
    let go (due : Nat) (b : Blk) : Option (Nat × List Nat) × MB := (none, x.1, { b with wait := some ⟨true, n, due, false⟩ })
    if b.on ENG_LOOP_CFG.LIVE_TUNE n then
      go (t + (b.lp n).coef.length + 8) (pendShow { b with staged := b.staged ++ ws } n)
    else if s = lDISABLED ∨ s = lOPEN then go (t + 1) { b with staged := b.staged ++ ws }
    else if s = lSOFTSTART ∨ s = lREGULATING ∨ s = lBURST then
      go (t + 3) { b with staged := b.staged ++ [ctl 1], later := b.later ++ (ws ++ [ctl 0]).map fun w => (t + 2, w) }
    else (some (sLOOP_CLOSED, []), x)

/-- LOOP_STATUS. -/
def loopStatus (x : MB) : MB :=
  runOp x { code := 0x0405, len := len1 4, ok := loopIdx } (shows fun _ p b =>
    let n := pU8 p 0
    [b.lst n, b.f LOOP_STATE.CAUSE n, b.f LOOP_STATE.IDX n, b.f LOOP_STATE.N_ACT n] ++ leBytes 4 (b.f LOOP_VSP.VALUE n) ++
    i32 (b.fi LOOP_ITOT.VALUE n * 1000) ++ leBytes 4 (b.f LOOP_VSET_NOW.VALUE n) ++ leBytes 4 (b.f ENG_LOOP_DUTY.D n) ++
    leBytes 4 (b.f LOOP_STATE.ILIM_ACT n + 2 * b.f LOOP_STATE.MOVING n + 4 * b.f ENG_LOOP_STAT.GUARD n +
      8 * b.f ENG_LOOP_STAT.COEF_PEND n) ++
    leBytes 2 (b.f ENG_LOOP_STAT.POISON n) ++ [0, 0])

/-! IREG -/

/-- A buck (kind 0) or LDO (kind 1) named by a payload. -/
def iregIdx (p : List Nat) : Bool := (pU8 p 0 == 0 && decide (pU8 p 1 < 8)) || (pU8 p 0 == 1 && decide (pU8 p 1 < 6))

/-- IREG_SET (R144, R222): the enable, then the set-point; a voltage of 0 leaves it. -/
def iregSet (t : Nat) (x : MB) : MB :=
  runOp x
    { code := 0x0500, len := len1 8, cls := fun _ => 1, turnsOn := fun p => decide (1 ≤ pU8 p 2), ok := iregIdx } fun r p x =>
    let n := pU8 p 1
    let v := pI32 p 4
    let past := pOver p 2 1
    if pU8 p 0 = 0 then
      let (st, y) := wr t r x (IB_CTL.EN.addr n) (pFlag p 2)
      if st ≠ sOK then (some (st, []), y)
      else
        let c := nearest ((v : Rat) / 2500)
        let code := clampI 240 2200 c
        let (st, z) := if v = 0 then (sOK, y) else wr t r y (IB_VSET.CODE.addr n) code.toNat
        (some (limited (past || (v != 0 && code != c)) st, i32 (z.2.ibVset n)), z)
    else
      let c := nearest (((v : Rat) - 800000) / 25000)
      let code := if v = 0 then (x.2.ldoCode n : Int) else clampI 0 168 c
      let word := if v = 0 then x.2.f LDO_CTL.CODE n else code.toNat
      let (st, y) := wr t r x (LDO_CTL.EN.addr n) (pFlag p 2 + word * 256)
      let st := if v = 0 ∧ st = sLIMIT then sOK else st
      (some (limited (past || (v != 0 && code != c)) st, i32 (y.2.ldoVset n)), y)

/-- IREG_STATUS. -/
def iregStatus (x : MB) : MB :=
  runOp x { code := 0x0501, len := len1 4, ok := iregIdx } (shows fun _ p b =>
    let n := pU8 p 1
    if pU8 p 0 = 0 then
      [b.ist n, b.f IB_STATE.CAUSE n, 0, 0] ++ leBytes 4 (b.f IB_VOUT.VALUE n) ++ i32 (b.fi IB_ICMD.VALUE n * 1000)
    else [b.dst n, b.f LDO_STATE.CAUSE n, 0, 0] ++ i32 (b.ldoUv n) ++ i32 0)

end Sys2Proof.Machine
end

