-- ==== Sys2Proof/Machine/CmdsLog.lean ====
section
/-! DEFINITION. The BIV, FAULT, LOG and HAWSER opcodes: spec/17_command_set.md (R429, R430). -/
namespace Sys2Proof.Machine

/-! BIV -/

/-- BIV_TIME: the calendar set as Pilot reads it, coherent by its frozen shadow (R282). -/
def bivTime (x : MB) : MB :=
  runOp x { code := 0x0A00, len := len1 0 } fun _ _ x =>
    let b := rtcFreeze x.2 4
    (some (sOK, (List.range 8).map (fun k => rtcWord b 4 k % 256) ++ leBytes 4 (rtcWord b 4 8)), x.1, rtcRelease b 4)

/-- BIV_SET_TIME (R281): stage and commit; the response follows the BIV cycle of the commit, and none comes while the
oscillator is stopped. -/
def bivSetTime (t : Nat) (x : MB) : MB :=
  runOp x { code := 0x0A01, len := len1 8, cls := fun _ => 1 } fun r p x =>
    let y := (List.range 7).foldl (fun x k => (wr t r x (0x40100000 + 4 * k) (pU8 p k)).2) x
    let z := (wr t r y 0x4010001C 1).2
    if !z.2.biv.osc then (none, z)
    else
      let b := rtcCommit z.2
      (some (if b.biv.wrRej then sSTATE else sOK, leBytes 4 (b.f BIV_RTC_EPOCH.SECONDS 0)), z.1, b)

/-- BIV_ALARM (R287, R289, R290). -/
def bivAlarm (t : Nat) (x : MB) : MB :=
  runOp x { code := 0x0A02, len := len1 8, cls := fun _ => 1 } fun r p x =>
    let x := (wr t r x (BIV_ALARM.ALARM.addr 0) (pU32 p 0)).2
    let x := (wr t r x (BIV_ALARM_CTL.ALARM_EN.addr 0) (pFlag p 4)).2
    let x := (wr t r x (BIV_WAKE_CFG.WAKE_EN.addr 0) (min 15 (pU8 p 5) + min 7 (pU8 p 6) * 256)).2
    (some (limited (pOver p 4 1 || pOver p 5 15 || pOver p 6 7) sOK,
      [peekWord t x.2 (BIV_ALARM_CTL.ALARM_EN.addr 0), x.2.f BIV_WAKE_CAUSE.CAUSE 0, 0, 0]), x)

/-- BIV_TRIM (R284, R285): the trim, and a measurement begun. -/
def bivTrim (t : Nat) (x : MB) : MB :=
  runOp x { code := 0x0A03, len := len1 4, cls := fun _ => 2 } fun r p x =>
    let v := leIntAt p 0 2
    let c := clampI (-512) 512 v
    let x := (wr t r x (BIV_TRIM.TRIM.addr 0) (ux 11 c)).2
    let go := pFlag p 2 = 1
    let rej := go ∧ (measStart t (x.2.setF BIV_MEAS.MEAS_ERR 0 0)).on BIV_MEAS.MEAS_ERR 0
    let x := if go then (wr t r x (BIV_MEAS.TICKS.addr 0) (2 ^ 31)).2 else x
    (some (if rej then sSTATE else limited (c != v || pOver p 2 1) sOK,
      leInt 2 (x.2.fi BIV_TRIM.TRIM 0) ++ [0, 0] ++ leBytes 4 (x.2.f BIV_MEAS.TICKS 0)), x)

/-- BIV_USER: bytes of the user area of Bivouac RAM. -/
def bivUser (x : MB) : MB :=
  runOp x
    { code := 0x0A04, len := fun p l => l == (if pU8 p 0 = 1 then 4 + pU8 p 2 else 4)
      cls := fun p => if pU8 p 0 = 0 then 0 else 1
      ok := fun p => decide (pU8 p 0 < 2 ∧ 1 ≤ pU8 p 2 ∧ pU8 p 1 + pU8 p 2 ≤ 64) } fun _ p x =>
    let off := 0xC0 + pU8 p 1
    let n := pU8 p 2
    if pU8 p 0 = 0 then (some (sOK, (List.range n).map fun i => ramByte x.2 (off + i) % 256), x)
    else (some (sOK, []), x.1, forAll n x.2 fun i b => ramWrite b .pilot (off + i) (pU8 p (4 + i)))

/-- BIV_WAKEOUT (R290). -/
def bivWakeout (t : Nat) (x : MB) : MB :=
  runOp x { code := 0x0A05, len := len1 4, cls := fun _ => 1 } fun r p x =>
    let a := BIV_WAKEOUT.WO_HOLD.addr 0
    let y := (wr t r x a (pFlag p 0 + 2 * pFlag p 1)).2
    (some (limited (pOver p 0 1 || pOver p 1 1) sOK, leBytes 4 (peekWord t y.2 a)), y)

/-! FAULT -/

/-- The entries of the history, oldest first. -/
def histEntries (b : Blk) : List Nat :=
  let n := min 16 (b.f FAULT_HIST_HEAD.TOTAL 0)
  (List.range n).map fun j => (b.f FAULT_HIST_HEAD.NEWEST 0 + 17 + j - n) % 16

/-- FAULT_GET. -/
def faultGet (t : Nat) (x : MB) : MB :=
  runOp x { code := 0x0B00, len := len1 0 } (shows fun _ _ b =>
    let ks := histEntries b
    leBytes 8 (faultStatus b) ++ leBytes 4 (firstFault b) ++ leBytes 8 (b.f64 FIRST_TICK_LO.TICK FIRST_TICK_HI.TICK 0) ++
    leBytes 4 (peekWord t b (FAULT_STATE.REACT.addr 0)) ++ leBytes 4 (b.f FAULT_HIST_HEAD.TOTAL 0) ++ [ks.length, 0, 0, 0] ++
    ks.flatMap fun k => leBytes 8 (b.f64 FAULT_HIST_TICK_LO.TICK FAULT_HIST_TICK_HI.TICK k) ++
      leBytes 4 (peekWord t b (FAULT_HIST_INFO.SRC.addr k)))

/-- FAULT_CLEAR (R307). -/
def faultClearCmd (t : Nat) (x : MB) : MB :=
  runOp x { code := 0x0B01, len := len1 12, cls := fun _ => 1 } fun r p x =>
    let x := (wr t r x 0x40110000 (pU32 p 0)).2
    let x := (wr t r x 0x40110004 (pU32 p 4)).2
    let x := if pFlag p 8 = 1 then (wr t r x 0x40110008 (2 ^ 31)).2 else x
    (some (limited (pOver p 8 1) sOK, leBytes 8 (faultStatus x.2)), x)

/-! LOG -/

/-- LOG_INFO. -/
def logInfo (t : Nat) (x : MB) : MB :=
  runOp x { code := 0x0C00, len := len1 0 } (shows fun _ _ b =>
    leBytes 4 (b.f LOG_NEXT.SEQ 0) ++ leBytes 4 (b.f LOG_OLDEST.SEQ 0) ++ leBytes 4 (peekWord t b (LOG_STATUS.QUEUED.addr 0)) ++
    leBytes 2 (b.f LOG_COUNTS.TORN 0) ++ [b.counter 2, 0])

/-- LOG_READ: the record of a SEQ. -/
def logReadCmd (t : Nat) (x : MB) : MB :=
  runOp x { code := 0x0C01, len := len1 4 } fun _ p x =>
    let seq := pU32 p 0
    if x.2.f LOG_NEXT.SEQ 0 ≤ seq then (some (sNOT_FOUND, []), x)
    else
      match logFind x.1 seq with
      | none => (some (sSTALE, []), x)
      | some i =>
        let y := devRead t x (slotAddr i) 256
        (some (if y.2.1 then sINTERNAL else sOK, y.1), y.2.2)

/-- LOG_SNAPSHOT (R352). -/
def logSnapshotCmd (t : Nat) (x : MB) : MB :=
  runOp x { code := 0x0C02, len := len1 0, cls := fun _ => 1 } fun r _ x =>
    if x.2.on LOG_STATUS.DROP_RUN 0 then (some (sBUSY, []), x)
    else (some (sOK, []), (wr t r x (LOG_CTL.SNAP.addr 0) 1).2)

/-- LOG_CLEAR (R359, R360): answered when the CLEAR record is written. -/
def logClearCmd (t : Nat) (x : MB) : MB :=
  runOp x { code := 0x0C03, len := len1 64, cls := fun _ => 2 } fun _ p x =>
    let b := x.2
    if b.clearWait then (none, x)
    else if !clearToken b p then (some (sAUTH, []), x)
    else if b.counter 2 = 255 then (some (sSTATE, []), x)
    else if b.log.clearing then (some (sBUSY, []), x)
    else (none, x.1, { clearBegin t b with clearWait := true })

/-- The end of a record's write, with the answer of a LOG_CLEAR that waits for its CLEAR record. -/
def logWritten (t : Nat) (x : MB) : MB :=
  let isClear : Bool := match x.2.log.writing with
    | some (_, _, r) => r.ty == 8
    | none => false
  let y := logWriteDone t x
  match y.2.msg with
  | some r =>
    if isClear && y.2.clearWait then
      (y.1, { reply y.2 r.msg sOK (leBytes 4 (y.2.counter 2)) with clearWait := false })
    else y
  | none => y

/-! HAWSER -/

/-- HW_STATUS. -/
def hwStatusCmd (t : Nat) (x : MB) : MB :=
  runOp x { code := 0x1100, len := len1 0 } (shows fun _ _ b =>
    leBytes 4 (peekWord t b (HW_STATUS.DUP_ID.addr 0)) ++ leBytes 4 (peekWord t b (ALIGN_STATUS.MASTER_ID.addr 0)) ++
    leBytes 8 (b.f64 RING_TICK_OFFSET_LO.OFFSET RING_TICK_OFFSET_HI.OFFSET 0) ++
    leBytes 4 (peekWord t b (HW_LINK.CABLE_A.addr 0)) ++ leBytes 2 (b.f HW_CFG.NODE_ID 0) ++
    leBytes 2 (b.f ALIGN_STATUS.MASTER_ID 0))

/-- HW_RELAY (R429): a RELAY_REQ to a node; the response follows its RELAY_RSP or its timeout. -/
def hwRelayCmd (t : Nat) (x : MB) : MB :=
  runOp x
    { code := 0x1101, len := fun _ l => decide (8 ≤ l ∧ l ≤ 492), cls := fun _ => 1
      ok := fun p => decide (1 ≤ pU16 p 0 ∧ pU16 p 0 < 4096 ∧ pU8 p 2 < 4) } fun r p x =>
    let b := x.2
    if b.hw.relay.isSome then (none, x)
    else
      let tmo := min (pU16 p 4) (atLeast1 (b.f QUAY_CFG.EXEC_TMO 0) - 5)
      let b := hwSend (setHeld b r.port none) 6 (pU16 p 0) false ([pU8 p 2, 0, 0, 0] ++ p.drop 8)
      (none, x.1, { b with hw := { b.hw with relay := some (r.port, pU16 p 0, pU8 p 2, t + 2000 * tmo) } })

/-- HW_RELAY_MORE (R430). -/
def hwRelayMore (x : MB) : MB :=
  runOp x { code := 0x1102, len := len1 4, cls := fun _ => 1 } fun r p x =>
    match heldOf x.2 r.port with
    | none => (some (sNOT_FOUND, []), x)
    | some h =>
      let off := pU16 p 0
      let n := min (h.msg.length - off) 488
      if h.msg.length ≤ off then (some (sNOT_FOUND, []), x)
      else (some (sOK, leBytes 2 h.msg.length ++ leBytes 2 n ++ slice h.msg off n), x)

end Sys2Proof.Machine
end

