-- ==== Sys2Proof/Machine/CmdsSeq.lean ====
section
/-! DEFINITION. The SEQ, TEL, CHG and GAUGE opcodes: spec/17_command_set.md (R425, R428). -/
namespace Sys2Proof.Machine

/-! SEQ -/

/-- The group named by a payload, and its lease. -/
def grpIdx (p : List Nat) : Bool := decide (pU8 p 0 < 8)
def grpLease (p : List Nat) : Option (Nat × Nat) := some (2, pU8 p 0)

/-- The address of SEQ_GRP_CTL. -/
def grpCtl (g : Nat) : Nat := SEQ_GRP_CTL.START.addr g

/-- SEQ_START (R233, R239). -/
def seqStartCmd (t : Nat) (x : MB) : MB :=
  runOp x
    { code := 0x0600, len := len1 4, cls := fun _ => 1, lease := grpLease, turnsOn := fun _ => true, ok := grpIdx } fun r p x =>
    let g := pU8 p 0
    if x.2.gst g ≠ gIDLE ∨ x.2.f SEQ_GRP_STEPS.COUNT g = 0 then (some (sSTATE, []), x)
    else
      let (st, y) := wr t r x (grpCtl g) 1
      (some (st, [y.2.gst g, y.2.f SEQ_GRP_STATE.START_PEND g, 0, 0]), y)

/-- SEQ_STOP (R232). -/
def seqStopCmd (t : Nat) (x : MB) : MB :=
  runOp x { code := 0x0601, len := len1 4, cls := fun _ => 1, lease := grpLease, ok := grpIdx } fun r p x =>
    let g := pU8 p 0
    let (st, y) := wr t r x (grpCtl g) 2
    (some (st, [y.2.gst g, y.2.f SEQ_GRP_STATE.CAUSE g, 0, 0]), y)

/-- An ACK of a group would be refused (R234): it sets ACK_REJ. -/
def ackRefused (t : Nat) (b : Blk) (g : Nat) : Bool := (seqAck t (b.setF SEQ_GRP_STATE.ACK_REJ g 0) g).on SEQ_GRP_STATE.ACK_REJ g

/-- SEQ_ACK (R234, R239, R464). -/
def seqAckCmd (t : Nat) (x : MB) : MB :=
  runOp x
    { code := 0x0602, len := len1 4, cls := fun _ => 1, lease := grpLease, turnsOn := fun _ => true, ok := grpIdx } fun r p x =>
    let g := pU8 p 0
    if x.2.f SEQ_GRP_STEPS.COUNT g = 0 then (some (sSTATE, []), x)
    else
      let rej := ackRefused t x.2 g
      let (st, y) := wr t r x (grpCtl g) 4
      (some (if rej then sSTATE else st, [y.2.gst g, y.2.f SEQ_GRP_STATE.CAUSE g, 0, 0]), y)

/-- SEQ_ALLOFF (R230). -/
def seqAlloffCmd (t : Nat) (x : MB) : MB :=
  runOp x { code := 0x0603, len := len1 4, cls := fun _ => 1, lease := grpLease, ok := grpIdx } fun r p x =>
    let g := pU8 p 0
    if !inDomain x.2 g then (some (sSTATE, []), x)
    else
      let (st, y) := wr t r x (grpCtl g) 8
      (some (st, []), y)

/-- SEQ_STATUS. -/
def seqStatus (x : MB) : MB :=
  runOp x { code := 0x0604, len := len1 4, ok := grpIdx } (shows fun _ p b =>
    let g := pU8 p 0
    [b.gst g, b.f SEQ_GRP_STATE.STEP g, b.f SEQ_GRP_STATE.CAUSE g,
      b.f SEQ_GRP_STATE.START_PEND g + 2 * b.f SEQ_GRP_STATE.ACK_REJ g + 4 * b.f SEQ_GRP_STATE.TOK_LATE g +
        8 * b.f SEQ_DOMAIN.ALLOFF_LINE 0] ++
    leBytes 8 (b.f64 SEQ_GRP_TICK_LO.TICK SEQ_GRP_TICK_HI.TICK g))

/-! TEL -/

/-- TEL_ACC: the shadow registers of an accumulator (R189). -/
def telAcc (x : MB) : MB :=
  runOp x { code := 0x0700, len := len1 4, ok := fun p => decide (pU8 p 0 < 128) } (shows fun _ p b =>
    let a := pU8 p 0
    leBytes 2 (b.f ACC_CFG.CH a) ++ [b.f ACC_STAT.SEQ a, b.f ACC_STAT.SAT a] ++ leBytes 4 (b.f ACC_CNT.VALUE a) ++
    leBytes 8 (b.f64 ACC_SUM_LO.VALUE ACC_SUM_HI.VALUE a) ++ leBytes 8 (b.f64 ACC_SUMSQ_LO.VALUE ACC_SUMSQ_HI.VALUE a) ++
    leBytes 2 (b.f ACC_STAT.PSN_CNT a) ++ [0, 0])

/-- TEL_TRK: the shadow of a tracker (R191). -/
def telTrk (x : MB) : MB :=
  runOp x { code := 0x0701, len := len1 4, ok := fun p => decide (pU8 p 0 < 128) } (shows fun _ p b =>
    let i := pU8 p 0
    leBytes 2 (b.f ACC_TRK_CFG.CH i) ++ leBytes 2 (b.f ACC_TRK_MINMAX.MIN i) ++ leBytes 2 (b.f ACC_TRK_MINMAX.MAX i) ++ [0, 0] ++
    leBytes 4 (b.f ACC_TRK_TMIN.TICK i) ++ leBytes 4 (b.f ACC_TRK_TMAX.TICK i))

/-- A mean of a channel in µV or µA (R428, table Channel codes). -/
def telUnit (b : Blk) (ch : Nat) (mean : Rat) : Rat :=
  if ch < 0x20 then quot (mean * 10000000) (b.f ADC_BSHUNT.SHUNT ch)
  else if ch = 0x72 ∨ ch = 0x73 then quot (mean * 10000000) (b.f ADC_FSHUNT.SHUNT (ch - 0x72))
  else if ch = 0x79 then quot (mean * 2000000) (b.f ADC_PSHUNT.SHUNT 0)
  else if ch = 0x78 then mean * 1000
  else if 0x58 ≤ ch ∧ ch < 0x60 then mean * (if b.on LOOP_CFG.SCALE (ch - 0x58) then 1000 else 250)
  else mean * 2000

/-- The accumulator of a TEL_FRAME item: the lowest that is claimed, enabled, has WIN = 1 and takes the channel. -/
def telSource (b : Blk) (ch : Nat) : Option Nat :=
  (List.range 128).find? fun a =>
    b.on ACC_CFG.CLAIM a && b.on ACC_CFG.EN a && b.f ACC_CFG.WIN a == 1 && b.f ACC_CFG.CH a == ch

/-- The channels of TEL_FRAME in order. -/
def telChannels : List Nat :=
  [0x70, 0x71, 0x76, 0x78, 0x79] ++ List.range 32 ++ (List.range 8).map (0x58 + ·) ++ [0x72, 0x73]

/-- An item of TEL_FRAME. -/
def telItem (b : Blk) (ch : Nat) : List Nat := match telSource b ch with
  | some a =>
    let sum := sx 64 (b.f64 ACC_SUM_LO.VALUE ACC_SUM_HI.VALUE a)
    i32 (telUnit b ch (quot sum (b.f ACC_CNT.VALUE a)))
  | none => leBytes 4 0x80000000

/-- TEL_FRAME (R428). The tick of a frame that uses no shadow is not stated. -/
def telFrame (x : MB) : MB :=
  runOp x { code := 0x0702, len := len1 0 } fun _ _ x =>
    let b := x.2
    let used := telChannels.filterMap (telSource b)
    let body := telChannels.flatMap (telItem b)
    if used.isEmpty then
      let y := freeBytes b 8
      (some (sOK, y.1 ++ body), x.1, y.2)
    else (some (sOK, leBytes 8 (used.foldl (fun m a => max m (Tab.get b.accAt 0 a)) 0) ++ body), x)

/-! CHG and PACK -/

/-- CHG_SET (R253, R254, R257): EN and SUSPEND, then the current and the cell voltage. -/
def chgSetCmd (t : Nat) (x : MB) : MB :=
  runOp x
    { code := 0x0800, len := len1 12, cls := fun _ => 1, lease := fun _ => some (3, 0)
      turnsOn := fun p => decide (1 ≤ pU8 p 0) } fun r p x =>
    if x.2.cst = cFAULT then (some (sSTATE, []), x)
    else
      let i := nearest ((pI32 p 4 : Rat) / 1000)
      let v := nearest ((pI32 p 8 : Rat) / 1000)
      let ic := clampI 0 8191 i
      let vc := clampI 3000 4400 v
      let (st, y) := wr t r x (CHG_CTL.EN.addr 0) (pFlag p 0 + 2 * pFlag p 1)
      if st ≠ sOK then (some (st, []), y)
      else
        let (st, z) := wr t r y (CHG_SET.ICHG.addr 0) (ic.toNat + vc.toNat * 65536)
        (some (limited (pOver p 0 1 || pOver p 1 1 || ic != i || vc != v) st,
          i32 ((ichgApplied z.2 * 1000 : Nat) : Int) ++ i32 ((vcellApplied z.2 * 1000 : Nat) : Int)), z)

/-- CHG_STATUS: the flags as Pilot reports them (R425). -/
def chgStatusCmd (t : Nat) (x : MB) : MB :=
  runOp x { code := 0x0801, len := len1 0 } fun r _ x =>
    let obs := portClass x.2 r.port = 0
    let b := if obs then x.2 else
      let y := readWord t x.2 4 0x400E0060
      pilotSeen y.2 0x400E0060 y.1
    let flags := if obs then b.chgLast else b.chgSeen
    let b := if obs then b else { b with chgSeen := 0 }
    (some (sOK,
      [b.cst, b.f CHG_STATE.CAUSE 0, flags, b.f PACK_AUTH_STAT.AUTH 0, b.hst, b.kst, b.f PACK_AUTH_STAT.FAIL_CODE 0, 0] ++
      i32 (((b.f CHG_MEAS.VBAT 0) * 10000 : Nat) : Int) ++ i32 (b.fi CHG_MEAS.IBAT 0 * 1000) ++
      leBytes 4 (b.f CHG_SESSION.ELAPSED 0) ++ leBytes 4 (b.f SD_REMAIN.MS 0) ++ leBytes 4 (b.f PACK_ID.PACK_ID 0)), x.1, b)

/-- PACK_AUTH (R272). -/
def packAuthCmd (t : Nat) (x : MB) : MB :=
  runOp x { code := 0x0802, len := len1 0, cls := fun _ => 1 } fun _ _ x =>
    if !x.2.on KEEP_STATUS.PACK_PRESENT 0 then (some (sSTATE, []), x) else (some (sOK, []), x.1, authCommand t x.2)

/-! GAUGE -/

/-- GAUGE_STATUS. -/
def gaugeStatus (t : Nat) (x : MB) : MB :=
  runOp x { code := 0x0900, len := len1 0 } (shows fun _ _ b =>
    leBytes 2 (b.f GAUGE_SOC.SOC 0) ++ leBytes 2 (b.f GAUGE_SOC.SOH 0) ++ leBytes 2 (b.f GAUGE_UNC.UNC 0) ++
    leBytes 2 (peekWord t b (GAUGE_FLAGS.IRANGE.addr 0)) ++ leBytes 8 (b.f64 GAUGE_Q_LO.VALUE GAUGE_Q_HI.VALUE 0) ++
    leBytes 8 (b.f64 GAUGE_FCC_LO.VALUE GAUGE_FCC_HI.VALUE 0) ++ leBytes 4 (b.f GAUGE_REST_AGE.S 0) ++
    leBytes 2 (b.f GAUGE_UNC.CYCLES 0) ++ [b.f GAUGE_LEARN.LAST_RESULT 0, b.f GAUGE_LEARN.INTR 0])

/-- GAUGE_SAVE: the block latched at one edge (R269). -/
def gaugeSave (x : MB) : MB :=
  runOp x { code := 0x0901, len := len1 0 } fun _ _ x =>
    let b := gaugeSaveLatch x.2
    (some (sOK, (List.range 16).flatMap fun k => leBytes 4 (b.f GAUGE_SAVE.WORD k)), x.1, b)

/-- GAUGE_RESTORE: the 16 stage words, then the commit (R270). -/
def gaugeRestore (t : Nat) (x : MB) : MB :=
  runOp x
    { code := 0x0902, len := len1 64, cls := fun _ => 1, early := some fun b _ => ([b.f GAUGE_RST.RST_ERR 0, 0, 0, 0], b) }
    fun r p x =>
      let y := (List.range 16).foldl (fun x k => (wr t r x (GAUGE_STAGE.WORD.addr k) (pU32 p (4 * k))).2) x
      let z := (wr t r y (GAUGE_COMMIT.CRC.addr 0) (pU32 p 60)).2
      let e := z.2.f GAUGE_RST.RST_ERR 0
      (some (if e = 0 then sOK else if e = 5 then sAUTH else sSTATE, [e, 0, 0, 0]), z)

end Sys2Proof.Machine
end

