-- ==== Sys2Proof/Machine/ExecCmdData.lean ====
section
/-! DEFINITION. Commands on the battery, calendar, faults, records, images, OTP and registers: one meaning per row of
the command table (spec/17_command_set.md). -/
namespace Sys2Proof.Machine

/-- CHG_SET (R253). -/
def execChgSet (s : State) : Host.Outcome State Fault Refusal := .next (s.actX fun t x => chgSetCmd t x)

/-- CHG_STATUS (R425). -/
def execChgStatus (s : State) : Host.Outcome State Fault Refusal := .next (s.actX fun t x => chgStatusCmd t x)

/-- PACK_AUTH (R272). -/
def execPackAuth (s : State) : Host.Outcome State Fault Refusal := .next (s.actX fun t x => packAuthCmd t x)

/-- GAUGE_STATUS (R420). -/
def execGaugeStatus (s : State) : Host.Outcome State Fault Refusal := .next (s.actX fun t x => gaugeStatus t x)

/-- GAUGE_SAVE (R269). -/
def execGaugeSave (s : State) : Host.Outcome State Fault Refusal := .next (s.actX fun _ x => gaugeSave x)

/-- GAUGE_RESTORE (R270). -/
def execGaugeRestore (s : State) : Host.Outcome State Fault Refusal := .next (s.actX fun t x => gaugeRestore t x)

/-- BIV_TIME (R282). -/
def execBivTime (s : State) : Host.Outcome State Fault Refusal := .next (s.actX fun _ x => bivTime x)

/-- BIV_SET_TIME (R281). -/
def execBivSetTime (s : State) : Host.Outcome State Fault Refusal := .next (s.actX fun t x => bivSetTime t x)

/-- BIV_ALARM (R287). -/
def execBivAlarm (s : State) : Host.Outcome State Fault Refusal := .next (s.actX fun t x => bivAlarm t x)

/-- BIV_TRIM (R284). -/
def execBivTrim (s : State) : Host.Outcome State Fault Refusal := .next (s.actX fun t x => bivTrim t x)

/-- BIV_USER (R294). -/
def execBivUser (s : State) : Host.Outcome State Fault Refusal := .next (s.actX fun _ x => bivUser x)

/-- BIV_WAKEOUT (R290). -/
def execBivWakeout (s : State) : Host.Outcome State Fault Refusal := .next (s.actX fun t x => bivWakeout t x)

/-- FAULT_GET (R420). -/
def execFaultGet (s : State) : Host.Outcome State Fault Refusal := .next (s.actX fun t x => faultGet t x)

/-- FAULT_CLEAR (R307). -/
def execFaultClear (s : State) : Host.Outcome State Fault Refusal := .next (s.actX fun t x => faultClearCmd t x)

/-- LOG_INFO (R420). -/
def execLogInfo (s : State) : Host.Outcome State Fault Refusal := .next (s.actX fun t x => logInfo t x)

/-- LOG_READ (R420). -/
def execLogRead (s : State) : Host.Outcome State Fault Refusal := .next (s.actX fun t x => logReadCmd t x)

/-- LOG_SNAPSHOT (R352). -/
def execLogSnapshot (s : State) : Host.Outcome State Fault Refusal := .next (s.actX fun t x => logSnapshotCmd t x)

/-- LOG_CLEAR (R359). -/
def execLogClear (s : State) : Host.Outcome State Fault Refusal := .next (s.actX fun t x => logClearCmd t x)

/-- HW_STATUS (R420). -/
def execHwStatus (s : State) : Host.Outcome State Fault Refusal := .next (s.actX fun t x => hwStatusCmd t x)

/-- HW_RELAY (R429). -/
def execHwRelay (s : State) : Host.Outcome State Fault Refusal := .next (s.actX fun t x => hwRelayCmd t x)

/-- HW_RELAY_MORE (R430). -/
def execHwRelayMore (s : State) : Host.Outcome State Fault Refusal := .next (s.actX fun _ x => hwRelayMore x)

/-- CFG_INFO (R420). -/
def execCfgInfo (s : State) : Host.Outcome State Fault Refusal := .next (s.actX fun _ x => cfgInfo x)

/-- CFG_BEGIN (R380). -/
def execCfgBegin (s : State) : Host.Outcome State Fault Refusal := .next (s.actX fun _ x => cfgBegin x)

/-- CFG_CHUNK (R431). -/
def execCfgChunk (s : State) : Host.Outcome State Fault Refusal := .next (s.actX cfgChunk)

/-- CFG_END (R377). -/
def execCfgEnd (s : State) : Host.Outcome State Fault Refusal := .next (s.actX fun t x => cfgEnd t x)

/-- FW_INFO (R420). -/
def execFwInfo (s : State) : Host.Outcome State Fault Refusal := .next (s.actX fun _ x => fwInfo x)

/-- FW_BEGIN (R371). -/
def execFwBegin (s : State) : Host.Outcome State Fault Refusal := .next (s.actX fun _ x => fwBegin x)

/-- FW_CHUNK (R431). -/
def execFwChunk (s : State) : Host.Outcome State Fault Refusal := .next (s.actX fwChunk)

/-- FW_END (R370). -/
def execFwEnd (s : State) : Host.Outcome State Fault Refusal := .next (s.actX fun t x => fwEnd t x)

/-- FW_ACTIVATE (R373). -/
def execFwActivate (s : State) : Host.Outcome State Fault Refusal := .next (s.actX fun t x => fwActivate t x)

/-- OTP_READ (R335). -/
def execOtpRead (s : State) : Host.Outcome State Fault Refusal := .next (s.actX fun _ x => otpReadCmd x)

/-- OTP_PROGRAM (R383). -/
def execOtpProgram (s : State) : Host.Outcome State Fault Refusal := .next (s.actX fun t x => otpProgramCmd t x)

/-- OTP_PATCH (R362). -/
def execOtpPatch (s : State) : Host.Outcome State Fault Refusal := .next (s.actX fun t x => otpPatchCmd t x)

/-- OTP_FINALISE (R342). -/
def execOtpFinalise (s : State) : Host.Outcome State Fault Refusal := .next (s.actX fun t x => otpFinaliseCmd t x)

/-- OTP_TRANSFER (R346). -/
def execOtpTransfer (s : State) : Host.Outcome State Fault Refusal := .next (s.actX fun t x => otpTransferCmd t x)

/-- OTP_COUNTERS (R344). -/
def execOtpCounters (s : State) : Host.Outcome State Fault Refusal := .next (s.actX fun _ x => otpCountersCmd x)

/-- REG_READ (R432). -/
def execRegRead (s : State) : Host.Outcome State Fault Refusal := .next (s.actX fun t x => regReadCmd t x)

/-- REG_WRITE (R432). -/
def execRegWrite (s : State) : Host.Outcome State Fault Refusal := .next (s.actX fun t x => regWriteCmd t x)

/-- REG_MODIFY (R432). -/
def execRegModify (s : State) : Host.Outcome State Fault Refusal := .next (s.actX fun t x => regModifyCmd t x)

end Sys2Proof.Machine
end

