-- ==== Sys2Proof/Machine/CmdsHost.lean ====
section
/-! DEFINITION. The SYS and LEASE opcodes: spec/17_command_set.md. -/
namespace Sys2Proof.Machine

/-- SYS_INFO. -/
def sysInfo (x : MB) : MB :=
  runOp x { code := 0x0000, len := len1 0 } (shows fun r _ b =>
    leBytes 4 0x96240103 ++ leBytes 4 (devState b r.port (portClass b r.port)) ++
    leBytes 4 (b.f PILOT_VER.VERSION (b.f BOOT_STATUS.PILOT_SLOT 0)) ++ leBytes 4 (cfgSeq b) ++ serial b ++
    leBytes 2 (b.f HW_CFG.NODE_ID 0) ++ [r.port, portClass b r.port])

/-- SYS_TIME. -/
def sysTime (t : Nat) (x : MB) : MB :=
  runOp x { code := 0x0001, len := len1 0 } (shows fun _ _ b =>
    leBytes 8 t ++ leBytes 4 (b.f BIV_RTC_EPOCH.SECONDS 0) ++ leBytes 4 (peekWord t b (ALIGN_STATUS.MASTER_ID.addr 0)))

/-- A register write that follows the response of a request. -/
def deferWrite (b : Blk) (r : Req) (what : Nat) : Blk :=
  { b with deferred := b.deferred ++ [{ what := what, port := r.port, quay := r.quay, at_ := 0, ahead := 0 }] }

/-- SYS_RESTART: the write of 0x5A follows its response. -/
def sysRestartCmd (x : MB) : MB :=
  runOp x { code := 0x0002, len := len1 4, cls := fun _ => 2 } fun r p x =>
    if pU8 p 0 ≠ 0x5A then (some (sSTATE, []), x) else (some (sOK, []), x.1, deferWrite x.2 r 0)

/-- SYS_POWER: the STANDBY or device OFF request follows its response. -/
def sysPower (x : MB) : MB :=
  runOp x { code := 0x0003, len := len1 4, cls := fun _ => 1, ok := fun p => decide (pU8 p 0 < 2) } fun r p x =>
    if !standbyOk x.2 then (some (sSTATE, []), x.1, x.2.flag BIV_STBY_CTL.STBY_REJ 0) else (some (sOK, []), x.1, deferWrite x.2 r (pU8 p 0 + 1))

/-- SYS_SAFE_EXIT (R308). -/
def sysSafeExit (t : Nat) (x : MB) : MB :=
  runOp x { code := 0x0004, len := len1 0, cls := fun _ => 1 } fun r _ x =>
    if x.2.dev ≠ .safe then (some (sSTATE, []), x)
    else
      let y := (wr t r x (FAULT_CTL.SAFE_EXIT.addr 0) 1).2
      if y.2.dev = .safe then (some (sSTATE, []), y)
      else (some (sOK, leBytes 4 (peekWord t y.2 (FAULT_STATE.REACT.addr 0))), y)

/-- LEASE_GRANT (R402, R404, R405). -/
def leaseGrantCmd (t : Nat) (x : MB) : MB :=
  runOp x
    { code := 0x0100, len := len1 8, cls := fun p => if pU8 p 0 = 4 then 2 else 1
      ok := fun p => leaseRange (pU8 p 0) (pU8 p 1) } fun r p x =>
    let d := clampN 10 60000 (pU32 p 4)
    let (st, e, b) := leaseGrant t x.2 r.port (pU8 p 0) (pU8 p 1) (bit (pU8 p 2) 0) d
    (some (limited (d != pU32 p 4) st, leBytes 2 (b.f LEASE_RES.HANDLE e) ++ [0, 0] ++ leBytes 8 (b.ls e).expiry), x.1, b)

/-- The entry of a port's own lease by its handle. -/
def ownLease (b : Blk) (p h : Nat) : Option Nat :=
  (List.range 32).find? fun e => leaseOn b e && b.f LEASE_RES.HANDLE e == h && b.f LEASE_RES.PORT e == p

/-- LEASE_RELEASE (R403): the port's own lease that the header names. -/
def leaseReleaseCmd (x : MB) : MB :=
  runOp x { code := 0x0101, len := len1 0, cls := fun _ => 1 } fun r _ x =>
    let b := x.2
    let h := msgLease r.msg
    match ownLease b r.port h with
    | some e => (some (sOK, []), x.1, leaseEnd b e)
    | none =>
      let kept := b.leaseEnds.any fun y => y.handle == h && y.port == r.port && decide (r.edge ≤ y.expiry)
      (some (if kept then sOK else if leasePast b h then sSTALE else sDENIED, []), x)

/-- LEASE_LIST: the port's own leases. -/
def leaseListCmd (x : MB) : MB :=
  runOp x { code := 0x0102, len := len1 0 } (shows fun r _ b =>
    let es := (List.range 32).filter fun e => leaseOn b e && b.f LEASE_RES.PORT e == r.port
    [es.length, 0, 0, 0] ++ es.flatMap fun e =>
      leBytes 2 (b.f LEASE_RES.HANDLE e) ++ [b.f LEASE_RES.KIND e, b.f LEASE_RES.INDEX e] ++ leBytes 8 (b.ls e).expiry)

/-- The write that follows a posted response: at the host's ACK, or 10 ms after posting (R463, R291). -/
def sysDeferredWrite (t : Nat) (b : Blk) : Blk :=
  match b.deferred.find? fun d => d.at_ != 0 && (d.acked || decide (d.at_ - 1 + 20000 ≤ t)) with
  | none => b
  | some d =>
    let b := { b with deferred := b.deferred.erase d }
    match d.what with
    | 0 => sysRestart t b 0x5A
    | 1 => stbyWrite t b 1
    | _ => stbyWrite t b 2

end Sys2Proof.Machine
end

