-- ==== Sys2Proof/Machine/ExecCmdSys.lean ====
section
/-! DEFINITION. Commands on the system, leases, outputs and telemetry: one meaning per row of the command table
(spec/17_command_set.md). -/
namespace Sys2Proof.Machine

/-- SYS_INFO (R420). -/
def execSysInfo (s : State) : Host.Outcome State Fault Refusal := .next (s.actX fun _ x => sysInfo x)

/-- SYS_TIME (R420). -/
def execSysTime (s : State) : Host.Outcome State Fault Refusal := .next (s.actX fun t x => sysTime t x)

/-- SYS_RESTART (R463). -/
def execSysRestart (s : State) : Host.Outcome State Fault Refusal := .next (s.actX fun _ x => sysRestartCmd x)

/-- SYS_POWER (R291). -/
def execSysPower (s : State) : Host.Outcome State Fault Refusal := .next (s.actX fun _ x => sysPower x)

/-- SYS_SAFE_EXIT (R308). -/
def execSysSafeExit (s : State) : Host.Outcome State Fault Refusal := .next (s.actX fun t x => sysSafeExit t x)

/-- LEASE_GRANT (R402). -/
def execLeaseGrant (s : State) : Host.Outcome State Fault Refusal := .next (s.actX fun t x => leaseGrantCmd t x)

/-- LEASE_RELEASE (R403). -/
def execLeaseRelease (s : State) : Host.Outcome State Fault Refusal := .next (s.actX fun _ x => leaseReleaseCmd x)

/-- LEASE_LIST (R402). -/
def execLeaseList (s : State) : Host.Outcome State Fault Refusal := .next (s.actX fun _ x => leaseListCmd x)

/-- BERTH_SET (R426). -/
def execBerthSet (s : State) : Host.Outcome State Fault Refusal := .next (s.actX fun t x => berthSet t x)

/-- BERTH_STATUS (R420). -/
def execBerthStatus (s : State) : Host.Outcome State Fault Refusal := .next (s.actX fun _ x => berthStatus x)

/-- BERTH_MAPS (R420). -/
def execBerthMaps (s : State) : Host.Outcome State Fault Refusal := .next (s.actX fun _ x => berthMaps x)

/-- BERTH_FT (R71). -/
def execBerthFt (s : State) : Host.Outcome State Fault Refusal := .next (s.actX fun t x => berthFtCmd t x)

/-- FEED_STATUS (R425). -/
def execFeedStatus (s : State) : Host.Outcome State Fault Refusal := .next (s.actX fun t x => feedStatusCmd t x)

/-- FEED_FORCE (R61). -/
def execFeedForce (s : State) : Host.Outcome State Fault Refusal := .next (s.actX fun t x => feedForceCmd t x)

/-- LOOP_SET (R122). -/
def execLoopSet (s : State) : Host.Outcome State Fault Refusal := .next (s.actX fun t x => loopSetCmd t x)

/-- LOOP_VSET (R118). -/
def execLoopVset (s : State) : Host.Outcome State Fault Refusal := .next (s.actX fun t x => loopVsetCmd t x)

/-- LOOP_FORCE (R116). -/
def execLoopForce (s : State) : Host.Outcome State Fault Refusal := .next (s.actX fun t x => loopForceCmd t x)

/-- LOOP_OPEN (R153). -/
def execLoopOpen (s : State) : Host.Outcome State Fault Refusal := .next (s.actX fun t x => loopOpenCmd t x)

/-- LOOP_RETUNE (R427). -/
def execLoopRetune (s : State) : Host.Outcome State Fault Refusal := .next (s.actX fun t x => loopRetune t x)

/-- LOOP_STATUS (R420). -/
def execLoopStatus (s : State) : Host.Outcome State Fault Refusal := .next (s.actX fun _ x => loopStatus x)

/-- IREG_SET (R144). -/
def execIregSet (s : State) : Host.Outcome State Fault Refusal := .next (s.actX fun t x => iregSet t x)

/-- IREG_STATUS (R420). -/
def execIregStatus (s : State) : Host.Outcome State Fault Refusal := .next (s.actX fun _ x => iregStatus x)

/-- SEQ_START (R233). -/
def execSeqStart (s : State) : Host.Outcome State Fault Refusal := .next (s.actX fun t x => seqStartCmd t x)

/-- SEQ_STOP (R232). -/
def execSeqStop (s : State) : Host.Outcome State Fault Refusal := .next (s.actX fun t x => seqStopCmd t x)

/-- SEQ_ACK (R234). -/
def execSeqAck (s : State) : Host.Outcome State Fault Refusal := .next (s.actX fun t x => seqAckCmd t x)

/-- SEQ_ALLOFF (R230). -/
def execSeqAlloff (s : State) : Host.Outcome State Fault Refusal := .next (s.actX fun t x => seqAlloffCmd t x)

/-- SEQ_STATUS (R420). -/
def execSeqStatus (s : State) : Host.Outcome State Fault Refusal := .next (s.actX fun _ x => seqStatus x)

/-- TEL_ACC (R189). -/
def execTelAcc (s : State) : Host.Outcome State Fault Refusal := .next (s.actX fun _ x => telAcc x)

/-- TEL_TRK (R191). -/
def execTelTrk (s : State) : Host.Outcome State Fault Refusal := .next (s.actX fun _ x => telTrk x)

/-- TEL_FRAME (R428). -/
def execTelFrame (s : State) : Host.Outcome State Fault Refusal := .next (s.actX fun _ x => telFrame x)

end Sys2Proof.Machine
end

