-- ==== Sys2Proof/Machine/ExecFault.lean ====
section
/-! DEFINITION. Faults, restarts and the Watchman: one meaning per row of the command table
(spec/12_faults_watchdog.md). -/
namespace Sys2Proof.Machine

/-- KEEPER_RESTART (R305). -/
def execKeeperRestart (s : State) : Host.Outcome State Fault Refusal := .next (s.act fun t b => keeperRestart t b)

/-- SYS_RESTART_WRITE (R463). -/
def execSysRestartWrite (s : State) : Host.Outcome State Fault Refusal := .next (s.act fun t b => sysRestart t b 0x5A)

/-- SAFE_EXIT (R308). -/
def execSafeExit (w : Writer) (s : State) : Host.Outcome State Fault Refusal := .next (s.act fun t b => safeExit t b w)

/-- FAULT_STATUS_CLEAR (R307). -/
def execFaultStatusClear (w : Writer) (which : Fin 3) (v : Nat) (s : State) : Host.Outcome State Fault Refusal :=
  .next (s.act fun t b => faultClear t b w which v)

/-- LANTERN_TOGGLE (R310). -/
def execLanternToggle (s : State) : Host.Outcome State Fault Refusal := .next (s.act fun t b => lanternToggle t b)

/-- TICK_STALL (R311). -/
def execTickStall (s : State) : Host.Outcome State Fault Refusal := .next (s.act fun t b => tickStall t b)

/-- WD_LOCK (R313). -/
def execWdLock (w : Writer) (s : State) : Host.Outcome State Fault Refusal := .next (s.act fun t b => wdLock t b w)

/-- WD_CHECKIN (R314). -/
def execWdCheckin (w : Writer) (k : Fin 16) (s : State) : Host.Outcome State Fault Refusal :=
  .next (s.act fun _ b => wdCheckin b w k)

/-- WD_KEY_A (R315). -/
def execWdKeyA (w : Writer) (s : State) : Host.Outcome State Fault Refusal := .next (s.act fun t b => wdKeyA t b w)

/-- WD_KEY_B (R316). -/
def execWdKeyB (w : Writer) (s : State) : Host.Outcome State Fault Refusal := .next (s.act fun t b => wdKeyB t b w)

/-- WD_KEY_OTHER (R315). -/
def execWdKeyOther (w : Writer) (s : State) : Host.Outcome State Fault Refusal :=
  .next (s.act fun t b => wdKeyOther t b w)

/-- WD_PERIOD_EXPIRE (R317). -/
def execWdPeriodExpire (s : State) : Host.Outcome State Fault Refusal := .next (s.act fun t b => wdExpire t b)

end Sys2Proof.Machine
end

