-- ==== Sys2Proof/Machine/ExecHawser.lean ====
section
/-! DEFINITION. The Hawser ring: one meaning per row of the command table (spec/16_host_links.md). -/
namespace Sys2Proof.Machine

/-- HAWSER_FRAME_RELAY (R406). -/
def execHawserFrameRelay (side : Fin 2) (l : List Nat) (resid : Int) (s : State) : Host.Outcome State Fault Refusal :=
  .next (s.act fun t b => frameRelay t b side l resid)

/-- HAWSER_CARRIER_LOSS (R407). -/
def execHawserCarrierLoss (side : Fin 2) (s : State) : Host.Outcome State Fault Refusal :=
  .next (s.act fun t b => carrierLoss t b side)

/-- HAWSER_UNWRAP (R407). -/
def execHawserUnwrap (side : Fin 2) (s : State) : Host.Outcome State Fault Refusal :=
  .next (s.act fun t b => unwrap t b side)

/-- BEACON_SEND (R410). -/
def execBeaconSend (s : State) : Host.Outcome State Fault Refusal := .next (s.act fun t b => beaconSend t b)

/-- BEACON_RECEIVE (R410). -/
def execBeaconReceive (side : Fin 2) (l : List Nat) (s : State) : Host.Outcome State Fault Refusal :=
  .next (s.act fun t b => beaconReceive t b side l)

/-- TICK_FRAME_RECEIVE (R411). -/
def execTickFrameReceive (side : Fin 2) (l : List Nat) (arr : Int) (s : State) : Host.Outcome State Fault Refusal :=
  .next (s.act fun t b => tickFrameReceive t b side l arr)

/-- LINK_FRAME (R412). -/
def execLinkFrame (side : Fin 2) (l : List Nat) (delay : Nat) (s : State) : Host.Outcome State Fault Refusal :=
  .next (s.act fun t b => linkFrame t b side l delay)

/-- FAULT_FRAME_RECEIVE (R414). -/
def execFaultFrameReceive (side : Fin 2) (l : List Nat) (s : State) : Host.Outcome State Fault Refusal :=
  .next (s.act fun t b => faultFrameReceive t b side l)

/-- TOKEN_FRAME_RECEIVE (R415). -/
def execTokenFrameReceive (side : Fin 2) (l : List Nat) (s : State) : Host.Outcome State Fault Refusal :=
  .next (s.act fun t b => tokenFrameReceive t b side l)

/-- RELAY_REQ_RECEIVE (R416). -/
def execRelayReqReceive (side : Fin 2) (l : List Nat) (s : State) : Host.Outcome State Fault Refusal :=
  .next (s.act fun t b => relayReqReceive t b side l)

/-- RELAY_RSP_RECEIVE (R429). -/
def execRelayRspReceive (side : Fin 2) (l : List Nat) (s : State) : Host.Outcome State Fault Refusal :=
  .next (s.act fun t b => relayRspReceive t b side l)

/-- HW_RELAY_TIMEOUT (R429). -/
def execHwRelayTimeout (s : State) : Host.Outcome State Fault Refusal := .next (s.act fun t b => relayTimeout t b)

/-- RELAY_HOLD_EXPIRE (R430). -/
def execRelayHoldExpire (p : Fin 4) (s : State) : Host.Outcome State Fault Refusal :=
  .next (s.act fun t b => relayHoldExpire t b p)

end Sys2Proof.Machine
end

