-- ==== Sys2Proof/Machine/Power.lean ====
section
/-! DEFINITION. Supply loss and hold-up (R356, R357, R451), power-up and reset (R437, R447, R448), the losses of a clock
source (R18, R19), the test port (R347). -/
namespace Sys2Proof.Machine

/-! Reset -/

/-- The memories after a loss of power: SRAM keeps nothing (an unlisted byte of it reads 0, DESIGN CHOICE). -/
def memLost (m : Mem) : Mem :=
  { m with
    cells := m.cells.filter fun c => !isSram c.1, syn := m.syn.filter fun c => !isSram c.1
    mark := m.mark.filter fun c => !isSram c.1, par := m.par.filter fun c => !isSram c.1 }

/-- The device in reset: what is under way ended, POWERUP to begin once the supply is above the start threshold (R447, R451); with neither
VNET nor VKB it is in device OFF, KEEP in OFF (R293, R240). -/
def resetNow (x : MB) : MB :=
  let b := powerUpBlk x.2
  (memLost x.1, if b.biv.onVbiv then kTo { wakeOutClear b with dev := .off } kOFF else { b with dev := .powerup })

/-- A Logbook record and an OTP command under way are completed first (R356, R437), without a redirection in a hold-up (R340). -/
def completeFirst (t : Nat) (hold : Bool) (x : MB) : MB :=
  let (m, b) := logWriteDone t x
  mapFlush (m, if b.on OTP_STATUS.BUSY 0 then otpEnd t hold b else b)

/-- NRST_IN low for 10 µs; not watched in STANDBY and device OFF (R437). -/
def nrstIn (t : Nat) (x : MB) : MB :=
  if x.2.dev = .standby ∨ x.2.dev = .off then x else resetNow (completeFirst t false x)

/-- VIO below its band's minimum for 10 µs, in any state after POWERUP, acts as NRST_IN (R448). -/
def vioLoss (t : Nat) (x : MB) : MB := if 20 ≤ x.2.vioLow then nrstIn t x else x

/-- A die shutdown in force at the end of POWERUP, or found and released since the core clock stopped: TEMP_DIE and the safe state of R214,
which a device in STANDBY could not take before. -/
def dieHeld (b : Blk) : Blk :=
  if b.therm.stopped ∨ b.therm.due then
    let b := safeDev (safeState 0 (b.raise 0 13 0x00FF))
    { b with therm := { b.therm with due := false }, col := { b.col with aheadOf := 2 } }
  else b

/-- POWERUP has begun, or begins, with VDDC, AVDD and VIO in range: SYSPLL alone decides whether it ends (R447, R448). -/
def powerReady (b : Blk) : Bool := b.dev == .powerup && (b.up.isSome || supplyUp b) && !b.biv.onVbiv && railsOk b

/-- SYSPLL is locked; it is not, 2.0 ms after POWERUP began. -/
def pllLocked (b : Blk) : Bool := b.sig .pllLock != 0
def pllLate (b : Blk) : Bool := !pllLocked b && decide (4000 ≤ b.up.getD 0)

/-- The end of POWERUP: every register at its reset value, the VIO band selected, ADDR_SEL and the ring sides sampled (R392, R440), the
Watchman in boot mode (R313). -/
def powerEnd (x : MB) : MB :=
  let b := { powerUpBlk x.2 with vio33 := vio33Now x.2 }
  let b := b.setF HOST_TW_CFG.TW0_ADDR 0 (0x40 + (x.2.sig .addrSel).toNat % 8)
  (memLost x.1, dieHeld (wdBoot (b.setOn THERM_BROKEN.SHUTDOWN 0 (b.therm.stopped || b.therm.due)) 0))

/-- The end of POWERUP with SYSPLL not locked: the tick from RCOSC, CLOCK (R447). -/
def powerEndPll (x : MB) : MB :=
  let (m, b) := powerEnd x
  (m, (b.setF CLK_STATUS.TICK_SRC 0 1).raise 0 9 0xFFFF)

/-! Hold-up -/

/-- The writer's place found before the scan of BOOT has been made (R356: the next blank slot). -/
def logPlaced (m : Mem) (b : Blk) : Blk :=
  let p := logPlace m
  { b with log := { b.log with slot := p.2 } }.setF LOG_NEXT.SEQ 0 p.1

/-- The supply below 9.0 V at 2 edges (R356). DESIGN CHOICE: the ME stops with it, and a berth still in INRUSH goes on open-loop with
IGATE_MAX (R55). In order: what is under way completed, erases aborted, the queue discarded, the blocks of
Bivouac RAM written, the converters in low power (R174). -/
def powerLoss (t : Nat) (x : MB) : MB :=
  if 2 ≤ x.2.vsupLow ∧ hwUp x.2 ∧ x.2.holdup = none then
    let otp := x.2.on OTP_STATUS.BUSY 0
    let (m, b) := completeFirst t true x
    let lost := b.log.queue.length + b2n b.log.clr.isSome
    let b := { b with log := { b.log with queue := [], erase := [], drop := none, clr := none } }
    let b := if b.log.ready then b else logPlaced m b
    let h : Holdup := { edge := t, vhold := (vholdMv b).toNat, lost := lost, otp := otp, slot := (writerSlots m b).head? }
    let b := { b with holdup := some h, upload := none, meOn := false }
    (m, logShow (shutdownBlock t (twinBlock (b.setF ADC_STATUS.LP 0 1)) 3))
  else x

/-- VHOLD below 12.0 V for 16 ticks, once per run (R357). -/
def holdupLow (t : Nat) (b : Blk) : Blk :=
  if 16 ≤ b.vholdLow.n ∧ !b.vholdLow.raised then
    { b with vholdLow := { b.vholdLow with raised := true } }.raise t 32 0xFFFF
  else b

/-- The end of the hold-up sequence: the POWER_LOSS record stands in its slot and the device resets (R451). -/
def holdupComplete (t : Nat) (x : MB) : MB :=
  match x.2.holdup with
  | some h => if h.record.isSome then resetNow (logWriteDone t x) else x
  | none => x

/-- VHOLD below its brown-out threshold, at its typical value: the device stops at once and is unpowered, without the record (R451); of one being written a free number of words
stands, so that it is torn (R349). -/
def vholdBrownout (x : MB) : MB :=
  if x.2.holdup.isSome ∧ vholdMv x.2 < 6500 then
    let y := logCut x (Config.freeByte x.2.free)
    resetNow (y.1, { y.2 with free := y.2.free + 1 })
  else x

/-! Clocks -/

/-- The active SYSPLL fails its check: the spare takes its place (R18); without one SPARE_EXHAUSTED (R386). -/
def syspllFail (t : Nat) (b : Blk) : Blk :=
  if !running b then b
  else match takeSpare t b 12 0 with
    | some b => b.setF CLK_STATUS.PLL_SEL 0 1
    | none => b.raise t 12 0xFFFF

/-- XIN fails: CLOCK, the tick from RCOSC (R19). -/
def xinFail (t : Nat) (b : Blk) : Blk :=
  let b := b.setSig .xin 0
  if !running b then b
  else
    let b := (b.setF CLK_STATUS.TICK_SRC 0 1).setF CLK_STATUS.XIN_OK 0 0
    (b.flag CLK_FAULT.XIN_LOST 0).raise t 9 0xFFFF

/-! Test port (R347) -/

/-- The test port is locked. -/
def tapLocked (b : Blk) : Bool := b.tapLock

/-- The instruction the port selects of BYPASS (0), IDCODE (1) and any other: BYPASS for any other once locked; `none` = an
instruction whose working the spec does not describe. -/
def tapSelect (b : Blk) (i : Nat) : Option Blk :=
  if i ≤ 1 then some { b with tap := i } else if tapLocked b then some { b with tap := 0 } else none

/-! Two-wire (R393) -/

/-- SCL low for 25 ms on a port: the transfer under way is abandoned and both lines are released. A transfer acts on the device
only when it ends, so an abandoned one has changed nothing. -/
def twSclTimeout (b : Blk) (_p : Nat) : Blk := b

end Sys2Proof.Machine
end

