-- ==== Sys2Proof/Machine/ExecHost.lean ====
section
/-! DEFINITION. Host links and quays: one meaning per row of the command table (spec/16_host_links.md). -/
namespace Sys2Proof.Machine

/-- SPI_WRITE_FRAME (R391). -/
def execSpiWriteFrame (l : List Nat) (s : State) : Host.Outcome State Fault Refusal :=
  .next (s.act fun t b => spiWrite t b l)

/-- SPI_READ_FRAME (R390). -/
def execSpiReadFrame (l : List Nat) (s : State) : Host.Outcome State Fault Refusal :=
  .next (s.act fun t b => spiRead t b l)

/-- TW_WRITE (R393). -/
def execTwWrite (p : Fin 2) (l : List Nat) (stop : Bool) (s : State) : Host.Outcome State Fault Refusal :=
  .next (s.act fun t b => twWrite t b (p + 1) l stop)

/-- TW_READ (R393). -/
def execTwRead (p : Fin 2) (l : List Nat) (s : State) : Host.Outcome State Fault Refusal :=
  .next (s.act fun t b => twRead t b (p + 1) l)

/-- TW_SCL_TIMEOUT (R393). -/
def execTwSclTimeout (p : Fin 2) (s : State) : Host.Outcome State Fault Refusal :=
  .next (s.act fun _ b => twSclTimeout b (p + 1))

/-- TW_NOTIFY (R394). -/
def execTwNotify (s : State) : Host.Outcome State Fault Refusal := .next (s.act fun t b => twNotify t b)

/-- TW_ARBITRATION_LOST (R395). -/
def execTwArbitrationLost (p : Fin 2) (atStop : Bool) (s : State) : Host.Outcome State Fault Refusal :=
  .next (s.act fun t b => twArbLost t b (p + 1) atStop)

/-- TW_BUS_CLEAR (R396). -/
def execTwBusClear (p : Fin 2) (n : Nat) (s : State) : Host.Outcome State Fault Refusal :=
  .next (s.act fun t b => twBusClear t b (p + 1) n)

/-- QUAY_SUBMIT (R397). -/
def execQuaySubmit (p : Fin 4) (q : Fin 4) (s : State) : Host.Outcome State Fault Refusal :=
  .next (s.act fun t b => quaySubmit t b p q)

/-- QUAY_COPY_DONE (R397). -/
def execQuayCopyDone (p : Fin 4) (q : Fin 4) (s : State) : Host.Outcome State Fault Refusal :=
  .next (s.act fun _ b => quayCopyDone b p q)

/-- QP_TAKE (R399). -/
def execQpTake (s : State) : Host.Outcome State Fault Refusal := .next (s.act qpTake)

/-- QP_POST (R399). -/
def execQpPost (s : State) : Host.Outcome State Fault Refusal := .next (s.act fun t b => qpPost t b)

/-- RESPONSE_ENTER (R400). -/
def execResponseEnter (p : Fin 4) (q : Fin 4) (s : State) : Host.Outcome State Fault Refusal :=
  .next (s.act fun t b => responseEnter t b p q)

/-- QUAY_ACK (R400). -/
def execQuayAck (p : Fin 4) (q : Fin 4) (s : State) : Host.Outcome State Fault Refusal :=
  .next (s.act fun t b => quayAck t b p q)

/-- QUAY_EXEC_TIMEOUT (R401). -/
def execQuayExecTimeout (p : Fin 4) (q : Fin 4) (s : State) : Host.Outcome State Fault Refusal :=
  .next (s.act fun t b => execTimeout t b p q)

/-- LEASE_EXPIRE (R404). -/
def execLeaseExpire (e : Fin 32) (s : State) : Host.Outcome State Fault Refusal :=
  .next (s.act fun t b => leaseExpire t b e)

end Sys2Proof.Machine
end

