-- ==== Sys2Proof/Machine/ExecIregs.lean ====
section
/-! DEFINITION. Bucks and LDOs: one meaning per row of the command table (spec/05_integrated_rails.md). -/
namespace Sys2Proof.Machine

/-- BUCK_ENABLE (R135). -/
def execBuckEnable (n : Fin 8) (s : State) : Host.Outcome State Fault Refusal :=
  .next (s.act fun t b => buckEnable t b n)

/-- BUCK_DISABLE (R136). -/
def execBuckDisable (n : Fin 8) (s : State) : Host.Outcome State Fault Refusal :=
  .next (s.act fun t b => buckDisable t b n)

/-- BUCK_SOFTSTART_COMPLETE (R136). -/
def execBuckSoftstartComplete (n : Fin 8) (s : State) : Host.Outcome State Fault Refusal :=
  .next (s.act fun t b => buckSoftstartComplete t b n)

/-- BUCK_SS_TIMEOUT (R136). -/
def execBuckSsTimeout (n : Fin 8) (s : State) : Host.Outcome State Fault Refusal :=
  .next (s.act fun t b => buckSsTimeout t b n)

/-- BUCK_RAIL_OV (R136). -/
def execBuckRailOv (n : Fin 8) (s : State) : Host.Outcome State Fault Refusal :=
  .next (s.act fun t b => buckRailOv t b n)

/-- BUCK_RAIL_UV (R136). -/
def execBuckRailUv (n : Fin 8) (s : State) : Host.Outcome State Fault Refusal :=
  .next (s.act fun t b => buckRailUv t b n)

/-- BUCK_RAIL_OC (R136). -/
def execBuckRailOc (n : Fin 8) (s : State) : Host.Outcome State Fault Refusal :=
  .next (s.act fun t b => buckRailOc t b n)

/-- BUCK_OPEN_TIME (R136). -/
def execBuckOpenTime (n : Fin 8) (s : State) : Host.Outcome State Fault Refusal :=
  .next (s.act fun t b => buckOpenTime t b n)

/-- BUCK_VIN_UV (R137). -/
def execBuckVinUv (n : Fin 8) (mv : Int) (s : State) : Host.Outcome State Fault Refusal :=
  .next (s.act fun t b => buckVinUv t b n mv)

/-- BUCK_THERMAL (R137). -/
def execBuckThermal (n : Fin 8) (mc : Int) (s : State) : Host.Outcome State Fault Refusal :=
  .next (s.act fun t b => buckThermal t b n mc)

/-- LDO_ENABLE (R141). -/
def execLdoEnable (n : Fin 6) (s : State) : Host.Outcome State Fault Refusal :=
  .next (s.act fun t b => ldoEnable t b n)

/-- LDO_DISABLE (R142). -/
def execLdoDisable (n : Fin 6) (s : State) : Host.Outcome State Fault Refusal :=
  .next (s.act fun t b => ldoDisable t b n)

/-- LDO_CODE_WRITE (R141). -/
def execLdoCodeWrite (n : Fin 6) (v : Nat) (s : State) : Host.Outcome State Fault Refusal :=
  .next (s.act fun _ b => ldoCodeWrite b n v)

/-- LDO_SOFTSTART_COMPLETE (R142). -/
def execLdoSoftstartComplete (n : Fin 6) (s : State) : Host.Outcome State Fault Refusal :=
  .next (s.act fun t b => ldoSoftstartComplete t b n)

/-- LDO_RAIL_UV (R142). -/
def execLdoRailUv (n : Fin 6) (s : State) : Host.Outcome State Fault Refusal :=
  .next (s.act fun t b => ldoRailUv t b n)

/-- LDO_RAIL_OV (R142). -/
def execLdoRailOv (n : Fin 6) (s : State) : Host.Outcome State Fault Refusal :=
  .next (s.act fun t b => ldoRailOv t b n)

/-- LDO_RAIL_OC (R142). -/
def execLdoRailOc (n : Fin 6) (s : State) : Host.Outcome State Fault Refusal :=
  .next (s.act fun t b => ldoRailOc t b n)

/-- LDO_THERMAL (R142). -/
def execLdoThermal (n : Fin 6) (mc : Int) (s : State) : Host.Outcome State Fault Refusal :=
  .next (s.act fun t b => ldoThermal t b n mc)

end Sys2Proof.Machine
end

