-- ==== Sys2Proof/Machine/ExecKeep.lean ====
section
/-! DEFINITION. KEEP, charger and gauge: one meaning per row of the command table (spec/10_keepalive_battery.md). -/
namespace Sys2Proof.Machine

/-- KEEP_TAKEOVER (R241). -/
def execKeepTakeover (mv : Nat) (s : State) : Host.Outcome State Fault Refusal :=
  .next (s.act fun _ b => keepTakeover b mv)

/-- KEEP_REVERSE_OFF (R242). -/
def execKeepReverseOff (uv : Int) (s : State) : Host.Outcome State Fault Refusal :=
  .next (s.actAny fun _ b => keepReverseOff b uv)

/-- KEEP_RESUME (R242). -/
def execKeepResume (uv : Int) (s : State) : Host.Outcome State Fault Refusal :=
  .next (s.actAny fun _ b => keepResume b uv)

/-- KEEP_REARM (R243). -/
def execKeepRearm (s : State) : Host.Outcome State Fault Refusal := .next (s.act fun _ b => keepRearm b)

/-- KBUS_UV (R245). -/
def execKbusUv (s : State) : Host.Outcome State Fault Refusal := .next (s.act fun t b => kbusUvRaise t b)

/-- DWELL_COMPLETE (R247). -/
def execDwellComplete (s : State) : Host.Outcome State Fault Refusal := .next (s.act fun t b => dwellComplete t b)

/-- SHUTDOWN_TIMER_EXPIRE (R250). -/
def execShutdownTimerExpire (s : State) : Host.Outcome State Fault Refusal :=
  .next (s.act fun t b => shutdownTimerExpire t b)

/-- CHG_ENABLE (R254). -/
def execChgEnable (s : State) : Host.Outcome State Fault Refusal := .next (s.act fun t b => chgEnable t b)

/-- CHG_DISABLE (R254). -/
def execChgDisable (s : State) : Host.Outcome State Fault Refusal := .next (s.act fun t b => chgDisable t b)

/-- CHG_SUSPEND (R254). -/
def execChgSuspend (s : State) : Host.Outcome State Fault Refusal := .next (s.act fun t b => chgSuspend t b)

/-- CHG_RESUME (R254). -/
def execChgResume (s : State) : Host.Outcome State Fault Refusal := .next (s.act fun t b => chgResume t b)

/-- CHG_CELL_OV (R256). -/
def execChgCellOv (c : Fin 4) (s : State) : Host.Outcome State Fault Refusal :=
  .next (s.act fun t b => chgCellOv t b c)

/-- CHG_OC (R256). -/
def execChgOc (s : State) : Host.Outcome State Fault Refusal := .next (s.act fun t b => chgOc t b)

/-- CHG_PEAK_OC (R256). -/
def execChgPeakOc (ma : Nat) (s : State) : Host.Outcome State Fault Refusal :=
  .next (s.act fun t b => chgPeakOc t b ma)

/-- CHG_TIMER (R256). -/
def execChgTimer (s : State) : Host.Outcome State Fault Refusal := .next (s.act fun t b => chgTimer t b)

/-- CHG_PACK_TEMP (R256). -/
def execChgPackTemp (s : State) : Host.Outcome State Fault Refusal := .next (s.act fun t b => chgPackTemp t b)

/-- CHG_FAULT_FLAGS_READ (R257). -/
def execChgFaultFlagsRead (s : State) : Host.Outcome State Fault Refusal :=
  .next (s.act fun t b => rcRead t b 0x400E0060)

/-- PACK_REMOVAL (R259). -/
def execPackRemoval (jump : Option Nat) (s : State) : Host.Outcome State Fault Refusal :=
  .next (s.act fun t b => packRemoval t b jump)

/-- PACK_PRESENT (R259). -/
def execPackPresent (s : State) : Host.Outcome State Fault Refusal := .next (s.act fun t b => packPresent t b)

/-- AUTH_PERIODIC (R272). -/
def execAuthPeriodic (s : State) : Host.Outcome State Fault Refusal := .next (s.act fun t b => authPeriodic t b)

/-- AUTH_READ (R272). -/
def execAuthRead (reply : Option (List Nat)) (s : State) : Host.Outcome State Fault Refusal :=
  .next (s.act fun t b => authRead t b reply)

/-- AUTH_TIMEOUT (R272). -/
def execAuthTimeout (s : State) : Host.Outcome State Fault Refusal := .next (s.act fun t b => authTimeout t b)

/-- GAUGE_REST_ANCHOR (R262). -/
def execGaugeRestAnchor (s : State) : Host.Outcome State Fault Refusal := .next (s.act fun _ b => restAnchor b)

/-- GAUGE_EOD (R262). -/
def execGaugeEod (s : State) : Host.Outcome State Fault Refusal := .next (s.act fun _ b => gaugeEod b)

/-- GAUGE_EOC (R262). -/
def execGaugeEoc (s : State) : Host.Outcome State Fault Refusal := .next (s.act fun _ b => gaugeEoc b)

/-- GAUGE_NOREST (R265). -/
def execGaugeNorest (s : State) : Host.Outcome State Fault Refusal := .next (s.act fun t b => gaugeNoRest t b)

/-- REST_WINDOW_TIMER (R266). -/
def execRestWindowTimer (s : State) : Host.Outcome State Fault Refusal := .next (s.act fun t b => restWindowTimer t b)

/-- GAUGE_SAVE_LATCH (R269). -/
def execGaugeSaveLatch (s : State) : Host.Outcome State Fault Refusal := .next (s.act fun _ b => gaugeSaveLatch b)

/-- GAUGE_COMMIT (R270). -/
def execGaugeCommit (crc : Nat) (s : State) : Host.Outcome State Fault Refusal :=
  .next (s.act fun _ b => gaugeCommit b b.biv.osf crc)

end Sys2Proof.Machine
end

