-- ==== Sys2Proof/Machine/ExecLoops.lean ====
section
/-! DEFINITION. Multiphase loops: one meaning per row of the command table (spec/04_multiphase_loops.md,
spec/06_control_engines.md). -/
namespace Sys2Proof.Machine

/-- A profile instance complete (R167): loop `k`, the profile of inrush token `k - 8`, whose completion R51 looks at by itself,
or the charger (14). -/
def profileDone (t : Nat) (b : Blk) (k : Nat) : Blk :=
  if k < 8 then loopProfileComplete t b k else if k = 14 then chgRampDone b else b

/-- The verdict of the structural test of the replaced engine (R170): it passes, so that LE4 is at fault, or it fails and LE4
stays in its place, counted as used; with none left by the count SPARE_EXHAUSTED (R386). SPARE_USED was raised with the hand-over
(R169). -/
def structuralVerdict (t : Nat) (b : Blk) (pass : Bool) : Blk :=
  if b.f ENG_OFFLINE.RESULT 0 ≠ 1 then b
  else if pass then (b.setF ENG_OFFLINE.RESULT 0 3).raise t 12 0xFFFF
  else
    let b := b.setF ENG_OFFLINE.RESULT 0 2
    match takeSpare t b 5 (b.f ENG_OFFLINE.ENGINE 0) with
    | some b' => { b' with lines := b.lines }
    | none => b.raise t 12 0xFFFF

/-- LOOP_ENABLE (R119). -/
def execLoopEnable (n : Fin 8) (s : State) : Host.Outcome State Fault Refusal :=
  .next (s.act fun t b => loopEnable t b n)

/-- LOOP_DISABLE (R122). -/
def execLoopDisable (n : Fin 8) (s : State) : Host.Outcome State Fault Refusal :=
  .next (s.act fun t b => loopDisable t b n)

/-- PRECHECK_PASS (R119). -/
def execPrecheckPass (n : Fin 8) (s : State) : Host.Outcome State Fault Refusal :=
  .next (s.act fun t b => precheckPass t b n)

/-- SOFTSTART_COMPLETE (R122). -/
def execSoftstartComplete (n : Fin 8) (s : State) : Host.Outcome State Fault Refusal :=
  .next (s.act fun t b => softstartComplete t b n)

/-- PHASE_SHED (R110). -/
def execPhaseShed (n : Fin 8) (s : State) : Host.Outcome State Fault Refusal := .next (s.act fun _ b => phaseShed b n)

/-- BURST_ENTRY (R113). -/
def execBurstEntry (n : Fin 8) (s : State) : Host.Outcome State Fault Refusal :=
  .next (s.act fun t b => burstEntry t b n)

/-- VSEL_QUALIFY (R115). -/
def execVselQualify (n : Fin 8) (s : State) : Host.Outcome State Fault Refusal :=
  .next (s.act fun t b => vselQualify t b n)

/-- PROFILE_COMPLETE (R167). -/
def execProfileComplete (k : Fin 15) (s : State) : Host.Outcome State Fault Refusal :=
  .next (s.act fun t b => profileDone t b k)

/-- RAIL_OV (R123). -/
def execRailOv (n : Fin 8) (s : State) : Host.Outcome State Fault Refusal := .next (s.act fun t b => railOv t b n)

/-- RAIL_UV (R123). -/
def execRailUv (n : Fin 8) (s : State) : Host.Outcome State Fault Refusal := .next (s.act fun t b => railUv t b n)

/-- RAIL_OC (R124). -/
def execRailOc (n : Fin 8) (s : State) : Host.Outcome State Fault Refusal := .next (s.act fun t b => railOc t b n)

/-- LOOP_OPEN_REQUEST (R153). -/
def execLoopOpenRequest (n : Fin 8) (s : State) : Host.Outcome State Fault Refusal :=
  .next (s.act fun t b => loopOpenRequest t b n)

/-- LOOP_RELEASE (R157). -/
def execLoopRelease (n : Fin 8) (s : State) : Host.Outcome State Fault Refusal :=
  .next (s.act fun t b => loopRelease t b n)

/-- LOOP_OPEN_TIME (R156). -/
def execLoopOpenTime (n : Fin 8) (s : State) : Host.Outcome State Fault Refusal :=
  .next (s.act fun t b => loopOpenTime t b n)

/-- COEF_WRITE (R152). -/
def execCoefWrite (n : Fin 8) (w : Fin 8) (v : Nat) (s : State) : Host.Outcome State Fault Refusal :=
  .next (s.act fun _ b => coefWrite b n w v)

/-- STRUCTURAL_TEST_VERDICT (R170). -/
def execStructuralTestVerdict (pass : Bool) (s : State) : Host.Outcome State Fault Refusal :=
  .next (s.act fun t b => structuralVerdict t b pass)

end Sys2Proof.Machine
end

