-- ==== Sys2Proof/Machine/ExecMeas.lean ====
section
/-! DEFINITION. Measurement, monitors and throttling: one meaning per row of the command table (spec/07_measurement.md,
spec/08_comparators_thermal.md). -/
namespace Sys2Proof.Machine

/-- ADC_DISPUTE_DECISION (R183). -/
def execAdcDisputeDecision (s : State) : Host.Outcome State Fault Refusal := .next (s.act fun t b => disputeDecide t b)

/-- ACC_LATCH (R189). -/
def execAccLatch (k : Fin 4) (m : Nat) (s : State) : Host.Outcome State Fault Refusal :=
  .next (s.act fun t b => accLatchMask t b k m)

/-- TRACKER_LATCH (R191). -/
def execTrackerLatch (k : Fin 4) (m : Nat) (s : State) : Host.Outcome State Fault Refusal :=
  .next (s.act fun _ b => trkLatchMask b k m)

/-- LEGACY_ADC_DATA_READ (R194). -/
def execLegacyAdcDataRead (p : Fin 4) (s : State) : Host.Outcome State Fault Refusal :=
  .next (s.act fun _ b => legacyDataRead b p)

/-- MON_RAIL_UV (R197). -/
def execMonRailUv (nn : Fin 32) (s : State) : Host.Outcome State Fault Refusal :=
  .next (s.act fun t b => monRailUv t b nn)

/-- MON_RAIL_OV (R197). -/
def execMonRailOv (nn : Fin 32) (s : State) : Host.Outcome State Fault Refusal :=
  .next (s.act fun t b => monRailOv t b nn)

/-- MON_CORE_TEST_OUTCOME (R205). -/
def execMonCoreTestOutcome (own : Bool) (spare : Bool) (s : State) : Host.Outcome State Fault Refusal :=
  .next (s.act fun t b => monTestOutcome t b own spare)

/-- STANDBY_SAMPLE (R198). -/
def execStandbySample (s : State) : Host.Outcome State Fault Refusal := .next (s.actAny fun _ b => standbySample b)

/-- SENSOR_BROKEN_CLEAR (R211). -/
def execSensorBrokenClear (origin : Fin 4) (m : Nat) (s : State) : Host.Outcome State Fault Refusal :=
  .next (s.act fun _ b => brokenClear b origin m)

/-- DIE_SHUTDOWN (R214). -/
def execDieShutdown (s : State) : Host.Outcome State Fault Refusal := .next (s.actAny fun t b => dieShutdown t b)

/-- DIE_SHUTDOWN_RELEASE (R214). -/
def execDieShutdownRelease (s : State) : Host.Outcome State Fault Refusal := .next (s.actAny fun _ b => dieRelease b)

/-- THROTTLE_ENFORCE (R216). -/
def execThrottleEnforce (k : Fin 4) (s : State) : Host.Outcome State Fault Refusal :=
  .next (s.act fun t b => throttleEnforce t b k)

/-- THROTTLE_RELEASE (R219). -/
def execThrottleRelease (k : Fin 4) (s : State) : Host.Outcome State Fault Refusal :=
  .next (s.act fun t b => throttleRelease t b k)

end Sys2Proof.Machine
end

