-- ==== Sys2Proof/Machine/ExecMem.lean ====
section
/-! DEFINITION. Memories, OTP and Logbook: one meaning per row of the command table (spec/13_memories_otp.md,
spec/14_logbook.md). -/
namespace Sys2Proof.Machine

/-- ECC_TEST_GO (R329). -/
def execEccTestGo (w : Writer) (s : State) : Host.Outcome State Fault Refusal :=
  .next (s.actX fun t x => eccTestGo t x w)

/-- ECC_TEST_READ (R330). -/
def execEccTestRead (w : Writer) (s : State) : Host.Outcome State Fault Refusal :=
  .next (s.actX fun _ x => eccTestRead x w)

/-- SCRUB_GO (R331). -/
def execScrubGo (s : State) : Host.Outcome State Fault Refusal := .next (s.act fun _ b => scrubGo b)

/-- SCRUB_WORD_READ (R331). -/
def execScrubWordRead (s : State) : Host.Outcome State Fault Refusal := .next (s.actX fun t x => scrubWord t x)

/-- SCRUB_ABORT (R333). -/
def execScrubAbort (s : State) : Host.Outcome State Fault Refusal := .next (s.act fun _ b => scrubAbort b)

/-- OTP_CMD_PROGRAM (R338). -/
def execOtpCmdProgram (w : Writer) (key : Nat) (s : State) : Host.Outcome State Fault Refusal :=
  .next (s.act fun _ b => otpCmdProgram b w key)

/-- OTP_CMD_INCREMENT (R345). -/
def execOtpCmdIncrement (w : Writer) (key : Nat) (s : State) : Host.Outcome State Fault Refusal :=
  .next (s.act fun _ b => otpCmdIncrement b w key)

/-- OTP_CMD_FINALISE (R342). -/
def execOtpCmdFinalise (w : Writer) (key : Nat) (s : State) : Host.Outcome State Fault Refusal :=
  .next (s.act fun _ b => otpCmdFinalise b w key)

/-- OTP_COMMAND_DONE (R338). -/
def execOtpCommandDone (s : State) : Host.Outcome State Fault Refusal := .next (s.act otpCommandDone)

/-- LOG_RECORD_WRITE (R349). -/
def execLogRecordWrite (s : State) : Host.Outcome State Fault Refusal := .next (s.actX fun _ x => logWrite x)

/-- The OTP commands that a record's write held, once it has ended (R350). -/
def otpAfter (t : Nat) (x : MB) : MB :=
  let y := otpResume t x
  (y.1, otpNext y.2)

/-- LOG_WRITE_DONE (R349). -/
def execLogWriteDone (s : State) : Host.Outcome State Fault Refusal :=
  .next (s.actX fun t x => if x.2.log.writing.isSome then otpAfter t (logWritten t x) else x)

/-- LOG_ERASE_DONE (R350). -/
def execLogEraseDone (s : State) : Host.Outcome State Fault Refusal := .next (s.actX logEraseDone)

/-- LOG_SNAP (R352). -/
def execLogSnap (tag : Nat) (port : Fin 4) (s : State) : Host.Outcome State Fault Refusal :=
  .next (s.act fun t b => logSnap t b tag port)

end Sys2Proof.Machine
end

