-- ==== Sys2Proof/Machine/ExecMore.lean ====
section
/-! DEFINITION. Exceptions, repeats and the test port: one meaning per row of the command table
(spec/12_faults_watchdog.md, spec/13_memories_otp.md, spec/16_host_links.md). -/
namespace Sys2Proof.Machine

/-- PILOT_EXCEPTION (R31). -/
def execPilotException (kind : Fin 4) (a : Nat) (s : State) : Host.Outcome State Fault Refusal :=
  .next (s.actX fun t x => pilotException t x kind a)

/-- NOTIFY_RETRY (R394). -/
def execNotifyRetry (s : State) : Host.Outcome State Fault Refusal := .next (s.act fun t b => notifyRetry t b)

/-- TW_TRANSFER_REPEAT (R395). -/
def execTwTransferRepeat (p : Fin 2) (s : State) : Host.Outcome State Fault Refusal :=
  .next (s.act fun _ b => twRepeat b (p + 1))

/-- TW_HUNG_RETRY (R396). -/
def execTwHungRetry (p : Fin 2) (n : Nat) (s : State) : Host.Outcome State Fault Refusal :=
  .next (s.act fun t b => twHungRetry t b (p + 1) n)

/-- TEST_PORT_INSTRUCTION (R347). -/
def execTestPortInstruction (i : Nat) (s : State) : Host.Outcome State Fault Refusal :=
  match tapSelect s.b i with
  | some b => .next (if running s.b then { s with b := b } else s)
  | none => if running s.b then .refused (.testInstruction i) else .next s

/-- SYS_DEFERRED_WRITE (R463). -/
def execSysDeferredWrite (s : State) : Host.Outcome State Fault Refusal :=
  .next (s.act fun t b => sysDeferredWrite t b)

end Sys2Proof.Machine
end

