-- ==== Sys2Proof/Machine/ExecPower.lean ====
section
/-! DEFINITION. Power and start: one meaning per row of the command table (spec/14_logbook.md,
spec/15_firmware_config.md, spec/18_package_pins.md, spec/19_ratings.md). -/
namespace Sys2Proof.Machine

/-- POWER_LOSS (R356). -/
def execPowerLoss (s : State) : Host.Outcome State Fault Refusal := .next (s.actX fun t x => powerLoss t x)

/-- HOLDUP_LOW (R357). -/
def execHoldupLow (s : State) : Host.Outcome State Fault Refusal := .next (s.act fun t b => holdupLow t b)

/-- HOLDUP_COMPLETE (R451). -/
def execHoldupComplete (s : State) : Host.Outcome State Fault Refusal := .next (s.actX holdupComplete)

/-- VHOLD_BROWNOUT (R451). -/
def execVholdBrownout (s : State) : Host.Outcome State Fault Refusal := .next (s.actX fun _ x => vholdBrownout x)

/-- POWERUP (R447). -/
def execPowerup (s : State) : Host.Outcome State Fault Refusal := 
  .next (s.powerOn (powerReady s.b && pllLocked s.b) powerEnd)

/-- POWERUP_PLL_TIMEOUT (R447). -/
def execPowerupPllTimeout (s : State) : Host.Outcome State Fault Refusal := 
  .next (s.powerOn (powerReady s.b && pllLate s.b) powerEndPll)

/-- NRST_IN (R437). -/
def execNrstIn (s : State) : Host.Outcome State Fault Refusal := .next (s.actAnyX nrstIn)

/-- VIO_LOSS (R448). -/
def execVioLoss (s : State) : Host.Outcome State Fault Refusal := .next (s.actAnyX vioLoss)

/-- BOOT (R367). -/
def execBoot (k : Fin 11) (s : State) : Host.Outcome State Fault Refusal := .next (s.actX fun t x => bootSteps t x k)

/-- PILOT_READY (R368). -/
def execPilotReady (s : State) : Host.Outcome State Fault Refusal := .next (s.actX fun t x => pilotReady t x .pilot 1)

/-- SLOT_ERASE_DONE (R431). -/
def execSlotEraseDone (s : State) : Host.Outcome State Fault Refusal := .next (s.actX slotEraseDone)

end Sys2Proof.Machine
end

