-- ==== Sys2Proof/Machine/ExecSeq.lean ====
section
/-! DEFINITION. The sequencer: one meaning per row of the command table (spec/09_sequencing.md). -/
namespace Sys2Proof.Machine

/-- SEQ_GRP_START (R233). -/
def execSeqGrpStart (g : Fin 8) (origin : Fin 4) (s : State) : Host.Outcome State Fault Refusal :=
  .next (s.act fun t b => seqStart t b g origin)

/-- SEQ_GRP_STOP (R232). -/
def execSeqGrpStop (g : Fin 8) (s : State) : Host.Outcome State Fault Refusal :=
  .next (s.act fun t b => seqStop t b g 1)

/-- SEQ_GRP_ACK (R234). -/
def execSeqGrpAck (g : Fin 8) (s : State) : Host.Outcome State Fault Refusal := .next (s.act fun t b => seqAck t b g)

/-- SEQ_GRP_ALLOFF_REQ (R230). -/
def execSeqGrpAlloffReq (g : Fin 8) (s : State) : Host.Outcome State Fault Refusal :=
  .next (s.act fun t b => seqAllOffReq t b g)

/-- PENDING_START (R233). -/
def execPendingStart (g : Fin 8) (s : State) : Host.Outcome State Fault Refusal :=
  .next (s.act fun t b => pendingStart t b g)

/-- STEP_DELAY_EXPIRE (R224). -/
def execStepDelayExpire (g : Fin 8) (s : State) : Host.Outcome State Fault Refusal :=
  .next (s.act fun t b => stepDelayExpire t b g)

/-- STEP_QUALIFIED (R225). -/
def execStepQualified (g : Fin 8) (s : State) : Host.Outcome State Fault Refusal :=
  .next (s.act fun t b => stepQualified t b g)

/-- SEQ_TIMEOUT (R226). -/
def execSeqTimeout (g : Fin 8) (s : State) : Host.Outcome State Fault Refusal :=
  .next (s.act fun t b => seqTimeout t b g)

/-- STEP_TOKEN_TARGET (R227). -/
def execStepTokenTarget (g : Fin 8) (s : State) : Host.Outcome State Fault Refusal :=
  .next (s.act fun t b => stepTokenTarget t b g)

/-- MON_DROP (R230). -/
def execMonDrop (o : Fin 64) (s : State) : Host.Outcome State Fault Refusal := .next (s.act fun t b => monDrop t b o)

/-- FOGHORN_RELEASE (R235). -/
def execFoghornRelease (s : State) : Host.Outcome State Fault Refusal := .next (s.act fun t b => foghornRelease t b)

/-- FOGHORN_IN (R237). -/
def execFoghornIn (s : State) : Host.Outcome State Fault Refusal := .next (s.act fun t b => foghornIn t b)

/-- STOP_STEP_DELAY (R232). -/
def execStopStepDelay (g : Fin 8) (s : State) : Host.Outcome State Fault Refusal :=
  .next (s.act fun t b => stopStepDelay t b g)

/-- STOP_STEP_OFF (R232). -/
def execStopStepOff (g : Fin 8) (s : State) : Host.Outcome State Fault Refusal :=
  .next (s.act fun t b => stopStepOff t b g)

/-- STOP_STEP_TIMEOUT (R232). -/
def execStopStepTimeout (g : Fin 8) (s : State) : Host.Outcome State Fault Refusal :=
  .next (s.act fun t b => stopStepTimeout t b g)

end Sys2Proof.Machine
end

