-- ==== Sys2Proof/Machine/ExecTime.lean ====
section
/-! DEFINITION. The time base and register accesses: one meaning per row of the command table
(spec/01_tick_and_hierarchies.md). -/
namespace Sys2Proof.Machine

/-- TICK (R12). -/
def execTick (ins : List (Sig × Int)) (s : State) : Host.Outcome State Fault Refusal :=
  .next (s.tickOn fun t x => tickDo t ins x)

/-- BEAT (R10). -/
def execBeat (s : State) : Host.Outcome State Fault Refusal := .next (s.act fun t b => beatDo t b)

/-- ROUND (R10). -/
def execRound (s : State) : Host.Outcome State Fault Refusal := .next (s.actX fun t x => roundDo t x)

/-- SLOW_ROUND (R10). -/
def execSlowRound (s : State) : Host.Outcome State Fault Refusal := .next (s.act fun t b => slowDo t b)

/-- SYSPLL_FAIL (R18). -/
def execSyspllFail (s : State) : Host.Outcome State Fault Refusal := .next (s.act fun t b => syspllFail t b)

/-- XIN_FAIL (R19). -/
def execXinFail (s : State) : Host.Outcome State Fault Refusal := .next (s.actAny fun t b => xinFail t b)

/-- LOW_WORD_READ (R32). -/
def execLowWordRead (r : Fin 5) (a : Nat) (s : State) : Host.Outcome State Fault Refusal :=
  .next (s.act fun t b => lowWordRead t b r a)

/-- RC_READ (R6). -/
def execRcRead (a : Nat) (s : State) : Host.Outcome State Fault Refusal := .next (s.act fun t b => rcRead t b a)

/-- REGISTER_WRITE (R460). -/
def execRegisterWrite (w : Writer) (a : Nat) (v : Nat) (s : State) : Host.Outcome State Fault Refusal :=
  .next (s.act fun t b => registerWrite t b w a v)

end Sys2Proof.Machine
end

