-- ==== Sys2Proof/Machine/Dispatch.lean ====
section
/-! DEFINITION. The command that each constructor of Instr stands for, arm by arm. -/
namespace Sys2Proof.Machine

def exec (i : Instr) (s : State) : Host.Outcome State Fault Refusal :=
  match i with
  | .tick ins => Sys2Proof.Machine.execTick ins s
  | .beat => Sys2Proof.Machine.execBeat s
  | .round => Sys2Proof.Machine.execRound s
  | .slowRound => Sys2Proof.Machine.execSlowRound s
  | .syspllFail => Sys2Proof.Machine.execSyspllFail s
  | .xinFail => Sys2Proof.Machine.execXinFail s
  | .lowWordRead r a => Sys2Proof.Machine.execLowWordRead r a s
  | .rcRead a => Sys2Proof.Machine.execRcRead a s
  | .registerWrite w a v => Sys2Proof.Machine.execRegisterWrite w a v s
  | .berthOnRequest nn origin => Sys2Proof.Machine.execBerthOnRequest nn origin s
  | .berthOffRequest nn origin => Sys2Proof.Machine.execBerthOffRequest nn origin s
  | .tokenGrant => Sys2Proof.Machine.execTokenGrant s
  | .inrushDone nn => Sys2Proof.Machine.execInrushDone nn s
  | .inrushTimeout nn => Sys2Proof.Machine.execInrushTimeout nn s
  | .soaHoldElapsed nn => Sys2Proof.Machine.execSoaHoldElapsed nn s
  | .feedReverse n uv => Sys2Proof.Machine.execFeedReverse n uv s
  | .feedRearm n => Sys2Proof.Machine.execFeedRearm n s
  | .feedForceOff n v => Sys2Proof.Machine.execFeedForceOff n v s
  | .vnetUv => Sys2Proof.Machine.execVnetUv s
  | .vnetOv => Sys2Proof.Machine.execVnetOv s
  | .fastTrip nn uv => Sys2Proof.Machine.execFastTrip nn uv s
  | .retryWindowClose nn => Sys2Proof.Machine.execRetryWindowClose nn s
  | .heldVnetLow => Sys2Proof.Machine.execHeldVnetLow s
  | .loopEnable n => Sys2Proof.Machine.execLoopEnable n s
  | .loopDisable n => Sys2Proof.Machine.execLoopDisable n s
  | .precheckPass n => Sys2Proof.Machine.execPrecheckPass n s
  | .softstartComplete n => Sys2Proof.Machine.execSoftstartComplete n s
  | .phaseShed n => Sys2Proof.Machine.execPhaseShed n s
  | .burstEntry n => Sys2Proof.Machine.execBurstEntry n s
  | .vselQualify n => Sys2Proof.Machine.execVselQualify n s
  | .profileComplete k => Sys2Proof.Machine.execProfileComplete k s
  | .railOv n => Sys2Proof.Machine.execRailOv n s
  | .railUv n => Sys2Proof.Machine.execRailUv n s
  | .railOc n => Sys2Proof.Machine.execRailOc n s
  | .loopOpenRequest n => Sys2Proof.Machine.execLoopOpenRequest n s
  | .loopRelease n => Sys2Proof.Machine.execLoopRelease n s
  | .loopOpenTime n => Sys2Proof.Machine.execLoopOpenTime n s
  | .coefWrite n w v => Sys2Proof.Machine.execCoefWrite n w v s
  | .structuralTestVerdict pass => Sys2Proof.Machine.execStructuralTestVerdict pass s
  | .buckEnable n => Sys2Proof.Machine.execBuckEnable n s
  | .buckDisable n => Sys2Proof.Machine.execBuckDisable n s
  | .buckSoftstartComplete n => Sys2Proof.Machine.execBuckSoftstartComplete n s
  | .buckSsTimeout n => Sys2Proof.Machine.execBuckSsTimeout n s
  | .buckRailOv n => Sys2Proof.Machine.execBuckRailOv n s
  | .buckRailUv n => Sys2Proof.Machine.execBuckRailUv n s
  | .buckRailOc n => Sys2Proof.Machine.execBuckRailOc n s
  | .buckOpenTime n => Sys2Proof.Machine.execBuckOpenTime n s
  | .buckVinUv n mv => Sys2Proof.Machine.execBuckVinUv n mv s
  | .buckThermal n mc => Sys2Proof.Machine.execBuckThermal n mc s
  | .ldoEnable n => Sys2Proof.Machine.execLdoEnable n s
  | .ldoDisable n => Sys2Proof.Machine.execLdoDisable n s
  | .ldoCodeWrite n v => Sys2Proof.Machine.execLdoCodeWrite n v s
  | .ldoSoftstartComplete n => Sys2Proof.Machine.execLdoSoftstartComplete n s
  | .ldoRailUv n => Sys2Proof.Machine.execLdoRailUv n s
  | .ldoRailOv n => Sys2Proof.Machine.execLdoRailOv n s
  | .ldoRailOc n => Sys2Proof.Machine.execLdoRailOc n s
  | .ldoThermal n mc => Sys2Proof.Machine.execLdoThermal n mc s
  | .adcDisputeDecision => Sys2Proof.Machine.execAdcDisputeDecision s
  | .accLatch k m => Sys2Proof.Machine.execAccLatch k m s
  | .trackerLatch k m => Sys2Proof.Machine.execTrackerLatch k m s
  | .legacyAdcDataRead p => Sys2Proof.Machine.execLegacyAdcDataRead p s
  | .monRailUv nn => Sys2Proof.Machine.execMonRailUv nn s
  | .monRailOv nn => Sys2Proof.Machine.execMonRailOv nn s
  | .monCoreTestOutcome own spare => Sys2Proof.Machine.execMonCoreTestOutcome own spare s
  | .standbySample => Sys2Proof.Machine.execStandbySample s
  | .sensorBrokenClear origin m => Sys2Proof.Machine.execSensorBrokenClear origin m s
  | .dieShutdown => Sys2Proof.Machine.execDieShutdown s
  | .dieShutdownRelease => Sys2Proof.Machine.execDieShutdownRelease s
  | .throttleEnforce k => Sys2Proof.Machine.execThrottleEnforce k s
  | .throttleRelease k => Sys2Proof.Machine.execThrottleRelease k s
  | .seqGrpStart g origin => Sys2Proof.Machine.execSeqGrpStart g origin s
  | .seqGrpStop g => Sys2Proof.Machine.execSeqGrpStop g s
  | .seqGrpAck g => Sys2Proof.Machine.execSeqGrpAck g s
  | .seqGrpAlloffReq g => Sys2Proof.Machine.execSeqGrpAlloffReq g s
  | .pendingStart g => Sys2Proof.Machine.execPendingStart g s
  | .stepDelayExpire g => Sys2Proof.Machine.execStepDelayExpire g s
  | .stepQualified g => Sys2Proof.Machine.execStepQualified g s
  | .seqTimeout g => Sys2Proof.Machine.execSeqTimeout g s
  | .stepTokenTarget g => Sys2Proof.Machine.execStepTokenTarget g s
  | .monDrop o => Sys2Proof.Machine.execMonDrop o s
  | .foghornRelease => Sys2Proof.Machine.execFoghornRelease s
  | .foghornIn => Sys2Proof.Machine.execFoghornIn s
  | .stopStepDelay g => Sys2Proof.Machine.execStopStepDelay g s
  | .stopStepOff g => Sys2Proof.Machine.execStopStepOff g s
  | .stopStepTimeout g => Sys2Proof.Machine.execStopStepTimeout g s
  | .keepTakeover mv => Sys2Proof.Machine.execKeepTakeover mv s
  | .keepReverseOff uv => Sys2Proof.Machine.execKeepReverseOff uv s
  | .keepResume uv => Sys2Proof.Machine.execKeepResume uv s
  | .keepRearm => Sys2Proof.Machine.execKeepRearm s
  | .kbusUv => Sys2Proof.Machine.execKbusUv s
  | .dwellComplete => Sys2Proof.Machine.execDwellComplete s
  | .shutdownTimerExpire => Sys2Proof.Machine.execShutdownTimerExpire s
  | .chgEnable => Sys2Proof.Machine.execChgEnable s
  | .chgDisable => Sys2Proof.Machine.execChgDisable s
  | .chgSuspend => Sys2Proof.Machine.execChgSuspend s
  | .chgResume => Sys2Proof.Machine.execChgResume s
  | .chgCellOv c => Sys2Proof.Machine.execChgCellOv c s
  | .chgOc => Sys2Proof.Machine.execChgOc s
  | .chgPeakOc ma => Sys2Proof.Machine.execChgPeakOc ma s
  | .chgTimer => Sys2Proof.Machine.execChgTimer s
  | .chgPackTemp => Sys2Proof.Machine.execChgPackTemp s
  | .chgFaultFlagsRead => Sys2Proof.Machine.execChgFaultFlagsRead s
  | .packRemoval jump => Sys2Proof.Machine.execPackRemoval jump s
  | .packPresent => Sys2Proof.Machine.execPackPresent s
  | .authPeriodic => Sys2Proof.Machine.execAuthPeriodic s
  | .authRead reply => Sys2Proof.Machine.execAuthRead reply s
  | .authTimeout => Sys2Proof.Machine.execAuthTimeout s
  | .gaugeRestAnchor => Sys2Proof.Machine.execGaugeRestAnchor s
  | .gaugeEod => Sys2Proof.Machine.execGaugeEod s
  | .gaugeEoc => Sys2Proof.Machine.execGaugeEoc s
  | .gaugeNorest => Sys2Proof.Machine.execGaugeNorest s
  | .restWindowTimer => Sys2Proof.Machine.execRestWindowTimer s
  | .gaugeSaveLatch => Sys2Proof.Machine.execGaugeSaveLatch s
  | .gaugeCommit crc => Sys2Proof.Machine.execGaugeCommit crc s
  | .bivSourceSwitch vbiv => Sys2Proof.Machine.execBivSourceSwitch vbiv s
  | .bivDomainReset => Sys2Proof.Machine.execBivDomainReset s
  | .rtcSecond => Sys2Proof.Machine.execRtcSecond s
  | .trimWindow => Sys2Proof.Machine.execTrimWindow s
  | .rtcStageWrite w k v => Sys2Proof.Machine.execRtcStageWrite w k v s
  | .rtcSet w => Sys2Proof.Machine.execRtcSet w s
  | .rtcCommit => Sys2Proof.Machine.execRtcCommit s
  | .rtcReadFreeze r k => Sys2Proof.Machine.execRtcReadFreeze r k s
  | .rtcShadowRelease r => Sys2Proof.Machine.execRtcShadowRelease r s
  | .measStart => Sys2Proof.Machine.execMeasStart s
  | .measDone => Sys2Proof.Machine.execMeasDone s
  | .oscStopped => Sys2Proof.Machine.execOscStopped s
  | .oscRestart => Sys2Proof.Machine.execOscRestart s
  | .switchStampClear => Sys2Proof.Machine.execSwitchStampClear s
  | .wakeInAssert => Sys2Proof.Machine.execWakeInAssert s
  | .wakeInRelease => Sys2Proof.Machine.execWakeInRelease s
  | .hostWake => Sys2Proof.Machine.execHostWake s
  | .wake => Sys2Proof.Machine.execWake s
  | .standbyRequest => Sys2Proof.Machine.execStandbyRequest s
  | .offRequest => Sys2Proof.Machine.execOffRequest s
  | .keeperRestart => Sys2Proof.Machine.execKeeperRestart s
  | .sysRestartWrite => Sys2Proof.Machine.execSysRestartWrite s
  | .safeExit w => Sys2Proof.Machine.execSafeExit w s
  | .faultStatusClear w which v => Sys2Proof.Machine.execFaultStatusClear w which v s
  | .lanternToggle => Sys2Proof.Machine.execLanternToggle s
  | .tickStall => Sys2Proof.Machine.execTickStall s
  | .wdLock w => Sys2Proof.Machine.execWdLock w s
  | .wdCheckin w k => Sys2Proof.Machine.execWdCheckin w k s
  | .wdKeyA w => Sys2Proof.Machine.execWdKeyA w s
  | .wdKeyB w => Sys2Proof.Machine.execWdKeyB w s
  | .wdKeyOther w => Sys2Proof.Machine.execWdKeyOther w s
  | .wdPeriodExpire => Sys2Proof.Machine.execWdPeriodExpire s
  | .eccTestGo w => Sys2Proof.Machine.execEccTestGo w s
  | .eccTestRead w => Sys2Proof.Machine.execEccTestRead w s
  | .scrubGo => Sys2Proof.Machine.execScrubGo s
  | .scrubWordRead => Sys2Proof.Machine.execScrubWordRead s
  | .scrubAbort => Sys2Proof.Machine.execScrubAbort s
  | .otpCmdProgram w key => Sys2Proof.Machine.execOtpCmdProgram w key s
  | .otpCmdIncrement w key => Sys2Proof.Machine.execOtpCmdIncrement w key s
  | .otpCmdFinalise w key => Sys2Proof.Machine.execOtpCmdFinalise w key s
  | .otpCommandDone => Sys2Proof.Machine.execOtpCommandDone s
  | .logRecordWrite => Sys2Proof.Machine.execLogRecordWrite s
  | .logWriteDone => Sys2Proof.Machine.execLogWriteDone s
  | .logEraseDone => Sys2Proof.Machine.execLogEraseDone s
  | .logSnap tag port => Sys2Proof.Machine.execLogSnap tag port s
  | .powerLoss => Sys2Proof.Machine.execPowerLoss s
  | .holdupLow => Sys2Proof.Machine.execHoldupLow s
  | .holdupComplete => Sys2Proof.Machine.execHoldupComplete s
  | .vholdBrownout => Sys2Proof.Machine.execVholdBrownout s
  | .powerup => Sys2Proof.Machine.execPowerup s
  | .powerupPllTimeout => Sys2Proof.Machine.execPowerupPllTimeout s
  | .nrstIn => Sys2Proof.Machine.execNrstIn s
  | .vioLoss => Sys2Proof.Machine.execVioLoss s
  | .boot k => Sys2Proof.Machine.execBoot k s
  | .pilotReady => Sys2Proof.Machine.execPilotReady s
  | .slotEraseDone => Sys2Proof.Machine.execSlotEraseDone s
  | .spiWriteFrame l => Sys2Proof.Machine.execSpiWriteFrame l s
  | .spiReadFrame l => Sys2Proof.Machine.execSpiReadFrame l s
  | .twWrite p l stop => Sys2Proof.Machine.execTwWrite p l stop s
  | .twRead p l => Sys2Proof.Machine.execTwRead p l s
  | .twSclTimeout p => Sys2Proof.Machine.execTwSclTimeout p s
  | .twNotify => Sys2Proof.Machine.execTwNotify s
  | .twArbitrationLost p atStop => Sys2Proof.Machine.execTwArbitrationLost p atStop s
  | .twBusClear p n => Sys2Proof.Machine.execTwBusClear p n s
  | .quaySubmit p q => Sys2Proof.Machine.execQuaySubmit p q s
  | .quayCopyDone p q => Sys2Proof.Machine.execQuayCopyDone p q s
  | .qpTake => Sys2Proof.Machine.execQpTake s
  | .qpPost => Sys2Proof.Machine.execQpPost s
  | .responseEnter p q => Sys2Proof.Machine.execResponseEnter p q s
  | .quayAck p q => Sys2Proof.Machine.execQuayAck p q s
  | .quayExecTimeout p q => Sys2Proof.Machine.execQuayExecTimeout p q s
  | .leaseExpire e => Sys2Proof.Machine.execLeaseExpire e s
  | .hawserFrameRelay side l resid => Sys2Proof.Machine.execHawserFrameRelay side l resid s
  | .hawserCarrierLoss side => Sys2Proof.Machine.execHawserCarrierLoss side s
  | .hawserUnwrap side => Sys2Proof.Machine.execHawserUnwrap side s
  | .beaconSend => Sys2Proof.Machine.execBeaconSend s
  | .beaconReceive side l => Sys2Proof.Machine.execBeaconReceive side l s
  | .tickFrameReceive side l arr => Sys2Proof.Machine.execTickFrameReceive side l arr s
  | .linkFrame side l delay => Sys2Proof.Machine.execLinkFrame side l delay s
  | .faultFrameReceive side l => Sys2Proof.Machine.execFaultFrameReceive side l s
  | .tokenFrameReceive side l => Sys2Proof.Machine.execTokenFrameReceive side l s
  | .relayReqReceive side l => Sys2Proof.Machine.execRelayReqReceive side l s
  | .relayRspReceive side l => Sys2Proof.Machine.execRelayRspReceive side l s
  | .hwRelayTimeout => Sys2Proof.Machine.execHwRelayTimeout s
  | .relayHoldExpire p => Sys2Proof.Machine.execRelayHoldExpire p s
  | .sysInfo => Sys2Proof.Machine.execSysInfo s
  | .sysTime => Sys2Proof.Machine.execSysTime s
  | .sysRestart => Sys2Proof.Machine.execSysRestart s
  | .sysPower => Sys2Proof.Machine.execSysPower s
  | .sysSafeExit => Sys2Proof.Machine.execSysSafeExit s
  | .leaseGrant => Sys2Proof.Machine.execLeaseGrant s
  | .leaseRelease => Sys2Proof.Machine.execLeaseRelease s
  | .leaseList => Sys2Proof.Machine.execLeaseList s
  | .berthSet => Sys2Proof.Machine.execBerthSet s
  | .berthStatus => Sys2Proof.Machine.execBerthStatus s
  | .berthMaps => Sys2Proof.Machine.execBerthMaps s
  | .berthFt => Sys2Proof.Machine.execBerthFt s
  | .feedStatus => Sys2Proof.Machine.execFeedStatus s
  | .feedForce => Sys2Proof.Machine.execFeedForce s
  | .loopSet => Sys2Proof.Machine.execLoopSet s
  | .loopVset => Sys2Proof.Machine.execLoopVset s
  | .loopForce => Sys2Proof.Machine.execLoopForce s
  | .loopOpen => Sys2Proof.Machine.execLoopOpen s
  | .loopRetune => Sys2Proof.Machine.execLoopRetune s
  | .loopStatus => Sys2Proof.Machine.execLoopStatus s
  | .iregSet => Sys2Proof.Machine.execIregSet s
  | .iregStatus => Sys2Proof.Machine.execIregStatus s
  | .seqStart => Sys2Proof.Machine.execSeqStart s
  | .seqStop => Sys2Proof.Machine.execSeqStop s
  | .seqAck => Sys2Proof.Machine.execSeqAck s
  | .seqAlloff => Sys2Proof.Machine.execSeqAlloff s
  | .seqStatus => Sys2Proof.Machine.execSeqStatus s
  | .telAcc => Sys2Proof.Machine.execTelAcc s
  | .telTrk => Sys2Proof.Machine.execTelTrk s
  | .telFrame => Sys2Proof.Machine.execTelFrame s
  | .chgSet => Sys2Proof.Machine.execChgSet s
  | .chgStatus => Sys2Proof.Machine.execChgStatus s
  | .packAuth => Sys2Proof.Machine.execPackAuth s
  | .gaugeStatus => Sys2Proof.Machine.execGaugeStatus s
  | .gaugeSave => Sys2Proof.Machine.execGaugeSave s
  | .gaugeRestore => Sys2Proof.Machine.execGaugeRestore s
  | .bivTime => Sys2Proof.Machine.execBivTime s
  | .bivSetTime => Sys2Proof.Machine.execBivSetTime s
  | .bivAlarm => Sys2Proof.Machine.execBivAlarm s
  | .bivTrim => Sys2Proof.Machine.execBivTrim s
  | .bivUser => Sys2Proof.Machine.execBivUser s
  | .bivWakeout => Sys2Proof.Machine.execBivWakeout s
  | .faultGet => Sys2Proof.Machine.execFaultGet s
  | .faultClear => Sys2Proof.Machine.execFaultClear s
  | .logInfo => Sys2Proof.Machine.execLogInfo s
  | .logRead => Sys2Proof.Machine.execLogRead s
  | .logSnapshot => Sys2Proof.Machine.execLogSnapshot s
  | .logClear => Sys2Proof.Machine.execLogClear s
  | .hwStatus => Sys2Proof.Machine.execHwStatus s
  | .hwRelay => Sys2Proof.Machine.execHwRelay s
  | .hwRelayMore => Sys2Proof.Machine.execHwRelayMore s
  | .cfgInfo => Sys2Proof.Machine.execCfgInfo s
  | .cfgBegin => Sys2Proof.Machine.execCfgBegin s
  | .cfgChunk => Sys2Proof.Machine.execCfgChunk s
  | .cfgEnd => Sys2Proof.Machine.execCfgEnd s
  | .fwInfo => Sys2Proof.Machine.execFwInfo s
  | .fwBegin => Sys2Proof.Machine.execFwBegin s
  | .fwChunk => Sys2Proof.Machine.execFwChunk s
  | .fwEnd => Sys2Proof.Machine.execFwEnd s
  | .fwActivate => Sys2Proof.Machine.execFwActivate s
  | .otpRead => Sys2Proof.Machine.execOtpRead s
  | .otpProgram => Sys2Proof.Machine.execOtpProgram s
  | .otpPatch => Sys2Proof.Machine.execOtpPatch s
  | .otpFinalise => Sys2Proof.Machine.execOtpFinalise s
  | .otpTransfer => Sys2Proof.Machine.execOtpTransfer s
  | .otpCounters => Sys2Proof.Machine.execOtpCounters s
  | .regRead => Sys2Proof.Machine.execRegRead s
  | .regWrite => Sys2Proof.Machine.execRegWrite s
  | .regModify => Sys2Proof.Machine.execRegModify s
  | .pilotException kind a => Sys2Proof.Machine.execPilotException kind a s
  | .notifyRetry => Sys2Proof.Machine.execNotifyRetry s
  | .twTransferRepeat p => Sys2Proof.Machine.execTwTransferRepeat p s
  | .twHungRetry p n => Sys2Proof.Machine.execTwHungRetry p n s
  | .testPortInstruction k => Sys2Proof.Machine.execTestPortInstruction k s
  | .sysDeferredWrite => Sys2Proof.Machine.execSysDeferredWrite s

end Sys2Proof.Machine
end

