-- ==== Sys2Proof/Machine/Pins.lean ====
section
/-! DEFINITION. The output pins as functions of the block (table Pin states, R60, R101, R134, R138, R215, R236, R310, R389): what
the device drives, and for a gate or switch how it drives it. No command reads them back. -/
namespace Sys2Proof.Machine

/-- How a digital output stands: high impedance or released, its pull-down alone, or driven. -/
inductive Level where
  | z | pulledDown | low | high
  deriving DecidableEq, Repr

/-- The device is powered and its outputs are past their reset level: BOOT, READY, RUN or SAFE. -/
def active (b : Blk) : Bool := running b

/-- EN_nn (table Pin states): the pull-down alone until step 5 of the boot order and without the core clock, then the level that
POL of its output gives. -/
def enPin (b : Blk) (n : Nat) : Level :=
  if !active b ∨ (b.dev = .boot ∧ b.bootStep < 5) then .pulledDown
  else if bit b.seq.en n == b.on SEQ_OUT_CFG.POL (54 + n) then .high
  else .low

/-- FOGHORN, THROTTLE_N and ATTN_N: open drain; FOGHORN is released outside READY and RUN (R236, table Pin states). -/
def foghornPin (b : Blk) : Level := if (b.dev == .ready || b.dev == .run) && b.seq.fhDrv then .low else .z
def throttlePin (b : Blk) : Level := if (b.dev == .ready || b.dev == .run || b.dev == .safe) && throttleLow b then .low else .z
def attnPinLevel (b : Blk) : Level := if active b && b.attnPin then .low else .z

/-- The columns of the table Pin states, and READY or RUN. -/
inductive PinCol where
  | unpowered | reset | boot | safe | down | run
  deriving DecidableEq, Repr

/-- The column that holds: before POWERUP begins, below the start threshold, the device counts as unpowered. -/
def pinCol (b : Blk) : PinCol := match b.dev with
  | .powerup => if b.up.isNone && !supplyUp b then .unpowered else .reset
  | .boot => .boot
  | .safe => .safe
  | .standby | .off => .down
  | .ready | .run => .run

/-- LANTERN: the passive pull-down alone while unpowered, in STANDBY and in device OFF, low in reset and BOOT, toggled in READY and RUN,
static in SAFE (R310). -/
def lanternPin (b : Blk) : Level := match pinCol b with
  | .unpowered | .down => .pulledDown
  | .reset | .boot => .low
  | .safe | .run => if b.lantern then .high else .low

/-- SDO at a level of CSN, and TDO with the test port shifting or not: what the device drives, if it drives (R390, table Pin states). -/
def sdoDriven (b : Blk) (csn : Bool) : Bool := active b && !csn
def tdoDriven (b : Blk) (shifting : Bool) : Bool := active b && shifting

/-- The internal resistor of a pin that stands on it: none, to GND, or up. -/
inductive Pull where
  | none | down | up
  deriving DecidableEq, Repr

/-- The resistors of PACK_DET (200 kΩ to VKB), VSEL_nn (100 kΩ), NRST_IN, TMS and TDI (50 kΩ to VIO), TEST_MODE and TCK (50 kΩ). -/
def packDetPull (b : Blk) : Pull := match pinCol b with
  | .unpowered | .down => .none
  | _ => .up
def vselPull (_ : Blk) : Pull := .down
def nrstPull (b : Blk) : Pull := match pinCol b with
  | .unpowered | .down => .none
  | _ => .up
def tmsTdiPull (_ : Blk) : Pull := .up
def testTckPull (_ : Blk) : Pull := .down

/-- REFOUT is driven, and the analog inputs take their signals. -/
def refoutDriven (b : Blk) : Bool := active b
def analogIn (b : Blk) : Bool := active b

/-- XIN and XOUT: high impedance, oscillating, stopped. -/
inductive Osc where
  | z | runs | stopped
  deriving DecidableEq, Repr
def xinPin (b : Blk) : Osc := match pinCol b with
  | .unpowered => .z
  | .down => .stopped
  | _ => .runs

/-- A ring side transmits, with its carrier always present; none on a side that is not fitted (R406, R440, table Pin states). -/
def hwCarrier (b : Blk) (side : Nat) : Bool := active b && sideFit b side

/-- VCP: off, rising from reset on, up. -/
inductive Vcp where
  | z | rising | up | off
  deriving DecidableEq, Repr
def vcpPin (b : Blk) : Vcp := match pinCol b with
  | .unpowered => .z
  | .reset => .rising
  | .down => .off
  | _ => .up

/-- The charging of VHOLD: the voltage in mV it is charged to and, below 12.0 V, the current limit in mA; isolated in a hold-up, not charged
before BOOT (R356, R450). -/
def vholdCharge (b : Blk) : Option (Nat × Nat) :=
  if active b ∧ b.holdup = none ∧ vholdMv b < 14000 then some (14000, 250) else none

/-- WAKE_OUT, of the Bivouac domain (R290). -/
def wakeOutPin (b : Blk) : Bool := b.on BIV_WAKEOUT.PIN 0

/-- The levels of the table PWM_pp levels. -/
inductive Pwm where
  | high | low | mid
  deriving DecidableEq, Repr

/-- PWM_pp `u` DPWM steps after the edge of a tick (R101, R103, R106): the pulse under way up to its off-edge, then a pulse from each
on-edge that is not skipped; MID for a phase without an on-time, after the end of a burst, before the first on-edge of a phase that
returns and from the on-edge of a phase that was shed. -/
def pwmPin (b : Blk) (p u : Nat) : Pwm :=
  let n := b.f PHASE_CFG.LOOP p
  let x := b.ph p
  let per := b.f LOOP_PER.PER n
  let r := edgeIn b n p
  match x.ton with
  | none => .mid
  | some ton =>
    if !active b then .mid
    else if b.lst n = lBURST ∧ (b.lp n).burstLeft * 40 ≤ u then .mid
    else if u < r * 40 then
      if x.wait then .mid else if x.high ∧ (per - r) * 40 + u < ton then .high else .low
    else if x.shed then .mid
    else
      let v := u - r * 40
      if (x.skip ∧ v < per * 40) ∨ ton ≤ v % (per * 40) then .low else .high

/-- How an output switch node or LDO output stands: at high impedance, discharged through 100 Ω, or working. -/
inductive Drive where
  | z | discharged | working
  deriving DecidableEq, Repr

/-- IBSW_n and LDOOUT_n: working while on, discharged while DISABLED with DISCH = 1 from READY on (table Pin states, table Buck
transitions). -/
def outDrive (b : Blk) (st : Nat) (disch : Bool) : Drive :=
  if !active b then .z
  else if iRunning st then .working
  else if st = iDISABLED ∧ disch ∧ b.dev ≠ .boot then .discharged
  else .z
def buckDrive (b : Blk) (n : Nat) : Drive := outDrive b (b.ist n) (b.on IB_CFG.DISCH n)
def ldoDrive (b : Blk) (n : Nat) : Drive := outDrive b (b.dst n) (b.on LDO_CFG.DISCH n)

/-- The peak and the negative limit of a buck's switch current in mA, by hardware (R138). -/
def buckPeakMa (n : Nat) : Rat := if n < 4 then 4500 else 2250
def buckNegMa (n : Nat) : Rat := if n < 4 then -1500 else -750

/-- The on-edge of a buck in ns after the tick edge (R131). -/
def buckOnEdge (b : Blk) (n : Nat) : Rat := (b.f IB_CFG.PHASE n : Rat) * 125 / 2

/-- The pulse of the running tick: the peak current in mA at which the comparator ends it, and its on-time in ns from the on-edge; none
in a tick whose pulse is skipped, since the command is below the minimum peak or the on-time ends within 30 ns (R132, R133, R138). -/
def buckPulse (b : Blk) (n : Nat) : Option (Rat × Int) :=
  let on := b.sig (.buckPeakAt n)
  if buckDrive b n = .working ∧ (b.bk n).skipped = false ∧ 30 < on then some (min (b.bk n).icmd (buckPeakMa n), on) else none

/-- Low-side conduction goes on past zero current (R134). -/
def buckForced (b : Blk) (n : Nat) : Bool := buckDrive b n == .working && b.on IB_CFG.FCCM n && b.ist n != iSOFTSTART

/-- The end of low-side conduction after a pulse, in ns from the on-edge: at zero current; forced, at the negative limit or else at the
next on-edge 500 ns later (R131, R134). -/
def buckLowEnd (b : Blk) (n : Nat) : Option Int :=
  (buckPulse b n).map fun p =>
    let e := if buckForced b n then b.sig (.buckNegAt n) else b.sig (.buckZeroAt n)
    if p.2 < e then min e 500 else 500

/-- CHSW: working while the charger switches, in READY and RUN. -/
def chswDrive (b : Blk) : Drive := if pinCol b = .run ∧ b.chg.run then .working else .z

/-- How a berth gate is held: as its slice drives it, by the passive 100 kΩ alone, or by the fast sink and then passively. -/
inductive GatePin where
  | driven (g : Gate) | passive | sunk
  deriving DecidableEq, Repr

/-- The gate of a berth switch (R52, R95, table Pin states). -/
def berthGate (b : Blk) (nn : Nat) : GatePin := match pinCol b with
  | .unpowered | .down => .passive
  | .reset => .sunk
  | _ => .driven (b.brt nn).gate

/-- The gate of KEEP at ACT (R240, table Pin states): off while unpowered and in OFF. -/
def kgateActs (b : Blk) : Bool := pinCol b != .unpowered && b.kst != kOFF

/-- The forward voltage in mV that a feed and KEEP regulate to (R58, R60, R242, table Pin states); none while the gate is off. -/
def feedTarget (b : Blk) (n : Nat) : Option Nat :=
  if pinCol b = .unpowered ∨ pinCol b = .down ∨ (b.fd n).blocked ∨ b.f FEED_STATUS.STATE n = 3 then none
  else some (b.f FEED_CFG.FWD_MV n)
def keepTarget (b : Blk) : Option Nat := if kgateActs b ∧ keepGate b then some (b.f KEEP_CFG.FWD_MV 0) else none

/-- The gain of a berth's sense amplifier. -/
def senseGain (b : Blk) (nn : Nat) : Nat := if b.on BERTH_CFG.GAIN nn then 20 else 10

/-- The reference pin that a phase of a loop is sensed against: IREF_A or IREF_B (R102). -/
def irefB (b : Blk) (n : Nat) : Bool := b.on LOOP_CFG.IREF_SEL n

end Sys2Proof.Machine
end

