-- ==== Sys2Proof/Safety.lean ====
section
/-! DEFINITION. The notions that statements about the device are made of: how a command completes, what it leaves as it was, when
an event finds its object free, and what a safe run is. -/
namespace Sys2Proof.Machine

/-- The command answers a next state with queue, tick counter and memories as they were, and `P` holds of its block. -/
def Completes (c : Instr) (s : State) (P : Blk → Prop) : Prop :=
  ∃ t : State, exec c s = .next t ∧ t.pending = s.pending ∧ t.tick = s.tick ∧ t.mem = s.mem ∧ P t.b

/-- The command answers a next state with queue and tick counter as they were, and `P` holds of its memories and block. -/
def CompletesX (c : Instr) (s : State) (P : Mem → Blk → Prop) : Prop :=
  ∃ t : State, exec c s = .next t ∧ t.pending = s.pending ∧ t.tick = s.tick ∧ P t.mem t.b

/-- The command answers a next state that is the state it found. -/
def NoEffect (c : Instr) (s : State) : Prop := exec c s = .next s

/-- Every register field but those of `l` reads as before. The 2^32 addresses end at bit address 2^35; what `Blk.note` keeps of R6 lies
above 2^40. -/
def Same (b b' : Blk) (l : List (Fld × Nat)) : Prop :=
  ∀ (G : Fld) (j : Nat), G.key j < 2 ^ 40 → (∀ p ∈ l, p.1.key p.2 ≠ G.key j) → b'.f G j = b.f G j

/-- The fields of `l` of every instance below `n`. -/
def each (n : Nat) (l : List Fld) : List (Fld × Nat) := (List.range n).flatMap fun i => l.map fun F => (F, i)

/-- No event has acted on the object in the running tick (R38, R122, R139). -/
abbrev Fresh (s : State) (o : Obj) : Prop := (Tab.get s.b.evts {} o.key).tk ≠ s.tick + 1

/-- An error line of source `src` and DETAIL `detail`, raised in tick `t`, waits for the collector. -/
def Raised (b : Blk) (t src detail : Nat) (o : Obj := .none) : Prop := Line.mk src detail o t ∈ b.lines

/-- A buck stopped by a fault of `cause` from source `src` (R136, R137). -/
def BuckFaulted (s : State) (n cause src : Nat) (b' : Blk) : Prop :=
  b'.ist n = iFAULTED ∧ b'.f IB_STATE.CAUSE n = cause ∧ b'.f IB_ICMD.VALUE n = 0 ∧ Raised b' s.tick src (8 + n) (.buck n) ∧
  Same s.b b' [(IB_STATE.STATE, n), (IB_STATE.CAUSE, n), (IB_STATE.ILIM_ACT, n), (IB_ICMD.VALUE, n)] ∧
  b' = { s.b with regs := b'.regs, buck := b'.buck, evts := b'.evts, lines := b'.lines }

/-- An LDO stopped by a fault of `cause` from source `src` (R142). -/
def LdoFaulted (s : State) (n cause src : Nat) (b' : Blk) : Prop :=
  b'.dst n = iFAULTED ∧ b'.f LDO_STATE.CAUSE n = cause ∧ Raised b' s.tick src (16 + n) (.ldo n) ∧
  Same s.b b' [(LDO_STATE.STATE, n), (LDO_STATE.CAUSE, n)] ∧
  b' = { s.b with regs := b'.regs, ldo := b'.ldo, evts := b'.evts, lines := b'.lines }

/-- A start of group `g` is permitted in the running tick (R233). -/
abbrev MayStart (s : State) (g : Nat) : Prop :=
  s.b.dev = .run ∧ s.b.devEdge = .run ∧ s.b.gst g = gIDLE ∧ (∀ e ∈ (s.b.gr g).idleAt, e + tOff s.b g ≤ s.tick + 1) ∧
  (s.b.f SEQ_GRP_CFG.DOMAIN g = 1 → s.b.f SEQ_DOMAIN.ALLOFF_LINE 0 ≠ 1 ∧ s.b.f SEQ_DOMAIN.FH_LEVEL 0 = 1)

/-- The charger stopped by a limit: flag `j`, CAUSE and source (R254, R256, R257). -/
def ChgFaulted (s : State) (j cause src : Nat) (b' : Blk) : Prop :=
  b'.cst = cFAULT ∧ b'.f CHG_CTL.EN 0 = 0 ∧ b'.f CHG_STATE.CAUSE 0 = cause ∧ bit (b'.f CHG_FAULT_FLAGS.FLAGS 0) j = true ∧
  b'.chg.run = false ∧ Raised b' s.tick src 0xFFFF ∧ (∀ p : Fin 4, bit (Tab.get b'.attn 0 p) 2 = true) ∧
  Same s.b b' [(CHG_STATE.STATE, 0), (CHG_CTL.EN, 0), (CHG_STATE.CAUSE, 0), (CHG_FAULT_FLAGS.FLAGS, 0)]

/-- Addresses whose clearing or latching read has behaviour of its own: 64-bit pairs, the calendar set, the charger's flags and the
gauge's saved block (R32, R257, R269, R282). -/
def ownRead (a : Nat) : Bool :=
  a == 0x40000000 || a == 0x40000004 || onPair 0 a || onPair 4 a || (decide (0x40100000 ≤ a) && decide (a < 0x40100020)) ||
  a == 0x400E0060 || a == 0x400F0180

/-- The fields a start of the Watchman sets (R313). -/
def wdStartFields : List Fld :=
  [WD_CFG.LOCKED, WD_STATE.MODE, WD_STATUS.SEEN, WD_STATUS.DOUBLE, WD_STATE.KEYA_PEND]

/-- The message held open asks for opcode `code`: nothing has answered it, its CRC and FLAGS are right, its payload has `len` bytes, its
port has at least class `cls`, and the device is not in recovery (R420). -/
abbrev Asked (s : State) (r : Req) (code len cls : Nat) : Prop :=
  s.b.msg = some r ∧ s.b.answer = none ∧ s.b.wait = none ∧ quaysOpenNow s.b = true ∧ msgOp r.msg = code ∧ msgCrcOk r.msg = true ∧
  msgFlags r.msg = 0 ∧ msgLen r.msg = len ∧ cls ≤ portClass s.b r.port ∧ s.b.f BOOT_STATUS.RECOVERY 0 = 0

/-- The lease check of the request passes (R403). -/
abbrev Leased (s : State) (r : Req) (kind idx : Nat) : Prop := leaseCheck s.b r.port kind idx (msgLease r.msg) r.edge = sOK

/-- The response of status `st` with payload `pay` has been built. -/
def Answered (b' : Blk) (r : Req) (st : Nat) (pay : List Nat) : Prop := b'.answer = some (respond r.msg 0x80 st pay)

/-- The command answers OK with a payload for which `P` holds, and changes nothing else. -/
def Shows (c : Instr) (s : State) (r : Req) (P : List Nat → Prop) : Prop :=
  Completes c s fun b' => ∃ pay, P pay ∧ b' = { s.b with answer := some (respond r.msg 0x80 sOK pay) }

/-- The command answers a status without payload and changes nothing else. -/
def Refuses (c : Instr) (s : State) (r : Req) (st : Nat) : Prop :=
  Completes c s fun b' => b' = { s.b with answer := some (respond r.msg 0x80 st []) }

/-- The opcodes whose refusals carry no payload, with the commands that execute them. -/
def plainOpcodes : List (Instr × Nat) :=
  [(.sysInfo, 0), (.sysTime, 1), (.sysRestart, 2), (.sysPower, 3), (.sysSafeExit, 4), (.leaseGrant, 0x100), (.leaseRelease, 0x101),
   (.leaseList, 0x102), (.berthStatus, 0x201), (.berthMaps, 0x202), (.berthFt, 0x203), (.feedStatus, 0x300), (.feedForce, 0x301),
   (.loopSet, 0x400), (.loopVset, 0x401), (.loopForce, 0x402), (.loopOpen, 0x403), (.loopRetune, 0x404), (.loopStatus, 0x405),
   (.iregSet, 0x500), (.iregStatus, 0x501), (.seqStart, 0x600), (.seqStop, 0x601), (.seqAck, 0x602), (.seqAlloff, 0x603),
   (.seqStatus, 0x604), (.telAcc, 0x700), (.telTrk, 0x701), (.telFrame, 0x702)] ++
  [(.chgSet, 0x800), (.chgStatus, 0x801), (.packAuth, 0x802), (.gaugeStatus, 0x900), (.gaugeSave, 0x901), (.bivTime, 0xA00),
   (.bivSetTime, 0xA01), (.bivAlarm, 0xA02), (.bivTrim, 0xA03), (.bivUser, 0xA04), (.bivWakeout, 0xA05), (.faultGet, 0xB00),
   (.faultClear, 0xB01), (.logInfo, 0xC00), (.logRead, 0xC01), (.logSnapshot, 0xC02), (.logClear, 0xC03), (.hwStatus, 0x1100),
   (.hwRelay, 0x1101), (.hwRelayMore, 0x1102), (.cfgInfo, 0xD00), (.cfgBegin, 0xD01), (.cfgChunk, 0xD02), (.fwInfo, 0xE00),
   (.fwBegin, 0xE01), (.fwChunk, 0xE02), (.fwActivate, 0xE04), (.otpRead, 0xF00), (.otpCounters, 0xF05), (.regRead, 0x1000),
   (.regModify, 0x1002)]

/-- The opcodes that always carry their payload (R422). -/
def shortOpcodes : List (Instr × Nat) :=
  [(.berthSet, 0x200), (.gaugeRestore, 0x902), (.cfgEnd, 0xD03), (.fwEnd, 0xE03), (.otpProgram, 0xF01), (.otpPatch, 0xF02),
   (.otpFinalise, 0xF03), (.otpTransfer, 0xF04), (.regWrite, 0x1001)]

/-- The payload length and the port class (0 A, 1 O, 2 W) of the opcodes that have one of each (tables of R419). -/
def opcodeNeeds : List (Nat × Nat × Nat) :=
  [(0, 0, 0), (1, 0, 0), (2, 4, 2), (3, 4, 1), (4, 0, 1), (0x101, 0, 1), (0x102, 0, 0), (0x200, 4, 1), (0x201, 4, 0), (0x202, 0, 0),
   (0x203, 4, 1), (0x300, 4, 0), (0x301, 4, 1), (0x400, 4, 1), (0x401, 8, 1), (0x402, 4, 1), (0x403, 4, 1), (0x404, 36, 1),
   (0x405, 4, 0), (0x500, 8, 1), (0x501, 4, 0), (0x600, 4, 1), (0x601, 4, 1), (0x602, 4, 1), (0x603, 4, 1), (0x604, 4, 0),
   (0x700, 4, 0), (0x701, 4, 0), (0x702, 0, 0)] ++
  [(0x800, 12, 1), (0x801, 0, 0), (0x802, 0, 1), (0x900, 0, 0), (0x901, 0, 0), (0x902, 64, 1), (0xA00, 0, 0), (0xA01, 8, 1),
   (0xA02, 8, 1), (0xA03, 4, 2), (0xA05, 4, 1), (0xB00, 0, 0), (0xB01, 12, 1), (0xC00, 0, 0), (0xC01, 4, 0), (0xC02, 0, 1),
   (0xC03, 64, 2), (0x1100, 0, 0), (0x1102, 4, 1), (0xD00, 0, 0), (0xD01, 8, 2), (0xD03, 0, 2), (0xE00, 0, 0), (0xE01, 4, 2),
   (0xE03, 0, 2), (0xE04, 0, 2), (0xF00, 4, 0), (0xF01, 72, 2), (0xF02, 132, 2), (0xF03, 68, 2), (0xF04, 128, 2), (0xF05, 0, 0),
   (0x1000, 8, 2), (0x1002, 12, 2)]

/-- The commands that act without the core clock: a tick edge sees inputs change; XIN, the ideal diodes, the die shutdown and the pack's
standby comparators; the Bivouac domain; the start and the resets. -/
def clockless : Instr → Bool
  | .tick _ | .xinFail | .feedReverse _ _ | .feedRearm _ | .keepReverseOff _ | .keepResume _ | .standbySample | .dieShutdown
  | .dieShutdownRelease | .bivSourceSwitch _ | .bivDomainReset | .rtcSecond | .trimWindow | .rtcCommit | .rtcShadowRelease _
  | .oscStopped | .oscRestart | .wakeInAssert | .wakeInRelease | .hostWake | .wake | .powerup | .powerupPllTimeout | .nrstIn
  | .vioLoss => true
  | _ => false

/-- What a safe state of the device is: its memories are in their canonical form. Every step of a safe run keeps it. -/
abbrev SafeState (s : State) : Prop := s.mem.wf = true

end Sys2Proof.Machine
end

