-- ==== Sys2Proof/Certificates/Slice0/Obligations.lean ====
section
/-! DEFINITION. The statements about the device: one or more for every family of its commands, and the invariants of its steps. -/
open Sys2Proof Sys2Proof.Machine

/-! Time base and register accesses -/

/-- TICK (R11, R12, R447): while the core is clocked it answers the next state with the tick counter one higher, its memories and block
those of the work of that tick on the inputs of its edge; without the clock the counter stands and the inputs are seen; POWERUP counts
its ticks from the supply's rise above the start threshold, and in device OFF that rise begins POWERUP. The work of a beat, a round and
a slow round (R10, R17, R84): once, at the tick whose number is a multiple of 16, 2,048 and 524,288. A round shows in DOM_OK which
monitored domains kept their tolerance and raises CLOCK for the others; a slow round leaves a twin block with a right CRC, but for one
that a start has still to read (log 140). A beat of a loop that switches (R107, R110): every active phase's trim moves by KSHARE of its
distance from the mean current and loses the mean of the trims, within TRIM_MAX; the beats below SHED_A in a row are counted, in OPEN as
elsewhere, unless ADD_A makes phases return. The loop keeps its state. Clock sources (R18, R19): a failed SYSPLL is replaced by the
spare, counted as used, or raises SPARE_EXHAUSTED; a loss of XIN moves the tick to RCOSC and raises CLOCK, and without the core clock is
only seen. The model's own readings in it: log entries 6, 7, 11, 19, 26, 30, 140, 205. -/
def Obligations.BeatsRoundsAndClockSources : Prop :=
  (∀ (s : State) (ins : List (Sig × Int)) (x : MB),
     x = ins.foldl (latchInput (s.tick + b2n (running s.b))) (s.mem, { s.b with out := [] }) →
     ∃ t : State, exec (.tick ins) s = .next t ∧ t.pending = s.pending ∧
       (running s.b = true → t.tick = s.tick + 1 ∧ (t.mem, t.b) = tickRun (s.tick + 1) x) ∧
       (running s.b = false → t.tick = s.tick ∧ t.mem = x.1) ∧
       (s.b.dev = .standby → t.b = x.2 ∧ ∀ (c : Nat) (v : Int), ins = [(.cal c, v)] →
         t.b.sig (.cal c) = v ∧ t.mem = s.mem ∧ t.b.regs = s.b.regs ∧ t.b.out = []) ∧
       (s.b.dev = .powerup →
         (∀ n : Nat, s.b.up = some n → t.b = { x.2 with up := some (n + 1) }) ∧
         (s.b.up = none → t.b = if supplyUp x.2 = true then startUp x.2 else x.2)) ∧
       (s.b.dev = .off → t.b = if supplyUp s.b = false ∧ supplyUp x.2 = true then startUp x.2 else x.2)) ∧
  (∀ (s : State), running s.b = true →
     (s.tick % 16 = 0 → s.b.beatAt ≠ s.tick + 1 → (∀ n : Fin 8, lSwitching (s.b.lst n) = false) →
       Completes .beat s fun b' => b' = { s.b with beatAt := s.tick + 1 }) ∧
     ((s.tick % 16 ≠ 0 ∨ s.b.beatAt = s.tick + 1) → NoEffect .beat s) ∧
     (s.tick % 2048 = 0 → s.b.roundAt ≠ s.tick + 1 →
       Completes .round s fun b' =>
         ∀ d ∈ [0, 1, 2, 3, 4, 5, 6, 9, 10],
           bit (b'.f CLK_STATUS.DOM_OK 0) d = decide ((s.b.sig (.domainDev d)).natAbs ≤ if d = 9 then 500 else 200) ∧
           ((if d = 9 then 500 else 200) < (s.b.sig (.domainDev d)).natAbs →
             bit (b'.f CLK_FAULT.DOM_FAIL 0) d = true ∧ Raised b' s.tick 9 0xFFFF)) ∧
     ((s.tick % 2048 ≠ 0 ∨ s.b.roundAt = s.tick + 1) → NoEffect .round s) ∧
     (s.tick % 524288 = 0 → s.b.slowAt ≠ s.tick + 1 → twinUnread s.b = false → Completes .slowRound s fun b' => twinBlockOk b' = true) ∧
     ((s.tick % 524288 ≠ 0 ∨ s.b.slowAt = s.tick + 1) → NoEffect .slowRound s)) ∧
  (∀ (s : State) (n : Fin 8), running s.b = true → s.tick % 16 = 0 → s.b.beatAt ≠ s.tick + 1 → lSwitching (s.b.lst n) = true →
     (∀ m : Fin 8, m ≠ n → lSwitching (s.b.lst m) = false) →
     ∀ (act : List Nat) (mean bound c : Rat), act = activePhases s.b n → mean = meanOf (act.map fun p => (s.b.ph p).avg) →
       bound = (min (s.b.f LOOP_SHARE.TRIM_MAX n) 16000 : Nat) →
       c = meanOf (act.map fun p => (s.b.ph p).trim + (s.b.f LOOP_SHARE.KSHARE n : Rat) / 256 * (mean - (s.b.ph p).avg)) →
       Completes .beat s fun b' =>
         (∀ p ∈ act, (b'.ph p).trim =
           clampQ (-bound) bound ((s.b.ph p).trim + (s.b.f LOOP_SHARE.KSHARE n : Rat) / 256 * (mean - (s.b.ph p).avg) - c)) ∧
         ((s.b.lst n = lOPEN ∨ mean ≤ (s.b.f LOOP_SHED.ADD_A n : Rat) / 10) →
           (b'.lp n).shedBeats =
             if mean < (s.b.f LOOP_SHED.SHED_A n : Rat) / 10 ∧ s.b.f LOOP_SHED.SHED_A n ≠ 0 then (s.b.lp n).shedBeats + 1 else 0) ∧
         b'.lst n = s.b.lst n ∧ b'.beatAt = s.tick + 1) ∧
  (∀ (s : State),
     (running s.b = true → s.b.sparesLeft 12 ≠ 0 →
       Completes .syspllFail s fun b' =>
         b'.f CLK_STATUS.PLL_SEL 0 = 1 ∧ Raised b' s.tick 44 0xFFFF ∧ b'.mapOut = s.b.mapOut ++ [(12, 0, s.b.counterDue 12)] ∧
         b'.f CLK_STATUS.TICK_SRC 0 = s.b.f CLK_STATUS.TICK_SRC 0) ∧
     (running s.b = true → s.b.sparesLeft 12 = 0 →
       Completes .syspllFail s fun b' => Raised b' s.tick 12 0xFFFF ∧ Same s.b b' [] ∧ b' = { s.b with lines := b'.lines }) ∧
     (running s.b = true →
       Completes .xinFail s fun b' =>
         b'.f CLK_STATUS.TICK_SRC 0 = 1 ∧ b'.f CLK_STATUS.XIN_OK 0 = 0 ∧ b'.f CLK_FAULT.XIN_LOST 0 = 1 ∧ b'.sig .xin = 0 ∧
         Raised b' s.tick 9 0xFFFF ∧
         Same s.b b' [(CLK_STATUS.TICK_SRC, 0), (CLK_STATUS.XIN_OK, 0), (CLK_FAULT.XIN_LOST, 0)] ∧
         b' = { s.b with regs := b'.regs, env := b'.env, lines := b'.lines }) ∧
     (running s.b = false →
       Completes .xinFail s fun b' => b'.sig .xin = 0 ∧ Same s.b b' [] ∧ b' = { s.b with env := b'.env }))

/-- Reads (R6, R32, R387): the low word of a pair latches its high word for the reader that read it, of a port that answers on its link; a
word of an engine store is read so where its codeword is right. A clearing read returns the register and clears its RC fields alone.
Writes (R31, R388, R460): a write waits for the next edge, behind those made before it; a Pilot write outside every mapped block takes
the exception and changes no register; a port's write of a listed register waits likewise. At the edge the waiting write takes effect,
shown on FEED_VNET_WIN. The model's own readings in it: log entries 6, 8, 31, 36, 40. -/
def Obligations.ReadsLatchAndWritesWait : Prop :=
  (∀ (s : State), running s.b = true →
     (∀ r : Fin 5, (r = 4 ∨ portUp s.b r = true) →
       Completes (.lowWordRead r 0x40000000) s fun b' =>
         Tab.get b'.rd 0 r = s.tick % 2 ^ 32 ∧ hiWord b' r 0x40000004 = s.tick / 2 ^ 32 % 2 ^ 32 ∧ Same s.b b' []) ∧
     (∀ r : Fin 4, portUp s.b r = false → NoEffect (.lowWordRead r.castSucc 0x40000000) s) ∧
     (∀ a : Nat, onPair 0 a = true →
       (∀ a' k : Nat, (a' = a ∨ a' = a + 4) → engKey a' = some k → ∃ v, engDecode s.b k = some (v, false)) →
       Completes (.lowWordRead 4 a) s fun b' =>
         Tab.get b'.rd 0 4 = peekWord s.tick s.b a ∧ hiWord b' 4 (a + 4) = peekWord s.tick s.b (a + 4) % 2 ^ 32 ∧
         (∀ q : Nat, q < 4 → hiWord b' q (a + 4) = hiWord s.b q (a + 4)) ∧ Same s.b b' []) ∧
     (∀ (r : Fin 5) (a : Nat), a ≠ 0x40000000 → onPair 0 a = false → NoEffect (.lowWordRead r a) s) ∧
     (∀ (a : Nat) (d : RegD) (i : Nat) (F : Fld), findReg a = some (d, i) → F ∈ d.flds → F.acc = .rc → ownRead a = false →
       Completes (.rcRead a) s fun b' =>
         b'.f F i = 0 ∧ Tab.get b'.rd 0 4 = peekWord s.tick s.b a ∧
         Same s.b b' ((d.flds.filter fun G => G.acc = .rc).map fun G => (G, i))) ∧
     (∀ a : Nat, findReg a = none → NoEffect (.rcRead a) s)) ∧
  ((∀ (s : State) (a v : Nat), running s.b = true →
     (mapped a = true →
       Completes (.registerWrite .pilot a v) s fun b' =>
         b' = { s.b with staged := s.b.staged ++ [⟨.pilot, pilotOrigin s.b, a, v⟩] }) ∧
     (mapped a = false →
       Completes (.registerWrite .pilot a v) s fun b' => Raised b' s.tick 1 0xFFFF ∧ b' = { s.b with lines := b'.lines }) ∧
     (Completes (.registerWrite .keeper a v) s fun b' => b' = { s.b with staged := s.b.staged ++ [⟨.keeper, 3, a, v⟩] }) ∧
     (Completes (.registerWrite .tender a v) s fun b' => b' = { s.b with staged := s.b.staged ++ [⟨.tender, 3, a, v⟩] }) ∧
     (∀ p : Fin 4, portUp s.b p = true → winListed a = true → a % 4 = 0 →
       Completes (.registerWrite (.port p) a v) s fun b' =>
         b' = { s.b with staged := s.b.staged ++ [⟨.port p, portClass s.b p, winBase + a, v % 2 ^ 32⟩] }) ∧
     (∀ p : Nat, (portUp s.b p = false ∨ winAccepts s.b p a 4 = false) → NoEffect (.registerWrite (.port p) a v) s)) ∧
   (∀ (t : Nat) (m : Mem) (b : Blk) (o v : Nat), b.staged = [⟨.pilot, o, FEED_VNET_WIN.QUAL.base, v⟩] →
     (applyStaged t (m, b)).1 = m ∧ (applyStaged t (m, b)).2.staged = [] ∧
     (applyStaged t (m, b)).2.f FEED_VNET_WIN.QUAL 0 = bits v FEED_VNET_WIN.QUAL.lo FEED_VNET_WIN.QUAL.w))

/-! Berths and feeds -/

/-- BERTH_ON_REQUEST (R37, R87 to R91, R231, R464). A berth in OFF joins the token queue. In PENDING, INRUSH, ON and HELD the request leaves
every register as it was but ON. While nothing may leave off, in SAFE or as a member under the ALL-OFF line, the request changes
nothing. BERTH_OFF_REQUEST (R37, R88, R96): PENDING leaves the queue with its gate off; INRUSH, ON and HELD go OFF with cause CMD_OFF on
the fast sink and release a token; in TRIPPED and LOCKED the 0 is the first half of a toggle, unless one is latched already. The model's
own readings in it: log entries 6, 9, 141. -/
def Obligations.BerthFollowsItsOnBit : Prop :=
  (∀ (s : State) (nn : Fin 32) (o : Fin 4), running s.b = true →
     (s.b.barred (22 + nn) = false → s.b.bst nn = bOFF → Fresh s (.berth nn) →
       Completes (.berthOnRequest nn o) s fun b' =>
         b'.f BERTH_CTL.ON nn = 1 ∧ b'.bst nn = bPENDING ∧ (b'.brt nn).origin = o ∧
         Same s.b b' [(BERTH_CTL.ON, nn), (BERTH_STATE.STATE, nn)] ∧ (∀ j, j ≠ nn → b'.brt j = s.b.brt j) ∧
         b' = { s.b with regs := b'.regs, berth := b'.berth, evts := b'.evts, lines := b'.lines }) ∧
     (s.b.barred (22 + nn) = false → (s.b.bst nn = bPENDING ∨ s.b.bst nn = bINRUSH ∨ s.b.bst nn = bON ∨ s.b.bst nn = bHELD) →
       Completes (.berthOnRequest nn o) s fun b' =>
         b'.f BERTH_CTL.ON nn = 1 ∧ Same s.b b' [(BERTH_CTL.ON, nn)] ∧
         b' = { s.b with regs := b'.regs, berth := b'.berth }) ∧
     ((s.b.safeNow = true ∨ s.b.lineBars (22 + nn) = true) → NoEffect (.berthOnRequest nn o) s)) ∧
  (∀ (s : State) (nn : Fin 32) (o : Fin 4), running s.b = true → Fresh s (.berth nn) →
     (s.b.bst nn = bPENDING →
       Completes (.berthOffRequest nn o) s fun b' =>
         b'.bst nn = bOFF ∧ b'.f BERTH_CTL.ON nn = 0 ∧ (b'.brt nn).gate = .off ∧
         Same s.b b' [(BERTH_CTL.ON, nn), (BERTH_STATE.STATE, nn), (BERTH_STATE.TOKEN, nn)]) ∧
     ((s.b.bst nn = bINRUSH ∨ s.b.bst nn = bON ∨ s.b.bst nn = bHELD) →
       Completes (.berthOffRequest nn o) s fun b' =>
         b'.bst nn = bOFF ∧ b'.f BERTH_CTL.ON nn = 0 ∧ b'.f BERTH_STATE.CAUSE nn = 1 ∧ b'.f BERTH_STATE.TOKEN nn = 7 ∧
         (b'.brt nn).gate = .sink ∧
         Same s.b b' [(BERTH_CTL.ON, nn), (BERTH_STATE.STATE, nn), (BERTH_STATE.TOKEN, nn), (BERTH_STATE.CAUSE, nn)] ∧
         (∀ j, j ≠ nn → b'.brt j = s.b.brt j) ∧
         b' = { s.b with regs := b'.regs, berth := b'.berth, evts := b'.evts, lines := b'.lines }) ∧
     ((s.b.bst nn = bTRIPPED ∨ s.b.bst nn = bLOCKED) →
       Completes (.berthOffRequest nn o) s fun b' =>
         b'.bst nn = s.b.bst nn ∧ (b'.brt nn).zeroAt = some ((s.b.brt nn).zeroAt.getD s.tick) ∧ Same s.b b' [(BERTH_CTL.ON, nn)]) ∧
     (s.b.bst nn = bOFF →
       Completes (.berthOffRequest nn o) s fun b' =>
         b'.f BERTH_CTL.ON nn = 0 ∧ Same s.b b' [(BERTH_CTL.ON, nn)]))

/-- The toggle (R88, R89, R91, R92): a 1 latched at a later edge than the 0 that the trip waited for. Accepted, the berth joins the queue
with its fast-trip latch cleared, RETRY_CNT counts it from TRIPPED and goes to 0 from LOCKED, and a window opens unless one is open.
Refused, REJ_REASON holds the first reason and the berth stays. In both cases the toggle is used up. The waits of a berth:
SOA_HOLD_ELAPSED ends a hold whose ticks are up (R68); RETRY_WINDOW_CLOSE sets RETRY_CNT to 0 (R91). The model's own readings in it: log
entries 6, 10. -/
def Obligations.ToggleReArmsOrIsRefused : Prop :=
  (∀ (s : State) (nn : Fin 32) (o : Fin 4) (z : Nat), running s.b = true → s.b.barred (22 + nn) = false →
     (s.b.brt nn).zeroAt = some z → z < s.tick →
     (s.b.bst nn = bTRIPPED → s.b.dev = .run → (s.b.brt nn).tc < s.b.twRearm nn * 6553600 →
       Completes (.berthOnRequest nn o) s fun b' =>
         b'.bst nn = bPENDING ∧ b'.f BERTH_CTL.ON nn = 1 ∧ b'.f BERTH_PSTAT.FT_LATCH nn = 0 ∧
         b'.f BERTH_PSTAT.RETRY_CNT nn = satInc (2 ^ BERTH_PSTAT.RETRY_CNT.w - 1) (s.b.f BERTH_PSTAT.RETRY_CNT nn) % 2 ^ BERTH_PSTAT.RETRY_CNT.w ∧
         (b'.brt nn).winLeft = some ((s.b.brt nn).winLeft.getD (s.b.f BERTH_PLIM.RETRY_WIN nn * 2000000)) ∧
         (b'.brt nn).zeroAt = none ∧
         Same s.b b' [(BERTH_CTL.ON, nn), (BERTH_STATE.STATE, nn), (BERTH_PSTAT.FT_LATCH, nn), (BERTH_PSTAT.RETRY_CNT, nn)]) ∧
     (s.b.bst nn = bLOCKED → (o = 1 ∨ o = 2) → s.b.dev = .run → (s.b.brt nn).tc < s.b.twRearm nn * 6553600 →
       Completes (.berthOnRequest nn o) s fun b' =>
         b'.bst nn = bPENDING ∧ b'.f BERTH_PSTAT.FT_LATCH nn = 0 ∧ b'.f BERTH_PSTAT.RETRY_CNT nn = 0 ∧
         (b'.brt nn).winLeft = none ∧ b'.lockedMap = clrBit s.b.lockedMap nn) ∧
     ((s.b.bst nn = bTRIPPED ∨ s.b.bst nn = bLOCKED) → toggleReason s.b nn o ≠ 0 →
       Completes (.berthOnRequest nn o) s fun b' =>
         b'.bst nn = s.b.bst nn ∧ b'.f BERTH_PSTAT.REJ_REASON nn = toggleReason s.b nn o ∧ (b'.brt nn).zeroAt = none ∧
         Same s.b b' [(BERTH_CTL.ON, nn), (BERTH_PSTAT.REJ_REASON, nn)]) ∧
     (s.b.bst nn = bLOCKED → (o = 0 ∨ o = 3) → toggleReason s.b nn o = 2) ∧
     (s.b.bst nn = bTRIPPED → s.b.dev ≠ .run → toggleReason s.b nn o = 3) ∧
     (s.b.bst nn = bTRIPPED → s.b.dev = .run → s.b.twRearm nn * 6553600 ≤ (s.b.brt nn).tc → toggleReason s.b nn o = 1)) ∧
  (∀ (s : State) (nn : Fin 32), running s.b = true →
     ((s.b.brt nn).holding = true → (s.b.brt nn).holdLeft = 0 →
       Completes (.soaHoldElapsed nn) s fun b' =>
         b'.brt nn = { s.b.brt nn with holding := false } ∧ (∀ j, j ≠ nn → b'.brt j = s.b.brt j) ∧
         b' = { s.b with berth := b'.berth }) ∧
     (0 < (s.b.brt nn).holdLeft → NoEffect (.soaHoldElapsed nn) s) ∧
     ((s.b.brt nn).winLeft = some 0 →
       Completes (.retryWindowClose nn) s fun b' =>
         b'.f BERTH_PSTAT.RETRY_CNT nn = 0 ∧ (b'.brt nn).winLeft = none ∧ Same s.b b' [(BERTH_PSTAT.RETRY_CNT, nn)] ∧
         b' = { s.b with regs := b'.regs, berth := b'.berth }) ∧
     ((s.b.brt nn).winLeft ≠ some 0 → NoEffect (.retryWindowClose nn) s))

/-- TOKEN_GRANT (R40 to R42, R45 to R47, R68). The tokens in use are the lesser of TOK_CFG and TOK_LIMIT, a 0 counting as 1 and a 7 as 6.
With every token free, the waiting berth of the lowest class and then the lowest number holds token 0 and is in INRUSH. Whatever waits,
a berth that does not wait keeps its state and its token. The end of an inrush: INRUSH_DONE once done is qualified (R51, R52);
INRUSH_TIMEOUT beyond TMAX without it, with the trip's cause, source, tick and the state that the retry count gives (R53, R92), the
count of a window that closes in the same tick included (R15). HELD_VNET_LOW (R95, R96): with VNET below 7.0 V every HELD berth is OFF
with cause SAFE, ON cleared and its gate released; every other berth, and every berth at 7.0 V and above, is as it was. The model's own
readings in it: log entries 9, 10, 37, 145, 178. -/
def Obligations.TokensServeAndInrushEnds : Prop :=
  ((∀ b : Blk, 1 ≤ b.tokensInUse ∧ b.tokensInUse ≤ 6 ∧
     b.tokensInUse = min
       (if b.f BERTH_TOKENS.TOK_CFG 0 = 0 then 1 else if 7 ≤ b.f BERTH_TOKENS.TOK_CFG 0 then 6 else b.f BERTH_TOKENS.TOK_CFG 0)
       (if b.f BERTH_TOKENS.TOK_LIMIT 0 = 0 then 1 else if 7 ≤ b.f BERTH_TOKENS.TOK_LIMIT 0 then 6
         else b.f BERTH_TOKENS.TOK_LIMIT 0)) ∧
   ∀ (s : State), running s.b = true → s.b.safeNow = false →
     (∀ nn : Fin 32, (∀ tok < 6, tokenHeld s.tick s.b tok = false) → (∀ m : Fin 32, s.b.bst m = bPENDING → Fresh s (.berth m)) →
       s.b.bst nn = bPENDING → (s.b.brt nn).holding = false →
       (∀ m : Fin 32, s.b.bst m = bPENDING → (s.b.brt m).holding = false →
         s.b.f BERTH_CFG.CLASS nn < s.b.f BERTH_CFG.CLASS m ∨
         (s.b.f BERTH_CFG.CLASS nn = s.b.f BERTH_CFG.CLASS m ∧ nn ≤ m)) →
       Completes .tokenGrant s fun b' =>
         b'.bst nn = bINRUSH ∧ b'.f BERTH_STATE.TOKEN nn = 0 ∧ (b'.brt nn).integ = 0 ∧ (b'.brt nn).inTicks = 0 ∧
         Same s.b b' (each 32 [BERTH_STATE.STATE, BERTH_STATE.TOKEN])) ∧
     (∀ nn : Fin 32, s.b.bst nn ≠ bPENDING →
       Completes .tokenGrant s fun b' =>
         b'.bst nn = s.b.bst nn ∧ b'.f BERTH_STATE.TOKEN nn = s.b.f BERTH_STATE.TOKEN nn ∧ b'.brt nn = s.b.brt nn) ∧
     ((∀ nn : Fin 32, s.b.bst nn ≠ bPENDING) → NoEffect .tokenGrant s)) ∧
  (∀ (s : State) (nn : Fin 32), running s.b = true → Fresh s (.berth nn) → s.b.bst nn = bINRUSH →
     (16 ≤ (s.b.brt nn).done → s.b.f BERTH_PSTAT.FT_LATCH nn = 0 →
       Completes (.inrushDone nn) s fun b' =>
         b'.bst nn = bON ∧ b'.f BERTH_STATE.TOKEN nn = 7 ∧ (b'.brt nn).gate = .full ∧
         Same s.b b' [(BERTH_STATE.STATE, nn), (BERTH_STATE.TOKEN, nn)] ∧
         b' = { s.b with regs := b'.regs, berth := b'.berth, evts := b'.evts, lines := b'.lines }) ∧
     ((s.b.brt nn).done < 16 → NoEffect (.inrushDone nn) s) ∧
     ((s.b.brt nn).done < 16 → s.b.f BERTH_INRUSH_T.TMAX nn * 2000 < (s.b.brt nn).inTicks →
       Completes (.inrushTimeout nn) s fun b' =>
         b'.bst nn = (if s.b.f BERTH_PLIM.RETRY_MAX nn ≤ retryCount s.tick s.b nn then bLOCKED else bTRIPPED) ∧
         b'.f BERTH_STATE.CAUSE nn = 5 ∧ b'.f BERTH_STATE.TOKEN nn = 7 ∧ (b'.brt nn).gate = .sink ∧
         b'.f BERTH_TRIP_TICK_LO.TICK nn = s.tick % 2 ^ 32 ∧ Raised b' s.tick 22 nn (.berth nn) ∧
         (s.b.f BERTH_PLIM.RETRY_MAX nn ≤ retryCount s.tick s.b nn → b'.lockedMap = setBit s.b.lockedMap nn) ∧
         Same s.b b' [(BERTH_STATE.STATE, nn), (BERTH_STATE.TOKEN, nn), (BERTH_STATE.CAUSE, nn),
           (BERTH_TRIP_TICK_LO.TICK, nn), (BERTH_TRIP_TICK_HI.TICK, nn)]) ∧
     (16 ≤ (s.b.brt nn).done → NoEffect (.inrushTimeout nn) s) ∧
     ((s.b.brt nn).inTicks ≤ s.b.f BERTH_INRUSH_T.TMAX nn * 2000 → NoEffect (.inrushTimeout nn) s)) ∧
  (∀ (s : State), running s.b = true →
     (∀ nn : Fin 32, s.b.sig (.cal 0x70) * 2 < 7000 → s.b.bst nn = bHELD → Fresh s (.berth nn) →
       Completes .heldVnetLow s fun b' =>
         b'.bst nn = bOFF ∧ b'.f BERTH_STATE.CAUSE nn = 6 ∧ b'.f BERTH_CTL.ON nn = 0 ∧ (b'.brt nn).gate = .off) ∧
     (∀ nn : Fin 32, s.b.sig (.cal 0x70) * 2 < 7000 → s.b.bst nn ≠ bHELD → Fresh s (.berth nn) →
       Completes .heldVnetLow s fun b' =>
         b'.bst nn = s.b.bst nn ∧ b'.f BERTH_CTL.ON nn = s.b.f BERTH_CTL.ON nn ∧ b'.brt nn = s.b.brt nn ∧
         Same s.b b' (each 32 [BERTH_STATE.STATE, BERTH_STATE.TOKEN, BERTH_STATE.CAUSE, BERTH_CTL.ON, BERTH_TRIP_TICK_LO.TICK,
           BERTH_TRIP_TICK_HI.TICK])) ∧
     (7000 ≤ s.b.sig (.cal 0x70) * 2 → NoEffect .heldVnetLow s))

/-- FAST_TRIP (R71 to R74). The applied code is the lesser of FT_CODE, in HELD of FT_HELD, and FT_MAX, at least 8 and at most 200, in steps
of 0.5 mV. A crossing of the applied threshold in INRUSH, ON or HELD sets the fast-trip latch and starts the fast sink at once; the
state changes at a later edge. A voltage inside the threshold changes nothing. A latched fast trip refuses every gate drive: whatever
state and gate command a berth moves to, its gate sinks or is off, and releasing its token leaves the latch (R74). The model's own
readings in it: log entries 6, 9. -/
def Obligations.FastTripLatchesAndSinks : Prop :=
  ((∀ (b : Blk) (nn : Fin 32) (F : Fld), b.ftApplied F nn =
     if min (b.f F nn) (b.f BERTH_PLIM.FT_MAX nn) < 8 then 8
     else if 200 < min (b.f F nn) (b.f BERTH_PLIM.FT_MAX nn) then 200 else min (b.f F nn) (b.f BERTH_PLIM.FT_MAX nn)) ∧
   ∀ (s : State) (nn : Fin 32) (uv : Int), running s.b = true → Fresh s (.berth nn) →
     (((s.b.bst nn = bINRUSH ∨ s.b.bst nn = bON) ∧ (s.b.ftApplied BERTH_FT.FT_CODE nn : Int) * 500 < uv ∨
       s.b.bst nn = bHELD ∧ (s.b.ftApplied BERTH_FT.FT_HELD nn : Int) * 500 < uv) →
       Completes (.fastTrip nn uv) s fun b' =>
         b'.f BERTH_PSTAT.FT_LATCH nn = 1 ∧ (b'.brt nn).gate = .sink ∧ (b'.brt nn).tripped = true ∧ b'.bst nn = s.b.bst nn ∧
         Same s.b b' [(BERTH_PSTAT.FT_LATCH, nn)] ∧ (∀ j, j ≠ nn → b'.brt j = s.b.brt j) ∧
         b' = { s.b with regs := b'.regs, berth := b'.berth }) ∧
     ((s.b.bst nn = bINRUSH ∨ s.b.bst nn = bON) → s.b.f BERTH_FT.REV_EN nn = 1 →
       uv < -((s.b.ftApplied BERTH_FT.FT_CODE nn : Int) * 500) →
       Completes (.fastTrip nn uv) s fun b' =>
         b'.f BERTH_PSTAT.FT_LATCH nn = 1 ∧ (b'.brt nn).gate = .sink ∧ (b'.brt nn).tripped = true) ∧
     (s.b.bst nn = bHELD → s.b.f BERTH_FT.REV_EN nn = 1 → uv < -((s.b.ftApplied BERTH_FT.FT_HELD nn : Int) * 500) →
       Completes (.fastTrip nn uv) s fun b' =>
         b'.f BERTH_PSTAT.FT_LATCH nn = 1 ∧ (b'.brt nn).gate = .sink ∧ (b'.brt nn).tripped = true) ∧
     ((s.b.bst nn = bINRUSH ∨ s.b.bst nn = bON) → 0 ≤ uv → uv ≤ (s.b.ftApplied BERTH_FT.FT_CODE nn : Int) * 500 →
       NoEffect (.fastTrip nn uv) s) ∧
     (s.b.bst nn = bHELD → 0 ≤ uv → uv ≤ (s.b.ftApplied BERTH_FT.FT_HELD nn : Int) * 500 → NoEffect (.fastTrip nn uv) s) ∧
     ((s.b.bst nn = bOFF ∨ s.b.bst nn = bPENDING ∨ s.b.bst nn = bTRIPPED ∨ s.b.bst nn = bLOCKED) → NoEffect (.fastTrip nn uv) s)) ∧
  (∀ (b : Blk) (nn : Fin 32) (st : Nat) (g : Gate), b.f BERTH_PSTAT.FT_LATCH nn = 1 →
     ((berthTo b nn st g).brt nn).gate = (if g = .off then .off else .sink) ∧ (berthTo b nn st g).f BERTH_PSTAT.FT_LATCH nn = 1 ∧
     (berthTo b nn st g).f BERTH_STATE.TOKEN nn = 7)

/-- The feeds (R59, R61). FEED_REVERSE below -REV_MV holds the gate off, counts and raises FEED_REVERSE, also without the core clock;
FEED_REARM needs 2 ticks above REARM_MV; FEED_FORCE_OFF shows and holds the forced state, and takes it back. VNET_UV and VNET_OV (R63):
raised after QUAL ticks (a 0 counts as 1), once per uninterrupted run. The model's own readings in it: log entries 10, 34. -/
def Obligations.FeedsBlockAndVnetIsWatched : Prop :=
  (∀ (s : State) (n : Fin 2),
     (∀ uv : Int, uv < -((s.b.f FEED_CFG.REV_MV n : Int) * 1000) → (s.b.fd n).blocked = false → s.b.f FEED_STATUS.STATE n ≠ 3 →
       Completes (.feedReverse n uv) s fun b' =>
         b'.fd n = { blocked := true, rearm := 0 } ∧ b'.f FEED_STATUS.STATE n = 0 ∧
         b'.f FEED_STATUS.REV_COUNT n = satInc (2 ^ FEED_STATUS.REV_COUNT.w - 1) (s.b.f FEED_STATUS.REV_COUNT n) % 2 ^ FEED_STATUS.REV_COUNT.w ∧
         Raised b' s.tick 25 n ∧ Same s.b b' [(FEED_STATUS.STATE, n), (FEED_STATUS.REV_COUNT, n)] ∧
         b' = { s.b with regs := b'.regs, feed := b'.feed, lines := b'.lines }) ∧
     (∀ uv : Int, -((s.b.f FEED_CFG.REV_MV n : Int) * 1000) ≤ uv → NoEffect (.feedReverse n uv) s) ∧
     ((s.b.fd n).blocked = true → 2 ≤ (s.b.fd n).rearm →
       Completes (.feedRearm n) s fun b' => b'.fd n = {} ∧ b' = { s.b with feed := b'.feed }) ∧
     ((s.b.fd n).rearm < 2 → NoEffect (.feedRearm n) s) ∧
     (running s.b = true →
       Completes (.feedForceOff n 1) s fun b' =>
         b'.f FEED_CTL.FORCE_OFF n = 1 ∧ b'.f FEED_STATUS.STATE n = 3 ∧
         Same s.b b' [(FEED_CTL.FORCE_OFF, n), (FEED_STATUS.STATE, n)] ∧ b' = { s.b with regs := b'.regs }) ∧
     (running s.b = true → s.b.f FEED_STATUS.STATE n = 3 →
       Completes (.feedForceOff n 0) s fun b' => b'.f FEED_CTL.FORCE_OFF n = 0 ∧ b'.f FEED_STATUS.STATE n = 0)) ∧
  (∀ (s : State), running s.b = true →
     (atLeast1 (s.b.f FEED_VNET_WIN.QUAL 0) ≤ s.b.vnetUv.n → s.b.vnetUv.raised = false →
       Completes .vnetUv s fun b' =>
         b'.vnetUv = { s.b.vnetUv with raised := true } ∧ Raised b' s.tick 30 0xFFFF ∧
         b' = { s.b with vnetUv := b'.vnetUv, lines := b'.lines }) ∧
     (s.b.vnetUv.raised = true → NoEffect .vnetUv s) ∧
     (s.b.vnetUv.n < s.b.f FEED_VNET_WIN.QUAL 0 → NoEffect .vnetUv s) ∧
     (atLeast1 (s.b.f FEED_VNET_WIN.QUAL 0) ≤ s.b.vnetOv.n → s.b.vnetOv.raised = false →
       Completes .vnetOv s fun b' =>
         b'.vnetOv = { s.b.vnetOv with raised := true } ∧ Raised b' s.tick 31 0xFFFF ∧
         b' = { s.b with vnetOv := b'.vnetOv, lines := b'.lines }) ∧
     (s.b.vnetOv.raised = true → NoEffect .vnetOv s) ∧
     (s.b.vnetOv.n < s.b.f FEED_VNET_WIN.QUAL 0 → NoEffect .vnetOv s))

/-! Multiphase loops -/

/-- LOOP_ENABLE (R119, R122, R231, R464): a loop in DISABLED begins its pre-start check with its phases at MID; in any other state the write
leaves every register as it was but EN; while nothing may leave off, in SAFE or as a member under the ALL-OFF line, it changes nothing.
LOOP_DISABLE (table Loop transitions): a FAULTED loop goes to DISABLED with its cause kept; PRECHECK, and a running or stopping loop
with STOP_MODE 1, goes to DISABLED with cause CMD_OFF; any other running loop begins its stop ramp to 0, and with STOP_MODE 0 a stop
ramp under way goes on. The model's own readings in it: log entry 9. -/
def Obligations.LoopFollowsItsEnable : Prop :=
  (∀ (s : State) (n : Fin 8), running s.b = true → Fresh s (.loop n) →
     (s.b.barred n = false → s.b.lst n = lDISABLED →
       Completes (.loopEnable n) s fun b' =>
         b'.lst n = lPRECHECK ∧ b'.f LOOP_CTL.EN n = 1 ∧ b'.f LOOP_PRE.PRE_V n = 0 ∧ (b'.lp n).preTicks = 0 ∧
         (∀ p : Fin 24, s.b.f PHASE_CFG.LOOP p = n → b'.f PHASE_STAT.ACTIVE p = 0 ∧ (b'.ph p).ton = none) ∧
         Same s.b b' ([(LOOP_CTL.EN, n.val), (LOOP_STATE.STATE, n.val), (LOOP_PRE.PRE_V, n.val), (LOOP_STATE.N_ACT, n.val)] ++
           each 24 [PHASE_STAT.ACTIVE])) ∧
     (s.b.barred n = false → s.b.lst n ≠ lDISABLED →
       Completes (.loopEnable n) s fun b' =>
         b'.f LOOP_CTL.EN n = 1 ∧ Same s.b b' [(LOOP_CTL.EN, n)] ∧ b' = { s.b with regs := b'.regs }) ∧
     ((s.b.safeNow = true ∨ s.b.lineBars n = true) → NoEffect (.loopEnable n) s)) ∧
  (∀ (s : State) (n : Fin 8), running s.b = true → Fresh s (.loop n) →
     (s.b.lst n = lFAULTED →
       Completes (.loopDisable n) s fun b' =>
         b'.lst n = lDISABLED ∧ b'.f LOOP_CTL.EN n = 0 ∧ b'.f LOOP_STATE.CAUSE n = s.b.f LOOP_STATE.CAUSE n) ∧
     ((s.b.lst n = lPRECHECK ∨
         s.b.f LOOP_CFG.STOP_MODE n = 1 ∧
           (s.b.lst n = lSOFTSTART ∨ s.b.lst n = lREGULATING ∨ s.b.lst n = lBURST ∨ s.b.lst n = lOPEN ∨ s.b.lst n = lSTOPPING)) →
       Completes (.loopDisable n) s fun b' =>
         b'.lst n = lDISABLED ∧ b'.f LOOP_CTL.EN n = 0 ∧ b'.f LOOP_STATE.CAUSE n = 1 ∧
         (∀ p : Fin 24, s.b.f PHASE_CFG.LOOP p = n → (b'.ph p).ton = none)) ∧
     (s.b.f LOOP_CFG.STOP_MODE n = 0 →
       (s.b.lst n = lSOFTSTART ∨ s.b.lst n = lREGULATING ∨ s.b.lst n = lBURST ∨ s.b.lst n = lOPEN) →
       Completes (.loopDisable n) s fun b' =>
         b'.lst n = lSTOPPING ∧ b'.f LOOP_CTL.EN n = 0 ∧ (b'.lp n).prof = headPlan s.tick s.b n 0 ∧
         (∀ p : Fin 24, s.b.f PHASE_CFG.LOOP p = n → b'.f PHASE_STAT.ACTIVE p = 1)) ∧
     ((s.b.lst n = lDISABLED ∨ s.b.lst n = lSTOPPING ∧ s.b.f LOOP_CFG.STOP_MODE n = 0) →
       Completes (.loopDisable n) s fun b' =>
         b'.f LOOP_CTL.EN n = 0 ∧ b'.lst n = s.b.lst n ∧ b'.lp n = s.b.lp n ∧ Same s.b b' [(LOOP_CTL.EN, n)]))

/-- The start of a loop: PRECHECK_PASS after 400 ticks enters SOFTSTART with every phase back and the profile at the present VSP bound for
the applied set-point (R119, R121); SOFTSTART_COMPLETE after 16 ticks inside enters REGULATING (R122). PROFILE_COMPLETE (R167, R122,
R217, R253): a profile complete in its tick ends a loop's move, the limits of its enforced channels act, and a stop ramp ends in
DISABLED with cause CMD_OFF; one that is under way, and the profile of an inrush token, changes nothing. The model's own readings in it:
log entries 9, 10, 32. -/
def Obligations.LoopStartsAndMovesComplete : Prop :=
  (∀ (s : State) (n : Fin 8), running s.b = true → Fresh s (.loop n) →
     (s.b.lst n = lPRECHECK → 400 ≤ (s.b.lp n).preTicks →
       Completes (.precheckPass n) s fun b' =>
         b'.lst n = lSOFTSTART ∧ (b'.lp n).prof.x = toInt (s.b.vspRaw n * lsb) ∧ (b'.lp n).prof.tgt = loopTarget s.b n ∧
         (b'.lp n).inside = 0 ∧ (b'.lp n).ov = 0 ∧ (b'.lp n).uv = 0 ∧ (b'.lp n).oc = 0 ∧
         (∀ p : Fin 24, s.b.f PHASE_CFG.LOOP p = n → b'.f PHASE_STAT.ACTIVE p = 1) ∧
         (∀ j : Fin 8, j ≠ n → b'.lst j = s.b.lst j ∧ b'.lp j = s.b.lp j)) ∧
     ((s.b.lp n).preTicks < 400 → NoEffect (.precheckPass n) s) ∧
     (s.b.lst n = lSOFTSTART → 16 ≤ (s.b.lp n).inside →
       Completes (.softstartComplete n) s fun b' =>
         b'.lst n = lREGULATING ∧ Same s.b b' [(LOOP_STATE.STATE, n)] ∧
         b' = { s.b with regs := b'.regs, evts := b'.evts, lines := b'.lines }) ∧
     ((s.b.lp n).inside < 16 → NoEffect (.softstartComplete n) s)) ∧
  (∀ (s : State) (k : Fin 15), running s.b = true →
     (∀ n : Fin 8, k.val = n.val → profDone s.tick s.b n = true → s.b.lst n ≠ lSTOPPING →
       Completes (.profileComplete k) s fun b' =>
         b'.f LOOP_STATE.MOVING n = 0 ∧ (∀ j ∈ enforcing s.b n, (b'.th j).lim = true) ∧
         (∀ j ∉ enforcing s.b n, b'.th j = s.b.th j) ∧ Same s.b b' [(LOOP_STATE.MOVING, n)] ∧
         b' = { s.b with regs := b'.regs, thr := b'.thr }) ∧
     (∀ n : Fin 8, k.val = n.val → profDone s.tick s.b n = true → s.b.lst n = lSTOPPING → Fresh s (.loop n) →
       Completes (.profileComplete k) s fun b' =>
         b'.lst n = lDISABLED ∧ b'.f LOOP_STATE.CAUSE n = 1 ∧ b'.f LOOP_STATE.MOVING n = 0 ∧
         (∀ p : Fin 24, s.b.f PHASE_CFG.LOOP p = n → (b'.ph p).ton = none)) ∧
     (∀ n : Fin 8, k.val = n.val → profDone s.tick s.b n = false → NoEffect (.profileComplete k) s) ∧
     (8 ≤ k.val → k.val < 14 → NoEffect (.profileComplete k) s))

/-- PHASE_SHED (R110): the active phase of the highest SHED_RANK, and the highest number among equals, is shed, its on-time kept for the
current period, and the count of beats starts again; with NMIN phases active or too few beats nothing changes. BURST_ENTRY (R113): from
REGULATING with exactly NMIN phases active, the beats complete and no move under way. VSEL_QUALIFY (R115 to R117): the raw index that
has stood VSEL_QUAL ticks is the qualified one; in use, a change of it starts a move to its applied set-point, unless FORCE_EN or
throttle enforcement holds the index. The model's own readings in it: log entries 9, 10, 143. -/
def Obligations.LoopShedsBurstsAndMoves : Prop :=
  (∀ (s : State) (n : Fin 8), running s.b = true →
     (∀ p : Fin 24, s.b.f LOOP_SHED_N.SHED_BEATS n ≤ (s.b.lp n).shedBeats → s.b.f LOOP_SHED.SHED_A n ≠ 0 →
       s.b.f LOOP_SHED_N.NMIN n < (activePhases s.b n).length →
       (s.b.lst n = lSOFTSTART ∨ s.b.lst n = lREGULATING ∨ s.b.lst n = lBURST ∨ s.b.lst n = lSTOPPING) →
       p.val ∈ activePhases s.b n →
       (∀ q ∈ activePhases s.b n, s.b.f PHASE_CFG.SHED_RANK q < s.b.f PHASE_CFG.SHED_RANK p ∨
         s.b.f PHASE_CFG.SHED_RANK q = s.b.f PHASE_CFG.SHED_RANK p ∧ q ≤ p) →
       Completes (.phaseShed n) s fun b' =>
         b'.f PHASE_STAT.ACTIVE p = 0 ∧ (b'.ph p).ton = (s.b.ph p).ton ∧ (b'.ph p).shed = (s.b.ph p).ton.isSome ∧
         (b'.lp n).shedBeats = 0 ∧ (∀ q : Fin 24, q ≠ p → b'.ph q = s.b.ph q) ∧
         Same s.b b' [(PHASE_STAT.ACTIVE, p), (LOOP_STATE.N_ACT, n)] ∧
         b' = { s.b with regs := b'.regs, phase := b'.phase, loop := b'.loop }) ∧
     ((s.b.lp n).shedBeats < s.b.f LOOP_SHED_N.SHED_BEATS n → NoEffect (.phaseShed n) s) ∧
     ((activePhases s.b n).length ≤ s.b.f LOOP_SHED_N.NMIN n → NoEffect (.phaseShed n) s)) ∧
  (∀ (s : State) (n : Fin 8), running s.b = true → Fresh s (.loop n) →
     (s.b.lst n = lREGULATING → s.b.f LOOP_CFG.BURST_EN n = 1 → (activePhases s.b n).length = s.b.f LOOP_SHED_N.NMIN n →
       s.b.f LOOP_SHED_N.SHED_BEATS n ≤ (s.b.lp n).burstBeats → s.b.f LOOP_STATE.MOVING n = 0 →
       Completes (.burstEntry n) s fun b' =>
         b'.lst n = lBURST ∧ (b'.lp n).asleep = false ∧
         b'.f LOOP_COUNT.BURSTS n = satInc (2 ^ LOOP_COUNT.BURSTS.w - 1) (s.b.f LOOP_COUNT.BURSTS n) % 2 ^ LOOP_COUNT.BURSTS.w ∧
         Same s.b b' [(LOOP_STATE.STATE, n), (LOOP_COUNT.BURSTS, n)]) ∧
     ((s.b.lst n ≠ lREGULATING ∨ s.b.f LOOP_CFG.BURST_EN n = 0 ∨ s.b.f LOOP_STATE.MOVING n = 1) → NoEffect (.burstEntry n) s)) ∧
  (∀ (s : State) (n : Fin 8), running s.b = true → s.b.f LOOP_CFG.VSEL_QUAL n + 1 ≤ (s.b.lp n).rawRun →
     ((s.b.lp n).enfIdx = none → s.b.f LOOP_CTL.FORCE_EN n = 0 → s.b.f LOOP_STATE.RAW_IDX n ≠ s.b.f LOOP_STATE.IDX n →
       (s.b.lst n = lSOFTSTART ∨ s.b.lst n = lREGULATING) →
       Completes (.vselQualify n) s fun b' =>
         b'.f LOOP_STATE.IDX n = s.b.f LOOP_STATE.RAW_IDX n % 2 ^ LOOP_STATE.IDX.w ∧ b'.f LOOP_STATE.MOVING n = 1 ∧
         (b'.lp n).qidx = s.b.f LOOP_STATE.RAW_IDX n ∧ (b'.lp n).prof.tgt = loopTarget b' n ∧ b'.lst n = s.b.lst n) ∧
     ((s.b.lp n).enfIdx = some (s.b.f LOOP_STATE.IDX n) →
       Completes (.vselQualify n) s fun b' => (b'.lp n).qidx = s.b.f LOOP_STATE.RAW_IDX n ∧ Same s.b b' []) ∧
     ((s.b.lp n).enfIdx = none → s.b.f LOOP_CTL.FORCE_EN n = 1 → s.b.f LOOP_CTL.FORCE_IDX n = s.b.f LOOP_STATE.IDX n →
       Completes (.vselQualify n) s fun b' => (b'.lp n).qidx = s.b.f LOOP_STATE.RAW_IDX n ∧ Same s.b b' []))

/-- The rail supervision (R123, R124, R122, R156). RAIL_OV, RAIL_UV, RAIL_OC and the OPEN time limit put the loop in FAULTED with their
cause and raise their source, with its phases at MID. RAIL_UV does not act in STOPPING. STRUCTURAL_TEST_VERDICT (R170, R384, R386): with
a pass LE4 is at fault and SPARE_EXHAUSTED is raised; with a failure LE4 keeps the list and is counted as used, or SPARE_EXHAUSTED is
raised where the count leaves none; with no verdict due nothing changes. The model's own readings in it: log entries 9, 10, 30. -/
def Obligations.RailAndEngineFaultsAct : Prop :=
  (∀ (s : State) (n : Fin 8), running s.b = true → Fresh s (.loop n) →
     ((s.b.lst n = lSOFTSTART ∨ s.b.lst n = lREGULATING ∨ s.b.lst n = lBURST ∨ s.b.lst n = lOPEN ∨ s.b.lst n = lSTOPPING) →
       (atLeast1 (s.b.f LOOP_WIN.QUAL n) ≤ (s.b.lp n).ov →
         Completes (.railOv n) s fun b' =>
           b'.lst n = lFAULTED ∧ b'.f LOOP_STATE.CAUSE n = 3 ∧ Raised b' s.tick 18 n (.loop n) ∧
           (∀ p : Fin 24, s.b.f PHASE_CFG.LOOP p = n → b'.f PHASE_STAT.ACTIVE p = 0 ∧ (b'.ph p).ton = none) ∧
           Same s.b b' ([(LOOP_STATE.STATE, n.val), (LOOP_STATE.CAUSE, n.val), (LOOP_STATE.N_ACT, n.val),
             (LOOP_STATE.ILIM_ACT, n.val), (LOOP_STATE.MOVING, n.val), (ENG_LOOP_STAT.OPEN_TICKS, n.val),
             (ENG_LOOP_STAT.OPEN_SRC, n.val), (ENG_LOOP_STAT.GUARD, n.val)] ++ each 24 [PHASE_STAT.ACTIVE])) ∧
       (atLeast1 (s.b.f LOOP_ILIM2.OC_QUAL n) ≤ (s.b.lp n).oc →
         Completes (.railOc n) s fun b' =>
           b'.lst n = lFAULTED ∧ b'.f LOOP_STATE.CAUSE n = 5 ∧ Raised b' s.tick 19 n (.loop n)) ∧
       (s.b.lst n ≠ lSTOPPING → atLeast1 (s.b.f LOOP_WIN.QUAL n) ≤ (s.b.lp n).uv →
         Completes (.railUv n) s fun b' =>
           b'.lst n = lFAULTED ∧ b'.f LOOP_STATE.CAUSE n = 4 ∧ Raised b' s.tick 17 n (.loop n)) ∧
       (s.b.lst n = lSTOPPING → NoEffect (.railUv n) s)) ∧
     (s.b.lst n = lOPEN → 2000 < (s.b.lp n).openFor →
       Completes (.loopOpenTime n) s fun b' =>
         b'.lst n = lFAULTED ∧ b'.f LOOP_STATE.CAUSE n = 6 ∧ Raised b' s.tick 39 n (.loop n)) ∧
     ((s.b.lp n).openFor ≤ 2000 → NoEffect (.loopOpenTime n) s) ∧
     ((s.b.lp n).ov < s.b.f LOOP_WIN.QUAL n → NoEffect (.railOv n) s) ∧
     ((s.b.lp n).oc < s.b.f LOOP_ILIM2.OC_QUAL n → NoEffect (.railOc n) s)) ∧
  (∀ (s : State), running s.b = true →
     (s.b.f ENG_OFFLINE.RESULT 0 = 1 →
       Completes (.structuralTestVerdict true) s fun b' =>
         b'.f ENG_OFFLINE.RESULT 0 = 3 ∧ Raised b' s.tick 12 0xFFFF ∧ Same s.b b' [(ENG_OFFLINE.RESULT, 0)] ∧
         b' = { s.b with regs := b'.regs, lines := b'.lines }) ∧
     (s.b.f ENG_OFFLINE.RESULT 0 = 1 → s.b.sparesLeft 5 ≠ 0 →
       Completes (.structuralTestVerdict false) s fun b' =>
         b'.f ENG_OFFLINE.RESULT 0 = 2 ∧ b'.lines = s.b.lines ∧
         b'.mapOut = s.b.mapOut ++ [(5, s.b.f ENG_OFFLINE.ENGINE 0, s.b.counterDue 5)]) ∧
     (s.b.f ENG_OFFLINE.RESULT 0 = 1 → s.b.sparesLeft 5 = 0 →
       Completes (.structuralTestVerdict false) s fun b' =>
         b'.f ENG_OFFLINE.RESULT 0 = 2 ∧ Raised b' s.tick 12 0xFFFF ∧ Same s.b b' [(ENG_OFFLINE.RESULT, 0)]) ∧
     (∀ p : Bool, s.b.f ENG_OFFLINE.RESULT 0 ≠ 1 → NoEffect (.structuralTestVerdict p) s))

/-- OPEN and back: LOOP_OPEN_REQUEST holds the duty last computed with OPEN_SRC REQUEST (R153, R154); LOOP_RELEASE of a loop opened by
request needs OPEN_REQ 0 and no poison mark, and of one opened by poison also a clean sample (R157). COEF_WRITE (R152, R159): accepted
in OPEN and DISABLED, and on a LIVE_TUNE loop in any state, the word waits for its edge; in every other case it is ignored and CFG_REJ
is set. The model's own readings in it: log entries 9, 10, 89, 181. -/
def Obligations.LoopOpensAndIsRetuned : Prop :=
  (∀ (s : State) (n : Fin 8), running s.b = true → Fresh s (.loop n) →
     ((s.b.lst n = lSOFTSTART ∨ s.b.lst n = lREGULATING ∨ s.b.lst n = lBURST) →
       Completes (.loopOpenRequest n) s fun b' =>
         b'.lst n = lOPEN ∧ b'.f ENG_LOOP_STAT.OPEN_SRC n = 1 ∧ b'.f ENG_LOOP_STAT.OPEN_TICKS n = 0 ∧
         b'.f ENG_LOOP_CTL.OPEN_REQ n = 1 ∧ (b'.lp n).held = (s.b.lp n).duty ∧ (b'.lp n).prof.x = (s.b.lp n).prof.x ∧
         (b'.lp n).prof.v = (s.b.lp n).prof.v ∧ (b'.lp n).prof.a = (s.b.lp n).prof.a) ∧
     (s.b.lst n = lOPEN → s.b.f ENG_LOOP_CTL.OPEN_REQ n = 0 → s.b.f ENG_LOOP_STAT.POISON n = 0 →
       (s.b.f ENG_LOOP_STAT.OPEN_SRC n = 1 ∨ (s.b.lp n).samplePoison = false) →
       Completes (.loopRelease n) s fun b' =>
         b'.lst n = lREGULATING ∧ b'.f ENG_LOOP_STAT.OPEN_TICKS n = 0 ∧ b'.f ENG_LOOP_STAT.OPEN_SRC n = 0 ∧
         (b'.lp n).prof.tgt = loopTarget s.b n) ∧
     (s.b.f ENG_LOOP_CTL.OPEN_REQ n = 1 → NoEffect (.loopRelease n) s) ∧
     (s.b.f ENG_LOOP_STAT.POISON n ≠ 0 → NoEffect (.loopRelease n) s)) ∧
  (∀ (s : State) (n w : Fin 8) (v : Nat), running s.b = true →
     (s.b.f ENG_LOOP_CFG.LIVE_TUNE n = 0 → (s.b.lst n = lOPEN ∨ s.b.lst n = lDISABLED) →
       Completes (.coefWrite n w v) s fun b' =>
         (b'.lp n).coef = (s.b.lp n).coef ++ [(w.val, v % 2 ^ 32)] ∧ b'.f ENG_LOOP_STAT.COEF_PEND n = 0 ∧
         Same s.b b' [(ENG_LOOP_STAT.COEF_PEND, n)] ∧ b' = { s.b with regs := b'.regs, loop := b'.loop }) ∧
     (s.b.f ENG_LOOP_CFG.LIVE_TUNE n = 1 →
       Completes (.coefWrite n w v) s fun b' =>
         (b'.lp n).coef = (s.b.lp n).coef ++ [(w.val, v % 2 ^ 32)] ∧ b'.f ENG_LOOP_STAT.COEF_PEND n = 1 ∧
         Same s.b b' [(ENG_LOOP_STAT.COEF_PEND, n)]) ∧
     (s.b.f ENG_LOOP_CFG.LIVE_TUNE n = 0 → s.b.lst n ≠ lOPEN → s.b.lst n ≠ lDISABLED →
       Completes (.coefWrite n w v) s fun b' =>
         b'.f LOOP_STATE.CFG_REJ n = 1 ∧ b'.lp n = s.b.lp n ∧ Same s.b b' [(LOOP_STATE.CFG_REJ, n)]))

/-! Bucks and LDOs -/

/-- BUCK_ENABLE and BUCK_DISABLE (R135, R136, R231, R464): from DISABLED a buck enters SOFTSTART with its ramp at the IBFB voltage and its
integrator at 0; EN = 0 turns both switches off with cause CMD_OFF, a FAULTED buck keeping its cause; while nothing may leave off, in
SAFE or as a member under the ALL-OFF line, an enable changes nothing. The events of a running buck (R136, R137, R139): each fault turns
it off with its cause and source; SOFTSTART completes after 16 ticks inside the window, and in that tick SS_TMAX does not act (R15). The
model's own readings in it: log entries 9, 10, 44, 45, 144, 180. -/
def Obligations.BucksActAsStated : Prop :=
  (∀ (s : State) (n : Fin 8), running s.b = true → Fresh s (.buck n) →
     (s.b.barred (8 + n) = false → s.b.ist n = iDISABLED →
       Completes (.buckEnable n) s fun b' =>
         b'.ist n = iSOFTSTART ∧ b'.f IB_CTL.EN n = 1 ∧ (b'.bk n).ramp = toInt (s.b.ibfbRaw n) ∧ (b'.bk n).integ = 0 ∧
         (b'.bk n).icmd = 0 ∧ (b'.bk n).ssTicks = 0 ∧ Same s.b b' [(IB_CTL.EN, n), (IB_STATE.STATE, n)] ∧
         (∀ j : Fin 8, j ≠ n → b'.bk j = s.b.bk j) ∧
         b' = { s.b with regs := b'.regs, buck := b'.buck, evts := b'.evts, lines := b'.lines, eng := b'.eng }) ∧
     (s.b.barred (8 + n) = false → s.b.ist n ≠ iDISABLED →
       Completes (.buckEnable n) s fun b' => b'.f IB_CTL.EN n = 1 ∧ Same s.b b' [(IB_CTL.EN, n)]) ∧
     ((s.b.safeNow = true ∨ s.b.lineBars (8 + n) = true) → NoEffect (.buckEnable n) s) ∧
     ((s.b.ist n = iSOFTSTART ∨ s.b.ist n = iREGULATING ∨ s.b.ist n = iOPEN) →
       Completes (.buckDisable n) s fun b' =>
         b'.ist n = iDISABLED ∧ b'.f IB_CTL.EN n = 0 ∧ b'.f IB_STATE.CAUSE n = 1 ∧ b'.f IB_ICMD.VALUE n = 0 ∧
         Same s.b b' [(IB_CTL.EN, n), (IB_STATE.STATE, n), (IB_STATE.CAUSE, n), (IB_STATE.ILIM_ACT, n), (IB_ICMD.VALUE, n)]) ∧
     (s.b.ist n = iFAULTED →
       Completes (.buckDisable n) s fun b' =>
         b'.ist n = iDISABLED ∧ b'.f IB_CTL.EN n = 0 ∧ b'.f IB_STATE.CAUSE n = s.b.f IB_STATE.CAUSE n)) ∧
  (∀ (s : State) (n : Fin 8), running s.b = true → Fresh s (.buck n) →
     ((s.b.ist n = iSOFTSTART ∨ s.b.ist n = iREGULATING ∨ s.b.ist n = iOPEN) →
       (atLeast1 (s.b.f IB_WIN.QUAL n) ≤ (s.b.bk n).ov → Completes (.buckRailOv n) s (BuckFaulted s n 2 18)) ∧
       (atLeast1 (s.b.f IB_WIN.QUAL n) ≤ (s.b.bk n).uv → Completes (.buckRailUv n) s (BuckFaulted s n 3 17)) ∧
       (atLeast1 (s.b.f IB_ILIM.OC_QUAL n) ≤ (s.b.bk n).oc → Completes (.buckRailOc n) s (BuckFaulted s n 4 19)) ∧
       (∀ mv : Int, mv < 7200 → Completes (.buckVinUv n mv) s (BuckFaulted s n 8 40)) ∧
       (∀ mc : Int, 170000 < mc → Completes (.buckThermal n mc) s (BuckFaulted s n 9 40))) ∧
     (s.b.ist n = iOPEN → 2000 < (s.b.bk n).openTicks → Completes (.buckOpenTime n) s (BuckFaulted s n 5 39)) ∧
     (s.b.ist n = iSOFTSTART → atLeast1 (s.b.f IB_RAMP.SS_TMAX n) * 2000 < (s.b.bk n).ssTicks → (s.b.bk n).inside < 16 →
       Completes (.buckSsTimeout n) s (BuckFaulted s n 3 17)) ∧
     (16 ≤ (s.b.bk n).inside → NoEffect (.buckSsTimeout n) s) ∧
     (s.b.ist n = iSOFTSTART → 16 ≤ (s.b.bk n).inside →
       Completes (.buckSoftstartComplete n) s fun b' => b'.ist n = iREGULATING ∧ Same s.b b' [(IB_STATE.STATE, n)]) ∧
     ((s.b.bk n).inside < 16 → NoEffect (.buckSoftstartComplete n) s) ∧
     (∀ mv : Int, 7200 ≤ mv → NoEffect (.buckVinUv n mv) s) ∧
     (∀ mc : Int, mc ≤ 170000 → NoEffect (.buckThermal n mc) s))

/-- The LDOs (R141, R142, R231, R464): the enable with its ramp from the output, the disable, a new code while on, the completion after 16
ticks inside the window and the stops after 4, 4 and 64 ticks and above 170 °C. The LDO set-point and its applied code (R141): 0.800 V
in steps of 25 mV up to 5.000 V, below the code ceiling. The model's own readings in it: log entries 9, 10, 40, 44. -/
def Obligations.LdosActAsStated : Prop :=
  (∀ (s : State) (n : Fin 6), running s.b = true → Fresh s (.ldo n) →
     (s.b.barred (16 + n) = false → s.b.dst n = iDISABLED →
       Completes (.ldoEnable n) s fun b' =>
         b'.dst n = iSOFTSTART ∧ b'.f LDO_CTL.EN n = 1 ∧ (b'.ld n).ramp = s.b.ldoUv n ∧ (b'.ld n).inside = 0 ∧
         Same s.b b' [(LDO_CTL.EN, n), (LDO_STATE.STATE, n)] ∧ (∀ j : Fin 6, j ≠ n → b'.ld j = s.b.ld j) ∧
         b' = { s.b with regs := b'.regs, ldo := b'.ldo, evts := b'.evts, lines := b'.lines }) ∧
     ((s.b.safeNow = true ∨ s.b.lineBars (16 + n) = true) → NoEffect (.ldoEnable n) s) ∧
     ((s.b.dst n = iSOFTSTART ∨ s.b.dst n = iREGULATING) →
       Completes (.ldoDisable n) s fun b' =>
         b'.dst n = iDISABLED ∧ b'.f LDO_CTL.EN n = 0 ∧ b'.f LDO_STATE.CAUSE n = 1 ∧
         Same s.b b' [(LDO_CTL.EN, n), (LDO_STATE.STATE, n), (LDO_STATE.CAUSE, n)]) ∧
     ((s.b.dst n = iSOFTSTART ∨ s.b.dst n = iREGULATING) →
       (4 ≤ (s.b.ld n).uv → Completes (.ldoRailUv n) s (LdoFaulted s n 3 17)) ∧
       (4 ≤ (s.b.ld n).ov → Completes (.ldoRailOv n) s (LdoFaulted s n 2 18)) ∧
       (64 ≤ (s.b.ld n).oc → Completes (.ldoRailOc n) s (LdoFaulted s n 4 19)) ∧
       (∀ mc : Int, 170000 < mc → Completes (.ldoThermal n mc) s (LdoFaulted s n 9 40))) ∧
     ((s.b.ld n).uv < 4 → NoEffect (.ldoRailUv n) s) ∧ ((s.b.ld n).ov < 4 → NoEffect (.ldoRailOv n) s) ∧
     ((s.b.ld n).oc < 64 → NoEffect (.ldoRailOc n) s) ∧
     (s.b.dst n = iSOFTSTART → 16 ≤ (s.b.ld n).inside →
       Completes (.ldoSoftstartComplete n) s fun b' => b'.dst n = iREGULATING ∧ Same s.b b' [(LDO_STATE.STATE, n)]) ∧
     (∀ v : Nat,
       Completes (.ldoCodeWrite n v) s fun b' =>
         b'.f LDO_CTL.CODE n = v % 2 ^ LDO_CTL.CODE.w ∧ b'.dst n = s.b.dst n ∧ Same s.b b' [(LDO_CTL.CODE, n)] ∧
         ((s.b.dst n = iSOFTSTART ∨ s.b.dst n = iREGULATING) → b'.ldoCode n ≠ s.b.ldoCode n →
           (b'.ld n).ramp = (s.b.ld n).vPrev) ∧
         (b'.ldoCode n = s.b.ldoCode n → b'.ld n = s.b.ld n))) ∧
  (∀ (b : Blk) (n : Fin 6), 800000 ≤ b.ldoVset n ∧ b.ldoVset n ≤ 5000000 ∧
     b.ldoVset n = 800000 + (min (min (b.f LDO_CTL.CODE n) 168) (b.f LDO_KLIM.CODE_CEIL n) : Nat) * (25000 : Int))

/-! Measurement, monitors, temperatures and throttling -/

/-- ADC_DISPUTE_DECISION (R181, R183, R184): the majority of the three results decides and a dispute ends. All alike is transient; a table
converter alone apart is replaced by S while a spare is left; S alone apart exhausts the spares; a check repeat leaves an open dispute
to its own arbitration; with no decision due nothing changes. MON_CORE_TEST_OUTCOME (R205, R206): two passes are transient; a failed
core of a monitor on its own core goes to the lowest unused spare; a failed spare is retired; before the third test tick, or without a
test, nothing changes. The model's own readings in it: log entries 10, 30, 70, 182. -/
def Obligations.DisputesAndCoreTestsDecide : Prop :=
  (∀ (s : State) (x y z : Int), running s.b = true → s.b.f ADC_STATUS.SUBST 0 = 0 →
     (s.b.adc.dec = [(0, x, y, z)] →
       ¬ beyond (s.b.f ADC_CFG.SHD_TOL 0) x y → ¬ beyond (s.b.f ADC_CFG.SHD_TOL 0) x z → ¬ beyond (s.b.f ADC_CFG.SHD_TOL 0) y z →
       Completes .adcDisputeDecision s fun b' =>
         b'.f ADC_STATUS.DISPUTE 0 = 0 ∧ b'.adc.dec = [] ∧
         b'.f ADC_COUNTS.SHD_TRANSIENT 0 =
           satInc (2 ^ ADC_COUNTS.SHD_TRANSIENT.w - 1) (s.b.f ADC_COUNTS.SHD_TRANSIENT 0) % 2 ^ ADC_COUNTS.SHD_TRANSIENT.w ∧
         Same s.b b' [(ADC_STATUS.DISPUTE, 0), (ADC_STATUS.SHADOW, 0), (ADC_COUNTS.SHD_TRANSIENT, 0)]) ∧
     (s.b.adc.dec = [(0, x, y, z)] → s.b.sparesLeft 4 ≠ 0 → ¬ beyond (s.b.f ADC_CFG.SHD_TOL 0) x z →
       beyond (s.b.f ADC_CFG.SHD_TOL 0) x y → beyond (s.b.f ADC_CFG.SHD_TOL 0) y z →
       Completes .adcDisputeDecision s fun b' =>
         b'.f ADC_STATUS.SUBST 0 = 2 ∧ b'.f ADC_STATUS.SHADOW 0 = 0 ∧ b'.f ADC_STATUS.DISPUTE 0 = 0 ∧ b'.adc.arbWait = none ∧
         Raised b' s.tick 44 0xFFFF) ∧
     (s.b.adc.dec = [(0, x, y, z)] → s.b.sparesLeft 4 ≠ 0 → ¬ beyond (s.b.f ADC_CFG.SHD_TOL 0) y z →
       beyond (s.b.f ADC_CFG.SHD_TOL 0) x y → beyond (s.b.f ADC_CFG.SHD_TOL 0) x z →
       Completes .adcDisputeDecision s fun b' =>
         b'.f ADC_STATUS.SUBST 0 = 1 ∧ b'.f ADC_STATUS.SHADOW 0 = 0 ∧ b'.f ADC_STATUS.DISPUTE 0 = 0 ∧ b'.adc.arbWait = none ∧
         Raised b' s.tick 44 0xFFFF) ∧
     (s.b.adc.dec = [(0, x, y, z)] → ¬ beyond (s.b.f ADC_CFG.SHD_TOL 0) x y → beyond (s.b.f ADC_CFG.SHD_TOL 0) x z →
       beyond (s.b.f ADC_CFG.SHD_TOL 0) y z →
       Completes .adcDisputeDecision s fun b' =>
         b'.f ADC_STATUS.SUBST 0 = 0 ∧ b'.f ADC_STATUS.DISPUTE 0 = 0 ∧ Raised b' s.tick 12 0xFFFF) ∧
     (s.b.adc.dec = [(0, x, y, z)] → beyond (s.b.f ADC_CFG.SHD_TOL 0) x y → beyond (s.b.f ADC_CFG.SHD_TOL 0) x z →
       beyond (s.b.f ADC_CFG.SHD_TOL 0) y z →
       Completes .adcDisputeDecision s fun b' =>
         b'.f ADC_STATUS.SUBST 0 = 0 ∧ b'.f ADC_STATUS.DISPUTE 0 = 0 ∧ Raised b' s.tick 11 0xFFFF) ∧
     (s.b.adc.dec = [(1, x, y, z)] → ¬ beyond (s.b.f ADC_CFG.CHK_TOL 0) x y → beyond (s.b.f ADC_CFG.CHK_TOL 0) x z →
       beyond (s.b.f ADC_CFG.CHK_TOL 0) y z →
       Completes .adcDisputeDecision s fun b' => b'.adc.dec = [] ∧ Raised b' s.tick 12 0xFFFF ∧ Same s.b b' []) ∧
     (s.b.adc.dec = [] → NoEffect .adcDisputeDecision s)) ∧
  (∀ (s : State), running s.b = true →
     (∀ nn r : Nat, s.b.mons.test = some (nn, 0, r) →
       Completes (.monCoreTestOutcome true true) s fun b' =>
         b'.mons.test = none ∧
         b'.f CMP_COUNTS.CMP_TRANSIENT 0 =
           satInc (2 ^ CMP_COUNTS.CMP_TRANSIENT.w - 1) (s.b.f CMP_COUNTS.CMP_TRANSIENT 0) % 2 ^ CMP_COUNTS.CMP_TRANSIENT.w ∧
         Same s.b b' [(CMP_COUNTS.CMP_TRANSIENT, 0)]) ∧
     (∀ (nn : Fin 32) (r : Nat) (x : Fin 2), s.b.mons.test = some (nn.val, 0, r) → unusedCore s.b = some x.val →
       s.b.f MON_STAT.CORE nn = 0 →
       Completes (.monCoreTestOutcome false true) s fun b' =>
         b'.mons.test = none ∧ b'.f MON_STAT.CORE nn = x + 1 ∧ spareCore b' x = nn) ∧
     (∀ (nn : Fin 32) (r : Nat) (x : Fin 2), s.b.mons.test = some (nn.val, 0, r) → unusedCore s.b = some x.val →
       Completes (.monCoreTestOutcome true false) s fun b' =>
         b'.mons.test = none ∧ spareCore b' x = 0xFE ∧ b'.f MON_STAT.CORE nn = s.b.f MON_STAT.CORE nn) ∧
     (∀ (p q : Bool) (nn k r : Nat), s.b.mons.test = none ∨ s.b.mons.test = some (nn, k + 1, r) →
       NoEffect (.monCoreTestOutcome p q) s))

/-- ACC_LATCH and TRACKER_LATCH (R189, R191): each enabled instance whose bit is set shows what it has gathered and starts anew; every other
instance keeps what it shows and what it has gathered. LEGACY_ADC_DATA_READ (R193, R194, R387): the NEW and OVR bits of the reading port
alone become due to clear; the data stays. A port that does not answer on its link reads nothing. The model's own readings in it: log
entries 6, 31, 183. -/
def Obligations.AccumulatorsAndLegacyReads : Prop :=
  (∀ (s : State) (k : Fin 4) (m : Nat) (j : Fin 32), running s.b = true →
     (bit m j = true → s.b.f ACC_CFG.EN (32 * k + j) = 1 →
       Completes (.accLatch k m) s fun b' =>
         b'.f64 ACC_SUM_LO.VALUE ACC_SUM_HI.VALUE (32 * k + j) = ux 64 (Tab.get s.b.acc {} (32 * k + j)).sum ∧
         b'.f64 ACC_SUMSQ_LO.VALUE ACC_SUMSQ_HI.VALUE (32 * k + j) = (Tab.get s.b.acc {} (32 * k + j)).sq % 2 ^ 64 ∧
         b'.f ACC_CNT.VALUE (32 * k + j) = (Tab.get s.b.acc {} (32 * k + j)).cnt % 2 ^ ACC_CNT.VALUE.w ∧
         b'.f ACC_STAT.PSN_CNT (32 * k + j) = (Tab.get s.b.acc {} (32 * k + j)).psn % 2 ^ ACC_STAT.PSN_CNT.w ∧
         b'.f ACC_STAT.SAT (32 * k + j) = b2n (Tab.get s.b.acc {} (32 * k + j)).sat ∧
         b'.f ACC_STAT.SEQ (32 * k + j) = (s.b.f ACC_STAT.SEQ (32 * k + j) + 1) % 2 ^ ACC_STAT.SEQ.w ∧
         Tab.get b'.acc {} (32 * k + j) = { ch := some (s.b.f ACC_CFG.CH (32 * k + j)) }) ∧
     (bit m j = false ∨ s.b.f ACC_CFG.EN (32 * k + j) = 0 →
       Completes (.accLatch k m) s fun b' =>
         b'.f ACC_CNT.VALUE (32 * k + j) = s.b.f ACC_CNT.VALUE (32 * k + j) ∧
         b'.f ACC_STAT.SEQ (32 * k + j) = s.b.f ACC_STAT.SEQ (32 * k + j) ∧
         Tab.get b'.acc {} (32 * k + j) = Tab.get s.b.acc {} (32 * k + j)) ∧
     (bit m j = true → s.b.f ACC_TRK_CFG.EN (32 * k + j) = 1 →
       Completes (.trackerLatch k m) s fun b' =>
         b'.f ACC_TRK_MINMAX.MIN (32 * k + j) =
           ux ACC_TRK_MINMAX.MIN.w ((Tab.get s.b.trk {} (32 * k + j)).min.getD (32767, 0)).1 ∧
         b'.f ACC_TRK_MINMAX.MAX (32 * k + j) =
           ux ACC_TRK_MINMAX.MAX.w ((Tab.get s.b.trk {} (32 * k + j)).max.getD (-32768, 0)).1 ∧
         Tab.get b'.trk {} (32 * k + j) = {}) ∧
     (bit m j = false ∨ s.b.f ACC_TRK_CFG.EN (32 * k + j) = 0 →
       Completes (.trackerLatch k m) s fun b' =>
         b'.f ACC_TRK_MINMAX.MIN (32 * k + j) = s.b.f ACC_TRK_MINMAX.MIN (32 * k + j) ∧
         Tab.get b'.trk {} (32 * k + j) = Tab.get s.b.trk {} (32 * k + j))) ∧
  (∀ (s : State) (p q : Fin 4), running s.b = true →
     (portUp s.b p = false → NoEffect (.legacyAdcDataRead p) s) ∧
     (portUp s.b p = true → Completes (.legacyAdcDataRead p) s fun b' =>
       bit b'.adc.legClear p = true ∧ (q ≠ p → bit b'.adc.legClear q = bit s.b.adc.legClear q) ∧ Same s.b b' [] ∧
       bit (legacyClear b').adc.legNew p = false ∧ bit (legacyClear b').adc.legOvr p = false ∧
       Tab.get b'.rd 0 p = legacyValue s.b p ∧
       b' = { s.b with adc := { s.b.adc with legClear := b'.adc.legClear }, rd := b'.rd }))

/-- MON_RAIL_UV and MON_RAIL_OV (R197): raised after MQUAL results (a 0 counts as 1) with the DETAIL of the monitor, once per run, and only
where the monitor's fault is enabled. STANDBY_SAMPLE (R198, Hibernation): in STANDBY a monitor with STBY_EN outside its window sets
STBY_EXC, and the second sample in a row above IWAKE is a current wake where it is enabled; in any other device state nothing changes.
The model's own readings in it: log entries 10, 12, 19. -/
def Obligations.MonitorsRaiseAndWake : Prop :=
  (∀ (s : State) (nn : Fin 32), running s.b = true →
     (s.b.f MON_CFG.FLT_UV nn = 1 → atLeast1 (s.b.f MON_CFG.MQUAL nn) ≤ (s.b.mn nn).uv.n → (s.b.mn nn).uv.raised = false →
       Completes (.monRailUv nn) s fun b' =>
         Raised b' s.tick 17 (0x100 + nn) ∧ (b'.mn nn).uv.raised = true ∧ (∀ j : Fin 32, j ≠ nn → b'.mn j = s.b.mn j) ∧
         Same s.b b' [] ∧ b' = { s.b with mon := b'.mon, lines := b'.lines }) ∧
     (s.b.f MON_CFG.FLT_UV nn = 0 ∨ (s.b.mn nn).uv.raised = true ∨ (s.b.mn nn).uv.n < s.b.f MON_CFG.MQUAL nn →
       NoEffect (.monRailUv nn) s) ∧
     (s.b.f MON_CFG.FLT_OV nn = 1 → atLeast1 (s.b.f MON_CFG.MQUAL nn) ≤ (s.b.mn nn).ov.n → (s.b.mn nn).ov.raised = false →
       Completes (.monRailOv nn) s fun b' =>
         Raised b' s.tick 18 (0x100 + nn) ∧ (b'.mn nn).ov.raised = true ∧ Same s.b b' [] ∧
         b' = { s.b with mon := b'.mon, lines := b'.lines }) ∧
     (s.b.f MON_CFG.FLT_OV nn = 0 ∨ (s.b.mn nn).ov.raised = true ∨ (s.b.mn nn).ov.n < s.b.f MON_CFG.MQUAL nn →
       NoEffect (.monRailOv nn) s)) ∧
  (∀ (s : State),
     (∀ nn : Fin 32, s.b.dev = .standby → s.b.f MON_CFG.STBY_EN nn = 1 → monCompare s.b nn ≠ 1 →
       Completes .standbySample s fun b' => b'.f MON_STAT.STBY_EXC nn = 1) ∧
     (∀ nn : Fin 32, s.b.dev = .standby → (s.b.f MON_CFG.STBY_EN nn = 0 ∨ monCompare s.b nn = 1) →
       Completes .standbySample s fun b' => b'.f MON_STAT.STBY_EXC nn = s.b.f MON_STAT.STBY_EXC nn) ∧
     (s.b.dev = .standby → 1 ≤ s.b.biv.cur → bit (s.b.f BIV_WAKE_CFG.WAKE_EN 0) 2 = true →
       s.b.f GAUGE_CFG.IWAKE 0 * s.b.f ADC_PSHUNT.SHUNT 0 < 200 * (s.b.sig (.cal 0x79)).natAbs →
       Completes .standbySample s fun b' => bit (b'.f BIV_WAKE_CAUSE.CAUSE 0) 2 = true) ∧
     (s.b.dev ≠ .standby → NoEffect .standbySample s))

/-- SENSOR_BROKEN_CLEAR (R211): marks written by an OWNER-class writer clear at the next evaluation; other writers change nothing.
DIE_SHUTDOWN and DIE_SHUTDOWN_RELEASE (R214, R295): a quadrant hot for 16 edges stops Keeper, sets SHUTDOWN and asserts the safe-state
line of a running device, and the shutdown block holds REASON TEMP; 2,048 cool edges start Keeper again. THROTTLE_ENFORCE and
THROTTLE_RELEASE (R216 to R219): enforcement after the grace period with the condition present raises THROTTLE and has the channel's
loop choose its enforced index at the next edge; release after REL_SR absent evaluations takes the enforcement and the channel's limit
back and has the loop choose anew. The model's own readings in it: log entries 6, 10, 57, 58, 166. -/
def Obligations.TemperatureAndThrottling : Prop :=
  (∀ (s : State) (o : Fin 4) (m : Nat), running s.b = true →
     (o = 2 →
       Completes (.sensorBrokenClear o m) s fun b' =>
         b'.therm.clear = s.b.therm.clear ||| (m % 4096) ∧ Same s.b b' [] ∧
         b' = { s.b with therm := { s.b.therm with clear := b'.therm.clear } }) ∧
     (o ≠ 2 → NoEffect (.sensorBrokenClear o m) s)) ∧
  (∀ (s : State),
     (s.b.therm.stopped = false → (∃ n ∈ s.b.therm.hot, 16 ≤ n) → s.b.biv.ram.length = 256 →
       Completes .dieShutdown s fun b' =>
         b'.therm.stopped = true ∧ b'.f THERM_BROKEN.SHUTDOWN 0 = 1 ∧ b'.biv.ram.getD 0xA4 0 = 5 ∧
         (running s.b = true → b'.f FAULT_STATE.SAFE_LINE 0 = 1)) ∧
     ((∀ n ∈ s.b.therm.hot, n < 16) → NoEffect .dieShutdown s) ∧
     (running s.b = true → s.b.therm.stopped = true → 2048 ≤ s.b.therm.cool → 
       Completes .dieShutdownRelease s fun b' =>
         b'.therm.stopped = false ∧ b'.col.due = setBit s.b.col.due 3 ∧ Same s.b b' [] ∧
         b' = { s.b with therm := b'.therm, col := b'.col }) ∧
     (s.b.therm.cool < 2048 → NoEffect .dieShutdownRelease s)) ∧
  (∀ (s : State) (k : Fin 4) (n : Fin 8), running s.b = true → s.b.f THR_CFG.LOOP k = n →
     (s.b.f THR_CFG.ENF k = 1 → s.b.f THR_CTL.ACTIVE k = 1 → s.b.f THR_CTL.ENFORCED k = 0 →
       (s.b.th k).since + s.b.f THR_CTL.GRACE k * 2000 ≤ s.tick + 1 →
       ((s.b.th k).now = true ∨ (s.b.th k).temp = true ∧ s.b.therm.evalAt = s.tick + 1) →
       Completes (.throttleEnforce k) s fun b' =>
         b'.f THR_CTL.ENFORCED k = 1 ∧ (b'.th k).lim = false ∧ (b'.lp n).enfDue = true ∧ Raised b' s.tick 41 0xFFFF ∧
         Same s.b b' [(THR_CTL.ENFORCED, k)] ∧ (∀ j : Fin 8, j ≠ n → b'.lp j = s.b.lp j) ∧
         b' = { s.b with regs := b'.regs, thr := b'.thr, loop := b'.loop, lines := b'.lines }) ∧
     (s.b.f THR_CFG.ENF k = 0 ∨ s.b.f THR_CTL.ACTIVE k = 0 ∨ s.b.f THR_CTL.ENFORCED k = 1 ∨
         s.tick + 1 < (s.b.th k).since + s.b.f THR_CTL.GRACE k * 2000 →
       NoEffect (.throttleEnforce k) s) ∧
     (s.b.f THR_CTL.ACTIVE k = 1 → atLeast1 (s.b.f THR_ENF.REL_SR k) ≤ (s.b.th k).absent → s.b.therm.evalAt = s.tick + 1 →
       Completes (.throttleRelease k) s fun b' =>
         b'.f THR_CTL.ACTIVE k = 0 ∧ b'.f THR_CTL.ENFORCED k = 0 ∧ (b'.th k).lim = false ∧ (b'.th k).absent = 0 ∧
         (b'.lp n).enfDue = true ∧ Same s.b b' [(THR_CTL.ACTIVE, k), (THR_CTL.ENFORCED, k)] ∧
         b' = { s.b with regs := b'.regs, thr := b'.thr, loop := b'.loop }) ∧
     ((s.b.th k).absent < s.b.f THR_ENF.REL_SR k ∨ s.b.f THR_CTL.ACTIVE k = 0 → NoEffect (.throttleRelease k) s))

/-! Sequencing -/

/-- A start acted on (R222, R224, R233): the group is STARTING with step 0 entered; without a token to wait for, every output of the step is
enabled in the same tick and no other loop, buck or berth leaves its state. A start that is not permitted sets START_PEND; one of a
group without steps, or under the safe state, has no effect (R464). PENDING_START (R233): a pending start begins once permitted; a WAKE
request that is gone is cleared instead. The model's own readings in it: log entries 9, 69, 163, 176. -/
def Obligations.GroupStartsOrWaits : Prop :=
  (∀ (s : State) (g : Fin 8) (o : Fin 4), running s.b = true →
     (s.b.f SEQ_GRP_STEPS.COUNT g ≠ 0 → s.b.safeNow = false → MayStart s g → Fresh s (.grp g) →
       Completes (.seqGrpStart g o) s fun b' =>
         b'.gst g = gSTARTING ∧ b'.f SEQ_GRP_STATE.STEP g = 0 ∧ b'.f SEQ_GRP_STATE.START_PEND g = 0 ∧
         b'.f64 SEQ_GRP_TICK_LO.TICK SEQ_GRP_TICK_HI.TICK g = (s.tick + 1) % 2 ^ 64 ∧
         (b'.gr g).origin = o ∧ (b'.gr g).entered = s.tick ∧
         (∀ h : Fin 8, h ≠ g → b'.gst h = s.b.gst h) ∧
         (s.b.f SEQ_STEP_TOK.WAIT_EN (poolStep s.b g 0) = 0 → s.b.f SEQ_DOMAIN.ALLOFF_LINE 0 = 0 →
           (b'.gr g).issued = some s.tick ∧
           (∀ e : Fin 10, bit (stepMask s.b (poolStep s.b g 0)) (54 + e) = true → bit b'.seq.en e = true) ∧
           (∀ nn : Fin 32, bit (stepMask s.b (poolStep s.b g 0)) (22 + nn) = true → s.b.bst nn = bOFF → Fresh s (.berth nn) →
             b'.bst nn = bPENDING ∧ (b'.brt nn).origin = o)) ∧
         (∀ n : Fin 8, bit (stepMask s.b (poolStep s.b g 0)) n = false → b'.lst n = s.b.lst n) ∧
         (∀ n : Fin 8, bit (stepMask s.b (poolStep s.b g 0)) (8 + n) = false → b'.ist n = s.b.ist n) ∧
         (∀ nn : Fin 32, bit (stepMask s.b (poolStep s.b g 0)) (22 + nn) = false → b'.bst nn = s.b.bst nn)) ∧
     (s.b.f SEQ_GRP_STEPS.COUNT g ≠ 0 → s.b.safeNow = false → ¬ MayStart s g → Fresh s (.grp g) →
       Completes (.seqGrpStart g o) s fun b' =>
         b'.f SEQ_GRP_STATE.START_PEND g = 1 ∧ Same s.b b' [(SEQ_GRP_STATE.START_PEND, g)]) ∧
     (s.b.f SEQ_GRP_STEPS.COUNT g = 0 ∨ s.b.safeNow = true → NoEffect (.seqGrpStart g o) s)) ∧
  (∀ (s : State) (g : Fin 8), running s.b = true → s.b.f SEQ_GRP_STATE.START_PEND g = 1 → MayStart s g → Fresh s (.grp g) →
     s.b.safeNow = false →
     ((s.b.f SEQ_GRP_CFG.START_SRC g ≠ 2 ∨ s.b.seq.wakeIn = true) →
       Completes (.pendingStart g) s fun b' =>
         b'.gst g = gSTARTING ∧ b'.f SEQ_GRP_STATE.STEP g = 0 ∧ b'.f SEQ_GRP_STATE.START_PEND g = 0 ∧
         (b'.gr g).entered = s.tick) ∧
     (s.b.f SEQ_GRP_CFG.START_SRC g = 2 → s.b.seq.wakeIn = false →
       Completes (.pendingStart g) s fun b' =>
         b'.gst g = gIDLE ∧ b'.f SEQ_GRP_STATE.START_PEND g = 0 ∧ Same s.b b' [(SEQ_GRP_STATE.START_PEND, g)]))

/-- SEQ_GRP_STOP (R229, R232): a group that is STARTING or UP begins its stop at the last entered step, whose disables are issued in the
same tick; in any other state the request has no effect. The steps of a stop (R232): the disables after OFF_DLY; the step counted off
when all its outputs are, down to IDLE; the timeout forces them off, raises SEQ_TIMEOUT with STOP and counts the step off outside the
domain. The model's own readings in it: log entries 9, 10. -/
def Obligations.GroupStopsStepByStep : Prop :=
  (∀ (s : State) (g : Fin 8), running s.b = true → Fresh s (.grp g) →
     ((s.b.gst g = gSTARTING ∨ s.b.gst g = gUP) →
       Completes (.seqGrpStop g) s fun b' =>
         b'.gst g = gSTOPPING ∧ b'.f SEQ_GRP_STATE.CAUSE g = 1 ∧ b'.f SEQ_GRP_STATE.STEP g = s.b.f SEQ_GRP_STATE.STEP g ∧
         (b'.gr g).disAt = some s.tick ∧ (b'.gr g).toks = [] ∧ (∀ h : Fin 8, h ≠ g → b'.gst h = s.b.gst h) ∧
         (∀ e : Fin 10, bit (stepMask s.b (curStep s.b g)) (54 + e) = true → bit b'.seq.en e = false) ∧
         (∀ nn : Fin 32, bit (stepMask s.b (curStep s.b g)) (22 + nn) = true → s.b.bst nn = bON → Fresh s (.berth nn) →
           b'.bst nn = bOFF ∧ b'.f BERTH_STATE.CAUSE nn = 1) ∧
         (∀ n : Fin 8, bit (stepMask s.b (curStep s.b g)) n = false → b'.lst n = s.b.lst n)) ∧
     (s.b.gst g ≠ gSTARTING → s.b.gst g ≠ gUP → NoEffect (.seqGrpStop g) s)) ∧
  (∀ (s : State) (g : Fin 8), running s.b = true → s.b.gst g = gSTOPPING →
     (∀ d : Nat, (s.b.gr g).stopDue = some d → d ≤ s.tick →
       Completes (.stopStepDelay g) s fun b' =>
         (b'.gr g).disAt = some s.tick ∧ (b'.gr g).stopDue = none ∧ b'.gst g = gSTOPPING) ∧
     (∀ d : Nat, (s.b.gr g).stopDue = some d → s.tick < d → NoEffect (.stopStepDelay g) s) ∧
     (∀ d : Nat, (s.b.gr g).disAt = some d → d < s.tick →
       (∀ o ∈ stepOuts s.b (curStep s.b g), offSeen s.b s.tick d o = true) →
       (s.b.f SEQ_GRP_STATE.STEP g = 0 →
         Completes (.stopStepOff g) s fun b' =>
           b'.gst g = gIDLE ∧ (b'.gr g).idleAt = some (s.tick + 1) ∧ (b'.gr g).disAt = none ∧
           Same s.b b' [(SEQ_GRP_STATE.STATE, g), (SEQ_GRP_TICK_LO.TICK, g), (SEQ_GRP_TICK_HI.TICK, g)]) ∧
       (∀ i : Fin 15, s.b.f SEQ_GRP_STATE.STEP g = i + 1 → s.b.f SEQ_STEP_OFF.OFF_DLY (poolStep s.b g i) = 0 →
         Completes (.stopStepOff g) s fun b' => b'.f SEQ_GRP_STATE.STEP g = i ∧ (b'.gr g).disAt = some s.tick) ∧
       (∀ i : Fin 15, s.b.f SEQ_GRP_STATE.STEP g = i + 1 → s.b.f SEQ_STEP_OFF.OFF_DLY (poolStep s.b g i) ≠ 0 →
         Completes (.stopStepOff g) s fun b' =>
           b'.f SEQ_GRP_STATE.STEP g = i ∧
           (b'.gr g).stopDue = some (s.tick + 200 * s.b.f SEQ_STEP_OFF.OFF_DLY (poolStep s.b g i)))) ∧
     (∀ d : Nat, Fresh s (.grp g) → (s.b.gr g).disAt = some d → d + offTmoTicks s.b (curStep s.b g) < s.tick →
       (∃ o ∈ stepOuts s.b (curStep s.b g), offSeen s.b s.tick d o = false) →
       Completes (.stopStepTimeout g) s fun b' =>
         b'.f SEQ_GRP_FAULT.STOP g = 1 ∧ b'.f SEQ_GRP_FAULT.STEP g = s.b.f SEQ_GRP_STATE.STEP g % 2 ^ SEQ_GRP_FAULT.STEP.w ∧
         Raised b' s.tick 16 (0x8000 + g * 16 + s.b.f SEQ_GRP_STATE.STEP g) ∧
         (s.b.f SEQ_GRP_CFG.DOMAIN g = 0 → s.b.f SEQ_GRP_STATE.STEP g = 0 →
           b'.gst g = gIDLE ∧ b'.f SEQ_GRP_STATE.CAUSE g = 8) ∧
         (s.b.f SEQ_GRP_CFG.DOMAIN g = 1 → b'.f SEQ_DOMAIN.ALLOFF_LINE 0 = 1)))

/-- SEQ_GRP_ALLOFF_REQ (R230, R235): the line of the domain asserts and FOGHORN is driven from its rise in READY and RUN; the request is
ignored outside the domain. SEQ_GRP_ACK (R231, R234, R239): an ACK at T_OFF after the entry and in RUN takes the group from ALLOFF to
IDLE, and the line is released when no other domain group holds it; one that is not permitted sets ACK_REJ. FOGHORN (R235, R237): the
drive ends once the line is released and FH_MIN has passed; the second low sample in RUN is counted and raised, and takes every running
group of the domain to ALLOFF with cause FOGHORN unless the line is asserted already. The model's own readings in it: log entries 9, 39,
91, 176. -/
def Obligations.AllOffIsEnteredAndLeft : Prop :=
  (∀ (s : State) (g : Fin 8), running s.b = true →
     (s.b.f SEQ_GRP_CFG.DOMAIN g = 1 →
       Completes (.seqGrpAlloffReq g) s fun b' =>
         b'.f SEQ_DOMAIN.ALLOFF_LINE 0 = 1 ∧ b'.gst g = s.b.gst g ∧
         b'.seq.offDue = s.b.seq.offDue ++ [(g.val, 7)] ∧
         (s.b.f SEQ_DOMAIN.ALLOFF_LINE 0 = 0 → (s.b.dev = .ready ∨ s.b.dev = .run) →
           b'.f SEQ_DOMAIN.FH_DRIVE 0 = 1 ∨ s.b.f SEQ_DOMAIN.FH_DRIVE 0 ≠ 0) ∧
         Same s.b b' [(SEQ_DOMAIN.ALLOFF_LINE, 0), (SEQ_DOMAIN.FH_DRIVE, 0)]) ∧
     (s.b.f SEQ_GRP_CFG.DOMAIN g = 0 → NoEffect (.seqGrpAlloffReq g) s)) ∧
  (∀ (s : State) (g : Fin 8), running s.b = true → Fresh s (.grp g) →
     (s.b.f SEQ_GRP_STEPS.COUNT g ≠ 0 → s.b.safeNow = false → s.b.gst g = gALLOFF → (s.b.gr g).offAt + tOff s.b g ≤ s.tick → s.b.dev = .run →
       Completes (.seqGrpAck g) s fun b' =>
         b'.gst g = gIDLE ∧ (b'.gr g).idleAt = some (s.tick + 1) ∧
         b'.f SEQ_GRP_STATE.START_PEND g = (if (s.b.gr g).pendAt = s.tick + 1 then s.b.f SEQ_GRP_STATE.START_PEND g else 0) ∧
         b'.f SEQ_DOMAIN.ALLOFF_LINE 0 =
           (if s.b.seq.offDue = [] ∧ (∀ h : Fin 8, h ≠ g → s.b.gst h = gALLOFF → s.b.f SEQ_GRP_STATE.CAUSE h = 6) then 0
             else s.b.f SEQ_DOMAIN.ALLOFF_LINE 0) ∧
         Same s.b b' [(SEQ_GRP_STATE.STATE, g), (SEQ_GRP_STATE.START_PEND, g), (SEQ_GRP_TICK_LO.TICK, g),
           (SEQ_GRP_TICK_HI.TICK, g), (SEQ_DOMAIN.ALLOFF_LINE, 0)]) ∧
     (s.b.f SEQ_GRP_STEPS.COUNT g ≠ 0 →
       (s.b.safeNow = true ∨ s.b.gst g ≠ gALLOFF ∨ s.tick < (s.b.gr g).offAt + tOff s.b g ∨ s.b.dev ≠ .run) →
       Completes (.seqGrpAck g) s fun b' =>
         b'.f SEQ_GRP_STATE.ACK_REJ g = 1 ∧ Same s.b b' [(SEQ_GRP_STATE.ACK_REJ, g)] ∧ b' = { s.b with regs := b'.regs }) ∧
     (s.b.f SEQ_GRP_STEPS.COUNT g = 0 → NoEffect (.seqGrpAck g) s)) ∧
  (∀ (s : State), running s.b = true →
     (s.b.f SEQ_DOMAIN.FH_DRIVE 0 = 1 → s.b.f SEQ_DOMAIN.ALLOFF_LINE 0 = 0 →
       s.b.seq.fhSince + max 2 (s.b.f SEQ_TIMING.FH_MIN 0) ≤ s.tick + 1 →
       Completes .foghornRelease s fun b' => b'.f SEQ_DOMAIN.FH_DRIVE 0 = 0 ∧ Same s.b b' [(SEQ_DOMAIN.FH_DRIVE, 0)] ∧
         b' = { s.b with regs := b'.regs }) ∧
     (s.b.f SEQ_DOMAIN.ALLOFF_LINE 0 = 1 → NoEffect .foghornRelease s) ∧
     (s.b.dev = .run → 2 ≤ s.b.seq.fhLow → s.b.seq.fhHigh = true →
       Completes .foghornIn s fun b' =>
         b'.f SEQ_DOMAIN.FH_IN_COUNT 0 = satInc (2 ^ SEQ_DOMAIN.FH_IN_COUNT.w - 1) (s.b.f SEQ_DOMAIN.FH_IN_COUNT 0) % 2 ^ SEQ_DOMAIN.FH_IN_COUNT.w ∧
         Raised b' s.tick 21 0xFFFF ∧ b'.seq.fhHigh = false) ∧
     (∀ g : Fin 8, s.b.dev = .run → 2 ≤ s.b.seq.fhLow → s.b.seq.fhHigh = true → s.b.f SEQ_DOMAIN.ALLOFF_LINE 0 = 0 →
       s.b.f SEQ_GRP_CFG.DOMAIN g = 1 → s.b.gst g ≠ gIDLE → s.b.gst g ≠ gALLOFF → Fresh s (.grp g) →
       Completes .foghornIn s fun b' =>
         b'.gst g = gALLOFF ∧ b'.f SEQ_GRP_STATE.CAUSE g = 4 ∧ b'.f SEQ_DOMAIN.ALLOFF_LINE 0 = 1) ∧
     ((s.b.dev ≠ .run ∨ s.b.seq.fhLow < 2 ∨ s.b.seq.fhHigh = false) → NoEffect .foghornIn s))

/-- The steps of a start (R224 to R228): STEP_DELAY_EXPIRE enters the next step; STEP_QUALIFIED after Q ticks makes the group UP at its last
step, and otherwise enters the next step at once or after its delay; STEP_TOKEN_TARGET issues the enables of a waiting step one ring
tick before the target. Faults of a start and of a running group (R226, R230, R231): SEQ_TIMEOUT and MON_DROP record and raise what they
found; outside the domain the group stops with the matching cause, in the domain the ALL-OFF line asserts. The model's own readings in
it: log entries 10, 39. -/
def Obligations.StepsAdvanceOrFail : Prop :=
  (∀ (s : State) (g : Fin 8), running s.b = true → s.b.gst g = gSTARTING →
     (∀ d : Nat, (s.b.gr g).delayAt = some d → d ≤ s.tick →
       Completes (.stepDelayExpire g) s fun b' =>
         b'.f SEQ_GRP_STATE.STEP g = (s.b.f SEQ_GRP_STATE.STEP g + 1) % 2 ^ SEQ_GRP_STATE.STEP.w ∧
         (b'.gr g).entered = s.tick ∧ (b'.gr g).delayAt = none ∧ b'.gst g = gSTARTING) ∧
     (∀ d : Nat, (s.b.gr g).delayAt = some d → s.tick < d → NoEffect (.stepDelayExpire g) s) ∧
     (Fresh s (.grp g) → (s.b.gr g).issued ≠ none → qualTicks s.b (curStep s.b g) ≤ (s.b.gr g).qual →
       (s.b.f SEQ_GRP_STEPS.COUNT g ≤ s.b.f SEQ_GRP_STATE.STEP g + 1 →
         Completes (.stepQualified g) s fun b' => b'.gst g = gUP ∧ (b'.gr g).toks = []) ∧
       (s.b.f SEQ_GRP_STATE.STEP g + 1 < s.b.f SEQ_GRP_STEPS.COUNT g →
         delayTicks s.b (poolStep s.b g (s.b.f SEQ_GRP_STATE.STEP g + 1)) = 0 →
         Completes (.stepQualified g) s fun b' =>
           b'.gst g = gSTARTING ∧ b'.f SEQ_GRP_STATE.STEP g = (s.b.f SEQ_GRP_STATE.STEP g + 1) % 2 ^ SEQ_GRP_STATE.STEP.w ∧
           (b'.gr g).entered = s.tick) ∧
       (s.b.f SEQ_GRP_STATE.STEP g + 1 < s.b.f SEQ_GRP_STEPS.COUNT g →
         delayTicks s.b (poolStep s.b g (s.b.f SEQ_GRP_STATE.STEP g + 1)) ≠ 0 →
         Completes (.stepQualified g) s fun b' =>
           b'.f SEQ_GRP_STATE.STEP g = s.b.f SEQ_GRP_STATE.STEP g ∧
           (b'.gr g).delayAt = some (s.tick + delayTicks s.b (poolStep s.b g (s.b.f SEQ_GRP_STATE.STEP g + 1))))) ∧
     ((s.b.gr g).qual < qualTicks s.b (curStep s.b g) → NoEffect (.stepQualified g) s) ∧
     (Fresh s (.grp g) → s.b.f SEQ_STEP_TOK.WAIT_EN (curStep s.b g) = 1 → (s.b.gr g).issued = none →
       (s.b.gr g).delayAt = none → (s.b.gr g).qualN = s.b.f SEQ_GRP_STATE.STEP g →
       ∀ tgt : Nat, keptToken s.b g = some tgt → (tgt : Int) - 1 ≤ ringTick s.b s.tick →
         Completes (.stepTokenTarget g) s fun b' => (b'.gr g).issued = some s.tick ∧ b'.gst g = gSTARTING)) ∧
  (∀ (s : State) (g : Fin 8), running s.b = true → Fresh s (.grp g) →
     (s.b.gst g = gSTARTING → (s.b.gr g).delayAt = none → (s.b.gr g).qualN = s.b.f SEQ_GRP_STATE.STEP g →
       (s.b.gr g).entered + tmoTicks s.b (curStep s.b g) < s.tick →
       ¬((s.b.gr g).issued ≠ none ∧ qualTicks s.b (curStep s.b g) ≤ (s.b.gr g).qual) →
       Completes (.seqTimeout g) s fun b' =>
         b'.f SEQ_GRP_FAULT.STEP g = s.b.f SEQ_GRP_STATE.STEP g % 2 ^ SEQ_GRP_FAULT.STEP.w ∧ b'.f SEQ_GRP_FAULT.STOP g = 0 ∧
         Raised b' s.tick 16 (g * 16 + s.b.f SEQ_GRP_STATE.STEP g) ∧
         (s.b.f SEQ_GRP_CFG.DOMAIN g = 0 → b'.gst g = gSTOPPING ∧ b'.f SEQ_GRP_STATE.CAUSE g = 3) ∧
         (s.b.f SEQ_GRP_CFG.DOMAIN g = 1 → b'.gst g = gSTARTING ∧ b'.f SEQ_DOMAIN.ALLOFF_LINE 0 = 1)) ∧
     (s.tick ≤ (s.b.gr g).entered + tmoTicks s.b (curStep s.b g) → NoEffect (.seqTimeout g) s) ∧
     ((s.b.gr g).issued ≠ none → qualTicks s.b (curStep s.b g) ≤ (s.b.gr g).qual → NoEffect (.seqTimeout g) s) ∧
     (∀ o : Fin 64, s.b.f SEQ_OUT_CFG.GROUP o = g → s.b.f SEQ_OUT_CFG.PG_SRC o = 1 →
       atLeast1 (s.b.f SEQ_GRP_CFG.DROP_QUAL g) ≤ Tab.get s.b.seq.drop 0 o → (s.b.gst g = gSTARTING ∨ s.b.gst g = gUP) →
       Completes (.monDrop o) s fun b' =>
         Raised b' s.tick (if outMon s.b o = 0 then 17 else 18) (0x100 + s.b.f SEQ_OUT_CFG.MON o) ∧
         b'.f SEQ_GRP_FAULT.OUT g = o ∧
         (s.b.f SEQ_GRP_CFG.DOMAIN g = 0 → b'.gst g = gSTOPPING ∧ b'.f SEQ_GRP_STATE.CAUSE g = 2) ∧
         (s.b.f SEQ_GRP_CFG.DOMAIN g = 1 → b'.f SEQ_DOMAIN.ALLOFF_LINE 0 = 1)) ∧
     (∀ o : Fin 64, s.b.f SEQ_OUT_CFG.PG_SRC o ≠ 1 → NoEffect (.monDrop o) s))

/-! Keep-alive, charger, pack and gauge -/

/-- The KEEP controller (R241 to R243, R248): takeover below KEEP_ON stops the charger's switches; a reverse voltage pulls the gate down and
a forward one drives it again, also without the core clock; DIODE returns to ARMED after 16 ticks without conduction or at the source
loop's entry to SOFTSTART. The hand-over (R247, R249, R250, R15): the dwell complete returns to ON_SOURCE, cancels the shutdown timer
and records the return with ATTN_CAUSE unchanged; the timer's expiry stops the named groups with cause HANDOVER unless the dwell
completes with it. The model's own readings in it: log entries 10, 41. -/
def Obligations.KeepTakesOverAndHandsBack : Prop :=
  (∀ (s : State),
     (∀ mv : Nat, running s.b = true → s.b.kst = kARMED → mv < s.b.f KEEP_CFG.KEEP_ON 0 * 100 →
       Completes (.keepTakeover mv) s fun b' =>
         b'.kst = kDIODE ∧ b'.chg.run = false ∧ b'.keep.revOff = false ∧ Same s.b b' [(KEEP_STATUS.KSTATE, 0)] ∧
         b' = { s.b with regs := b'.regs, keep := b'.keep, chg := b'.chg }) ∧
     (∀ mv : Nat, s.b.f KEEP_CFG.KEEP_ON 0 * 100 ≤ mv → NoEffect (.keepTakeover mv) s) ∧
     (∀ uv : Int, s.b.kst = kDIODE → s.b.keep.revOff = false → uv < -((s.b.f KEEP_CFG.REV_MV 0 : Int) * 1000) →
       Completes (.keepReverseOff uv) s fun b' => keepGate b' = false ∧ b' = { s.b with keep := { s.b.keep with revOff := true } }) ∧
     (∀ uv : Int, s.b.kst = kDIODE → s.b.keep.revOff = true → 10000 < uv →
       Completes (.keepResume uv) s fun b' =>
         keepGate b' = true ∧ b'.chg.run = false ∧ Same s.b b' [] ∧ b' = { s.b with keep := b'.keep, chg := b'.chg }) ∧
     (∀ uv : Int, uv ≤ 10000 → NoEffect (.keepResume uv) s) ∧
     (running s.b = true → s.b.kst = kDIODE → (16 ≤ s.b.keep.nonCond ∨ (srcIn s.b lSOFTSTART = true ∧ s.b.keep.srcSS = false)) →
       Completes .keepRearm s fun b' =>
         b'.kst = kARMED ∧ Same s.b b' [(KEEP_STATUS.KSTATE, 0)] ∧ b' = { s.b with regs := b'.regs, keep := b'.keep }) ∧
     (running s.b = true → s.b.kst ≠ kDIODE → NoEffect .keepRearm s) ∧
     (running s.b = true → atLeast1 (s.b.f KBUS_WIN.QUAL 0) ≤ s.b.keep.uv.n → s.b.keep.uv.raised = false →
       Completes .kbusUv s fun b' => b'.keep.uv.raised = true ∧ Raised b' s.tick 29 0xFFFF ∧ Same s.b b' []) ∧
     (s.b.keep.uv.raised = true → NoEffect .kbusUv s)) ∧
  (∀ (s : State), running s.b = true →
     (s.b.hst = hDWELL → dwellTicks s.b ≤ s.b.f KEEP_STATUS.DWELL_CNT 0 →
       Completes .dwellComplete s fun b' =>
         b'.hst = hSOURCE ∧ b'.f KEEP_STATUS.DWELL_CNT 0 = 0 ∧ b'.f KEEP_STATUS.SD_RUN 0 = 0 ∧ b'.keep.sdAt = none ∧
         b'.f64 HO_TICK_LO.TICK HO_TICK_HI.TICK 0 = s.tick % 2 ^ 64 ∧ b'.attn = s.b.attn ∧
         Same s.b b' [(KEEP_STATUS.HO_STATE, 0), (KEEP_STATUS.DWELL_CNT, 0), (KEEP_STATUS.SD_RUN, 0), (HO_TICK_LO.TICK, 0),
           (HO_TICK_HI.TICK, 0), (SD_REMAIN.MS, 0)]) ∧
     ((s.b.hst ≠ hDWELL ∨ s.b.f KEEP_STATUS.DWELL_CNT 0 < dwellTicks s.b) → NoEffect .dwellComplete s) ∧
     (∀ (x : Nat) (g : Fin 8), s.b.keep.sdAt = some x → x ≤ s.tick → dwellDone s.b = false →
       bit (s.b.f HO_SD.SD_GROUPS 0) g = true → (s.b.gst g = gSTARTING ∨ s.b.gst g = gUP) → Fresh s (.grp g) →
       Completes .shutdownTimerExpire s fun b' =>
         b'.gst g = gSTOPPING ∧ b'.f SEQ_GRP_STATE.CAUSE g = 9 ∧ b'.f KEEP_STATUS.SD_RUN 0 = 0 ∧ b'.keep.sdAt = none ∧
         b'.keep.sdStby = s.b.on HO_SD.SD_STBY 0) ∧
     (∀ (x : Nat) (g : Fin 8), s.b.keep.sdAt = some x → x ≤ s.tick → dwellDone s.b = false →
       bit (s.b.f HO_SD.SD_GROUPS 0) g = false →
       Completes .shutdownTimerExpire s fun b' => b'.gst g = s.b.gst g ∧ b'.keep.sdAt = none) ∧
     (dwellDone s.b = true → NoEffect .shutdownTimerExpire s) ∧
     (∀ x : Nat, s.b.keep.sdAt = some x → s.tick < x → NoEffect .shutdownTimerExpire s))

/-- The charger's commands (R254, R257, R464): EN = 1 with no flag set leaves OFF for WAIT; EN = 0 in any state but OFF and FAULT ends in
OFF with cause CMD_OFF; SUSPEND runs the profile down to 0; its release with permission begins the profile from 0 anew. The charger's
limits (R254, R256, R257): each stops it in FAULT with EN cleared, its flag, its cause, its source and the CHARGER bit of every
ATTN_CAUSE; the clearing read takes FAULT to OFF; a complete profile in SUSPENDED switches off. The model's own readings in it: log
entries 9, 10, 32, 49, 50. -/
def Obligations.ChargerActsAsStated : Prop :=
  (∀ (s : State), running s.b = true → Fresh s .chg →
     (s.b.safeNow = false → s.b.cst = cOFF → s.b.f CHG_FAULT_FLAGS.FLAGS 0 = 0 →
       Completes .chgEnable s fun b' =>
         b'.cst = cWAIT ∧ b'.f CHG_CTL.EN 0 = 1 ∧ b'.chg.session = 0 ∧ Same s.b b' [(CHG_CTL.EN, 0), (CHG_STATE.STATE, 0)]) ∧
     (s.b.safeNow = false → (s.b.cst ≠ cOFF ∨ s.b.f CHG_FAULT_FLAGS.FLAGS 0 ≠ 0) →
       Completes .chgEnable s fun b' => b'.f CHG_CTL.EN 0 = 1 ∧ b'.cst = s.b.cst ∧ Same s.b b' [(CHG_CTL.EN, 0)]) ∧
     (s.b.safeNow = true → NoEffect .chgEnable s) ∧
     (s.b.cst ≠ cOFF → s.b.cst ≠ cFAULT →
       Completes .chgDisable s fun b' =>
         b'.cst = cOFF ∧ b'.f CHG_CTL.EN 0 = 0 ∧ b'.f CHG_STATE.CAUSE 0 = 1 ∧ b'.chg.run = false ∧
         Same s.b b' [(CHG_CTL.EN, 0), (CHG_STATE.STATE, 0), (CHG_STATE.CAUSE, 0)]) ∧
     (s.b.cst = cFAULT → Completes .chgDisable s fun b' => b'.cst = cFAULT ∧ b'.f CHG_CTL.EN 0 = 0) ∧
     (s.b.cst = cCHARGING →
       Completes .chgSuspend s fun b' =>
         b'.cst = cSUSPENDED ∧ b'.f CHG_CTL.SUSPEND 0 = 1 ∧ b'.chg.prof.tgt = 0 ∧
         Same s.b b' [(CHG_CTL.SUSPEND, 0), (CHG_STATE.STATE, 0)]) ∧
     (s.b.cst = cSUSPENDED → chgPermitted s.b = true →
       Completes .chgResume s fun b' =>
         b'.cst = cCHARGING ∧ b'.f CHG_CTL.SUSPEND 0 = 0 ∧ b'.chg.run = true ∧ b'.chg.prof.x = 0 ∧
         b'.chg.prof.tgt = ichgApplied s.b * 1000 * lsb) ∧
     (chgPermitted s.b = false →
       Completes .chgResume s fun b' => b'.f CHG_CTL.SUSPEND 0 = 0 ∧ b'.cst = s.b.cst ∧ Same s.b b' [(CHG_CTL.SUSPEND, 0)])) ∧
  (∀ (s : State), running s.b = true →
     (Fresh s .chg → s.b.cst ≠ cOFF →
       (∀ c : Fin 4, bit (s.b.f CHG_FAULT_FLAGS.FLAGS 0) 0 = false → 2 ≤ s.b.chg.cellOv.getD c 0 →
         Completes (.chgCellOv c) s (ChgFaulted s 0 3 26)) ∧
       (bit (s.b.f CHG_FAULT_FLAGS.FLAGS 0) 1 = false → 64 ≤ s.b.chg.oc → Completes .chgOc s (ChgFaulted s 1 4 26)) ∧
       (∀ ma : Nat, bit (s.b.f CHG_FAULT_FLAGS.FLAGS 0) 1 = false → 5000 < ma → s.b.chg.run = true →
         Completes (.chgPeakOc ma) s (ChgFaulted s 1 4 26)) ∧
       (bit (s.b.f CHG_FAULT_FLAGS.FLAGS 0) 2 = false → s.b.f CHG_SESSION.SESSION_H 0 * 7200000000 < s.b.chg.session →
         s.b.f CHG_CTL.EN 0 = 1 → Completes .chgTimer s (ChgFaulted s 2 5 47)) ∧
       (bit (s.b.f CHG_FAULT_FLAGS.FLAGS 0) 3 = false → 16 ≤ s.b.chg.ntc → Completes .chgPackTemp s (ChgFaulted s 3 6 46))) ∧
     (s.b.cst = cOFF → NoEffect .chgOc s ∧ NoEffect .chgTimer s ∧ NoEffect .chgPackTemp s) ∧
     (s.b.chg.oc < 64 → NoEffect .chgOc s) ∧ (s.b.chg.ntc < 16 → NoEffect .chgPackTemp s) ∧
     (∀ ma : Nat, ma ≤ 5000 → NoEffect (.chgPeakOc ma) s) ∧
     (Completes .chgFaultFlagsRead s fun b' =>
       b'.f CHG_FAULT_FLAGS.FLAGS 0 = 0 ∧ b'.cst = (if s.b.cst = cFAULT then cOFF else s.b.cst) ∧
       Tab.get b'.rd 0 4 = s.b.f CHG_FAULT_FLAGS.FLAGS 0 ∧
       Same s.b b' [(CHG_FAULT_FLAGS.FLAGS, 0), (CHG_STATE.STATE, 0)]) ∧
     (s.b.cst = cSUSPENDED → s.b.chg.prof.complete = true →
       Completes (.profileComplete 14) s fun b' => b'.chg.run = false ∧ b'.chg.duty = 0 ∧ b'.cst = cSUSPENDED))

/-- The pack (R258, R259, R268, R272): a removal stops the charger, forgets authentication and the learned state, and turns KEEP off unless
it carries the bus; presence after PD_QUAL arms KEEP or lets it conduct and begins authentication. Authentication (R272 to R274): the
periodic run; a reply that is not acknowledged, or none in time, fails the attempt, of which the third fails the pack, stops the charger
and discards the learned state; a right reply passes exactly when a pack key verifies it. The model's own readings in it: log entries
10, 16, 17, 54. -/
def Obligations.PackIsWatchedAndAuthenticated : Prop :=
  (∀ (s : State), running s.b = true →
     (Fresh s .chg → (s.b.f KEEP_STATUS.PACK_PRESENT 0 = 1 ∨ s.b.sig .packDet ≠ 0) →
       Completes (.packRemoval none) s fun b' =>
         b'.f KEEP_STATUS.PACK_PRESENT 0 = 0 ∧ b'.f PACK_AUTH_STAT.AUTH 0 = 0 ∧ Raised b' s.tick 28 0xFFFF ∧
         b'.auth.run = false ∧ b'.gauge.cycle = none ∧ b'.f GAUGE_FLAGS.UNLEARNED 0 = 1 ∧ b'.gauge.fcc = designCap s.b ∧
         (s.b.cst ≠ cOFF → b'.cst = cFAULT ∧ b'.f CHG_CTL.EN 0 = 0) ∧
         b'.kst = (if s.b.hst = hSOURCE ∧ s.b.f KEEP_STATUS.KEEP_COND 0 ≠ 1 then kOFF else s.b.kst)) ∧
     (s.b.f KEEP_STATUS.PACK_PRESENT 0 = 0 → s.b.sig .packDet = 0 → NoEffect (.packRemoval none) s) ∧
     (∀ mv : Nat, Fresh s .chg → s.b.cst = cCHARGING → s.b.f PACK_CFG.JUMP_MV 0 ≤ mv →
       Completes (.packRemoval (some mv)) s fun b' =>
         b'.cst = cFAULT ∧ b'.kst = kOFF ∧ b'.f KEEP_STATUS.PACK_PRESENT 0 = 0 ∧ Raised b' s.tick 28 0xFFFF) ∧
     (∀ mv : Nat, s.b.cst ≠ cCHARGING → NoEffect (.packRemoval (some mv)) s) ∧
     (s.b.f KEEP_STATUS.PACK_PRESENT 0 = 0 → atLeast1 (s.b.f PACK_CFG.PD_QUAL 0) * 2000 ≤ s.b.keep.pdLow →
       Completes .packPresent s fun b' =>
         b'.f KEEP_STATUS.PACK_PRESENT 0 = 1 ∧ b'.kst = (if kbusSource s.b = true then kARMED else kDIODE) ∧
         b'.f PACK_AUTH_STAT.AUTH 0 = 1 ∧ b'.auth.run = true ∧ b'.auth.tries = 1 ∧ b'.auth.t0 = s.tick) ∧
     (s.b.f KEEP_STATUS.PACK_PRESENT 0 = 1 → NoEffect .packPresent s)) ∧
  (∀ (s : State), running s.b = true →
     (s.b.f KEEP_STATUS.PACK_PRESENT 0 = 1 → s.b.auth.run = false → s.b.auth.next ≤ s.tick →
       Completes .authPeriodic s fun b' =>
         b'.auth.run = true ∧ b'.auth.tries = 1 ∧ b'.auth.t0 = s.tick ∧ b'.auth.next = s.tick + 1200000000 ∧
         b'.f PACK_AUTH_STAT.ATTEMPTS 0 = 1 ∧ Same s.b b' [(PACK_AUTH_STAT.ATTEMPTS, 0)]) ∧
     (s.tick < s.b.auth.next → NoEffect .authPeriodic s) ∧
     (s.b.auth.run = true → s.b.auth.readAt ≤ s.tick → s.b.auth.tries < 3 →
       Completes (.authRead none) s fun b' =>
         b'.auth.tries = s.b.auth.tries + 1 ∧ b'.auth.t0 = s.tick ∧ b'.auth.run = true ∧
         Same s.b b' [(PACK_AUTH_STAT.ATTEMPTS, 0)]) ∧
     (s.b.auth.run = true → s.b.auth.readAt ≤ s.tick → 3 ≤ s.b.auth.tries →
       Completes (.authRead none) s fun b' =>
         b'.auth.run = false ∧ b'.f PACK_AUTH_STAT.AUTH 0 = 3 ∧ b'.f PACK_AUTH_STAT.FAIL_CODE 0 = 1 ∧
         Raised b' s.tick 27 0xFFFF ∧ bit (b'.f CHG_FAULT_FLAGS.FLAGS 0) 6 = true ∧ b'.gauge.cycle = none) ∧
     (∀ r : Option (List Nat), s.b.auth.run = false ∨ s.tick < s.b.auth.readAt → NoEffect (.authRead r) s) ∧
     (∀ l : List Nat, s.b.auth.run = true → s.b.auth.readAt ≤ s.tick → 3 ≤ s.b.auth.tries →
       crc8 ([2 * s.b.f PACK_CFG.AUTH_ADDR 0, 0x11, 2 * s.b.f PACK_CFG.AUTH_ADDR 0 + 1] ++ l.take (l.length - 1)) =
         l.getD (l.length - 1) 0 → l.getD 0 0 = 0 → 8 ≤ l.getD 1 0 → l.getD 1 0 ≤ 32 → l.length = l.getD 1 0 + 67 →
       s.tick ≤ s.b.auth.t0 + s.b.f AUTH_TIME.AUTH_TMO 0 * 2000 →
       Completes (.authRead (some l)) s fun b' =>
         b'.auth.run = false ∧ b'.f PACK_AUTH_STAT.AUTH 0 =
           (if (packKeys s.b).any (fun p => Config.ecdsaOk p.2 (s.b.auth.chal ++ slice l 2 (l.getD 1 0))
               (slice l (2 + l.getD 1 0) 64)) = true then 2 else 3)) ∧
     (s.b.auth.run = true → s.b.auth.t0 + s.b.f AUTH_TIME.AUTH_TMO 0 * 2000 ≤ s.tick → s.b.auth.tries < 3 →
       Completes .authTimeout s fun b' => b'.auth.tries = s.b.auth.tries + 1 ∧ b'.auth.t0 = s.tick) ∧
     (s.b.auth.run = true → s.b.auth.t0 + s.b.f AUTH_TIME.AUTH_TMO 0 * 2000 ≤ s.tick → 3 ≤ s.b.auth.tries →
       Completes .authTimeout s fun b' =>
         b'.f PACK_AUTH_STAT.AUTH 0 = 3 ∧ b'.f PACK_AUTH_STAT.FAIL_CODE 0 = 2 ∧ Raised b' s.tick 27 0xFFFF))

/-- The gauge's anchors (R262 to R265): a qualified rest sets SOC from the OCV table, Q by it, UNC to OCV_UNC and the age to 0; EOD sets Q
to 0 and EOC to FCC with UNC 1 %; each begins a cycle. GAUGE is raised once per 72 h without a rest. Rest windows, save and restore
(R266, R269, R270): Pilot's window begins with SUSPEND = 1 and ends with SUSPEND = 0; a save latches all 16 words of one block; a commit
clears the stage, shows the first check that fails, and takes the state only when none does. The model's own readings in it: log entries
10, 14, 51, 52. -/
def Obligations.GaugeAnchorsSavesAndRestores : Prop :=
  (∀ (s : State), running s.b = true →
     (s.b.gauge.rest ≠ 0 → s.b.f GAUGE_REST.T_REST 0 * 60000000 ≤ s.b.gauge.rest * roundUs →
       Completes .gaugeRestAnchor s fun b' =>
         b'.gauge.q = toInt (ocvSoc s.b (s.b.gauge.last.meanMv s.b) s.b.gauge.last.temp * b'.gauge.fcc * 65536) ∧
         b'.gauge.unc = ocvUnc s.b ∧ b'.gauge.age = 0 ∧ b'.gauge.rest = 0 ∧ b'.gauge.restSeen = true ∧
         b'.gauge.cycle = some { soc := ocvSoc s.b (s.b.gauge.last.meanMv s.b) s.b.gauge.last.temp }) ∧
     (s.b.gauge.rest * roundUs < s.b.f GAUGE_REST.T_REST 0 * 60000000 → NoEffect .gaugeRestAnchor s) ∧
     (s.b.gauge.eod = 2 →
       Completes .gaugeEod s fun b' =>
         b'.gauge.q = 0 ∧ b'.gauge.unc = 1 ∧ b'.f GAUGE_FLAGS.EOD 0 = 1 ∧ b'.gauge.eod = 3 ∧
         b'.gauge.cycle = some { soc := 0 }) ∧
     (s.b.gauge.eod ≠ 2 → NoEffect .gaugeEod s) ∧
     (s.b.gauge.eoc = 2 →
       Completes .gaugeEoc s fun b' =>
         b'.gauge.q = b'.gauge.fcc * 65536 ∧ b'.gauge.unc = 1 ∧ b'.f GAUGE_FLAGS.EOC 0 = 1 ∧ b'.gauge.eoc = 3) ∧
     (s.b.gauge.eoc ≠ 2 → NoEffect .gaugeEoc s) ∧
     (259200 * (s.b.gauge.noRest + 1) ≤ s.b.f GAUGE_REST_AGE.S 0 →
       Completes .gaugeNorest s fun b' =>
         b'.gauge = { s.b.gauge with noRest := s.b.gauge.noRest + 1 } ∧ b'.f GAUGE_FLAGS.NOREST 0 = 1 ∧
         Raised b' s.tick 38 0xFFFF ∧ Same s.b b' [(GAUGE_FLAGS.NOREST, 0)]) ∧
     (s.b.f GAUGE_REST_AGE.S 0 < 259200 * (s.b.gauge.noRest + 1) → NoEffect .gaugeNorest s)) ∧
  (∀ (s : State), running s.b = true →
     (∀ e : Nat, s.b.restWin.ends = some e → e ≤ s.tick →
       Completes .restWindowTimer s fun b' =>
         b'.f CHG_CTL.SUSPEND 0 = 0 ∧ b'.restWin = { ends := none, retry := s.tick + 7200000000 }) ∧
     (s.b.restWin.ends = none → s.b.restWin.retry ≤ s.tick → 86400 ≤ s.b.f GAUGE_REST_AGE.S 0 → s.b.hst = hSOURCE →
       (s.b.dev = .ready ∨ s.b.dev = .run) →
       Completes .restWindowTimer s fun b' =>
         b'.f CHG_CTL.SUSPEND 0 = 1 ∧ b'.restWin.ends = some (s.tick + 2400000000)) ∧
     (∀ e : Nat, s.b.restWin.ends = some e → s.tick < e → NoEffect .restWindowTimer s) ∧
     (∀ k : Fin 16,
       Completes .gaugeSaveLatch s fun b' =>
         b'.f GAUGE_SAVE.WORD k = leAt (gaugeBlock s.b) (4 * k) 4 % 2 ^ 32 ∧ b'.gauge = s.b.gauge ∧
         Same s.b b' (each 16 [GAUGE_SAVE.WORD])) ∧
     (∀ (crc : Nat) (k : Fin 16),
       Completes (.gaugeCommit crc) s fun b' =>
         b'.f GAUGE_STAGE.WORD k = 0 ∧ b'.f GAUGE_RST.RST_ERR 0 = commitErr s.b (gaugeStage s.b) crc ∧
         (commitErr s.b (gaugeStage s.b) crc ≠ 0 →
           b'.gauge = s.b.gauge ∧ Same s.b b' ((GAUGE_RST.RST_ERR, 0) :: each 16 [GAUGE_STAGE.WORD])) ∧
         (commitErr s.b (gaugeStage s.b) crc = 0 →
           b'.gauge.fcc = leIntAt (gaugeStage s.b) 8 8 ∧ b'.f GAUGE_FLAGS.RESTORED 0 = 1 ∧
           b'.f GAUGE_FLAGS.UNLEARNED 0 = 0 ∧ b'.f GAUGE_FLAGS.INVALID 0 = 0)))

/-! Bivouac -/

/-- The calendar (R279 to R283, R287): RTC_SECOND counts with its carries and wraps after 2099, not while the oscillator is stopped or a
valid commit is due; the epoch follows the calendar and passing ALARM fires the alarm, unless it was written too late; stages, SET and
the commit; the frozen shadow of a reader. The model's own readings in it: log entries 12, 55, 167. -/
def Obligations.CalendarCountsAndCommits : Prop :=
  ∀ (s : State),
    (s.b.biv.osc = false ∨ commitDue s.b = true → NoEffect .rtcSecond s) ∧
    (s.b.biv.osc = true → commitDue s.b = false →
      Completes .rtcSecond s fun b' =>
        b'.biv = { s.b.biv with
          cal := s.b.biv.cal.tick.1, wrap := s.b.biv.cal.tick.2 || s.b.biv.wrap, past := s.b.biv.past && !s.b.biv.cal.tick.2,
          cyc := b'.biv.cyc, sub := b'.biv.sub } ∧
        (s.b.biv.corr = [] → b'.biv.cyc = s.b.biv.cyc + (32768 - s.b.biv.sub) ∧ b'.biv.sub = 0) ∧
        b'.f BIV_RTC_EPOCH.SECONDS 0 = s.b.biv.cal.tick.1.epoch % 2 ^ 32 ∧
        (s.b.biv.cal.sec < 59 → s.b.biv.cal.tick = ({ s.b.biv.cal with sec := s.b.biv.cal.sec + 1 }, false)) ∧
        (s.b.biv.cal = { sec := 59, min := 59, hour := 23, day := 31, month := 12, year := 99, wd := 6 } →
          s.b.biv.cal.tick = ({}, true)) ∧
        (s.b.f BIV_ALARM_CTL.ALARM_EN 0 = 1 → s.b.biv.past = false → s.b.f BIV_RTC_EPOCH.SECONDS 0 < s.b.f BIV_ALARM.ALARM 0 →
          s.b.f BIV_ALARM.ALARM 0 ≤ s.b.biv.cal.tick.1.epoch →
          b'.f BIV_ALARM_CTL.ALARM_FLAG 0 = 1 ∧
          b'.f BIV_WAKE_CAUSE.CAUSE 0 = (s.b.f BIV_WAKE_CAUSE.CAUSE 0 ||| (1 &&& s.b.f BIV_WAKE_CFG.WAKE_EN 0)) % 2 ^ 4 ∧
          (s.b.f BIV_WAKE_CFG.WO_ALARM 0 = 1 → b'.f BIV_WAKEOUT.WO_LATCH 0 = 1)) ∧
        (s.b.f BIV_ALARM_CTL.ALARM_EN 0 = 0 ∨ s.b.biv.past = true → Same s.b b' [(BIV_RTC_EPOCH.SECONDS, 0)])) ∧
    (∀ (w : Writer) (k : Fin 7) (v : Nat), running s.b = true → mayOperate s.b w = true →
      Completes (.rtcStageWrite w k v) s fun b' =>
        (Tab.get b'.biv.stage {} w.idx).field k = v % 2 ^ ([6, 6, 5, 5, 4, 7, 3].getD k 0) ∧
        (∀ j : Fin 7, j ≠ k → (Tab.get b'.biv.stage {} w.idx).field j = (Tab.get s.b.biv.stage {} w.idx).field j) ∧
        (∀ i, i ≠ w.idx → Tab.get b'.biv.stage {} i = Tab.get s.b.biv.stage {} i) ∧
        b' = { s.b with biv := { s.b.biv with stage := b'.biv.stage } }) ∧
    (∀ w : Writer, running s.b = true → mayOperate s.b w = true →
      Completes (.rtcSet w) s fun b' => b' = { s.b with biv := { s.b.biv with sets := s.b.biv.sets ++ [w.idx] } }) ∧
    (∀ (w : Writer) (k : Fin 7) (v : Nat), mayOperate s.b w = false → NoEffect (.rtcStageWrite w k v) s ∧ NoEffect (.rtcSet w) s) ∧
    (s.b.biv.sets = [] → NoEffect .rtcCommit s) ∧
    (∀ i : Nat, s.b.biv.sets = [i] → (Tab.get s.b.biv.stage {} i).valid = true →
      Completes .rtcCommit s fun b' =>
        b'.biv = { s.b.biv with
          cal := Tab.get s.b.biv.stage {} i, sets := [], wrRej := false, wrap := false, sub := 0, cyc := b'.biv.cyc } ∧
        b'.f BIV_RTC_EPOCH.SECONDS 0 = (Tab.get s.b.biv.stage {} i).epoch % 2 ^ 32) ∧
    (∀ i : Nat, s.b.biv.sets = [i] → (Tab.get s.b.biv.stage {} i).valid = false →
      Completes .rtcCommit s fun b' => 
        b'.biv = { s.b.biv with sets := [], wrRej := true } ∧ Same s.b b' [] ∧ b' = { s.b with regs := b'.regs, biv := b'.biv }) ∧
    (∀ (r : Fin 5) (k : Fin 9), running s.b = true →
      (rtcShadow s.b r = none → k < (7 : Nat) →
        Completes (.rtcReadFreeze r k) s fun b' =>
          rtcShadow b' r = some ⟨s.b.biv.cal, rtcStatus s.b, s.b.f BIV_RTC_EPOCH.SECONDS 0⟩ ∧
          Tab.get b'.rd 0 r = s.b.biv.cal.field k) ∧
      (rtcShadow s.b r = none → k = (8 : Nat) →
        Completes (.rtcReadFreeze r k) s fun b' =>
          rtcShadow b' r = none ∧ Tab.get b'.rd 0 r = s.b.f BIV_RTC_EPOCH.SECONDS 0) ∧
      (∀ x : RtcShadow, rtcShadow s.b r = some x →
        Completes (.rtcReadFreeze r k) s fun b' =>
          rtcShadow b' r = (if k = (7 : Nat) then none else some x) ∧
          Tab.get b'.rd 0 r = (if k < (7 : Nat) then x.cal.field k else if k = (7 : Nat) then x.status + 16 else x.epoch)) ∧
      (rtcShadow s.b r = none → k = (7 : Nat) →
        Completes (.rtcReadFreeze r k) s fun b' => rtcShadow b' r = none ∧ Tab.get b'.rd 0 r = rtcStatus s.b)) ∧
    (∀ r : Fin 5,
      Completes (.rtcShadowRelease r) s fun b' =>
        rtcShadow b' r = none ∧ (∀ q, q ≠ r.val → rtcShadow b' q = rtcShadow s.b q) ∧ Same s.b b' [])

/-- The domain's supply and oscillator (R276 to R278, R284 to R286): the first change to VBIV is stamped; a domain reset leaves the
registers of the domain at their reset values with OSF set, which raises BIV_OSF in RUN, and no register outside it changed; TRIM is
taken at a window start; a measurement shows its ticks; a stopped oscillator sets OSF and raises BIV_OSF in RUN. The model's own
readings in it: log entries 12, 18, 169. -/
def Obligations.DomainSupplyAndOscillator : Prop :=
  ∀ (s : State),
    (s.b.biv.onVbiv = false → s.b.f BIV_SWITCH_CTL.SW_VALID 0 = 0 → s.b.dev ≠ .standby → s.b.dev ≠ .powerup →
      Completes (.bivSourceSwitch true) s fun b' =>
        b'.biv = { s.b.biv with onVbiv := true } ∧ b'.f BIV_SWITCH_CTL.SW_VALID 0 = 1 ∧
        b'.f BIV_SWITCH_STAMP.SECONDS 0 = s.b.f BIV_RTC_EPOCH.SECONDS 0 % 2 ^ 32 ∧
        Same s.b b' [(BIV_SWITCH_CTL.SW_VALID, 0), (BIV_SWITCH_STAMP.SECONDS, 0)] ∧
        b' = { s.b with regs := b'.regs, biv := b'.biv }) ∧
    ((s.b.biv.onVbiv = true ∨ s.b.f BIV_SWITCH_CTL.SW_VALID 0 = 1) → s.b.dev ≠ .standby → s.b.dev ≠ .powerup →
      Completes (.bivSourceSwitch true) s fun b' => b' = { s.b with biv := { s.b.biv with onVbiv := true } }) ∧
    ((s.b.dev = .standby ∨ s.b.dev = .powerup) →
      Completes (.bivSourceSwitch true) s fun b' => b'.dev = .off ∧ b'.biv.onVbiv = true ∧ b'.kst = kOFF ∧
        b'.f BIV_WAKEOUT.WO_HOLD 0 = 0 ∧ b'.f BIV_WAKEOUT.WO_LATCH 0 = 0 ∧
        (s.b.biv.ram.length = 256 → b'.biv.ram.getD 0xA4 0 = 2)) ∧
    (Completes (.bivSourceSwitch false) s fun b' => b' = { s.b with biv := { s.b.biv with onVbiv := false } }) ∧
    (Completes .bivDomainReset s fun b' =>
      (∀ (F : Fld) (j : Nat), bivKey (F.key j) = true → b'.f F j = F.rstAt j) ∧
      (∀ (F : Fld) (j : Nat), bivKey (F.key j) = false → b'.f F j = s.b.f F j) ∧
      b'.biv.cal = {} ∧ b'.biv.osf = true ∧ b'.biv.onVbiv = s.b.biv.onVbiv ∧ b'.biv.ram.length = 256 ∧
      (s.b.dev = .run → Raised b' s.tick 35 0xFFFF) ∧ (s.b.dev ≠ .run → b'.lines = s.b.lines) ∧
      b' = { s.b with regs := b'.regs, biv := b'.biv, free := b'.free, lines := b'.lines }) ∧
    (Completes .trimWindow s fun b' =>
      b' = { s.b with biv := { s.b.biv with
        trim := clampI (-512) 512 (s.b.fi BIV_TRIM.TRIM 0)
        corr := trimCycles (clampI (-512) 512 (s.b.fi BIV_TRIM.TRIM 0))
        cyc := s.b.biv.cyc - 1048576, sub := b'.biv.sub } } ∧ b'.biv.corr.length ≤ 512 ∧ b'.biv.sub ≤ 32768) ∧
    (running s.b = true → s.b.f CLK_STATUS.TICK_SRC 0 = 1 →
      Completes .measStart s fun b' => b'.f BIV_MEAS.MEAS_ERR 0 = 1 ∧ Same s.b b' [(BIV_MEAS.MEAS_ERR, 0)]) ∧
    (s.b.f CLK_STATUS.TICK_SRC 0 = 0 → s.b.dev = .run →
      Completes .measStart s fun b' => b' = { s.b with biv := { s.b.biv with meas := some s.tick } }) ∧
    (∀ t0 : Nat, running s.b = true → s.b.biv.meas = some t0 →
      Completes .measDone s fun b' =>
        b'.f BIV_MEAS.TICKS 0 = (s.tick - t0) % 2 ^ 22 ∧ b'.f BIV_MEAS.MEAS_DONE 0 = 1 ∧ b'.biv.meas = none ∧
        Same s.b b' [(BIV_MEAS.TICKS, 0), (BIV_MEAS.MEAS_DONE, 0)]) ∧
    (s.b.biv.meas = none → NoEffect .measDone s) ∧
    (Completes .oscStopped s fun b' =>
      b'.biv = { s.b.biv with osf := true, osc := false } ∧ (s.b.dev = .run → Raised b' s.tick 35 0xFFFF) ∧
      (s.b.dev ≠ .run → b'.lines = s.b.lines) ∧ Same s.b b' [] ∧
      b' = { s.b with regs := b'.regs, biv := b'.biv, lines := b'.lines }) ∧
    (Completes .oscRestart s fun b' => b' = { s.b with biv := { s.b.biv with osc := true } }) ∧
    (running s.b = true →
      Completes .switchStampClear s fun b' =>
        b'.f BIV_SWITCH_CTL.SW_VALID 0 = 0 ∧ Same s.b b' [(BIV_SWITCH_CTL.SW_VALID, 0)] ∧ b' = { s.b with regs := b'.regs })

/-- Wake, STANDBY and device OFF (R288 to R293): WAKE_IN and a host's address set their enabled cause; a held cause starts POWERUP; a
request that meets R291 switches berths off, clears WAKE_OUT, writes its reason into the shutdown block and powers the device down; one
that does not sets STBY_REJ and changes nothing else. The model's own readings in it: log entries 12, 22, 170, 206. -/
def Obligations.WakeStandbyAndOff : Prop :=
  ∀ (s : State),
    (Completes .wakeInAssert s fun b' =>
      b'.f BIV_WAKEOUT.WAKE_IN 0 = 1 ∧
      b'.f BIV_WAKE_CAUSE.CAUSE 0 = (s.b.f BIV_WAKE_CAUSE.CAUSE 0 ||| (2 &&& s.b.f BIV_WAKE_CFG.WAKE_EN 0)) % 2 ^ 4 ∧
      wakeOutPin b' = (s.b.on BIV_WAKEOUT.WO_HOLD 0 || s.b.on BIV_WAKEOUT.WO_LATCH 0 || s.b.on BIV_WAKE_CFG.WO_WAKEIN 0) ∧
      Same s.b b' [(BIV_WAKEOUT.WAKE_IN, 0), (BIV_WAKE_CAUSE.CAUSE, 0), (BIV_WAKEOUT.PIN, 0)] ∧ b' = { s.b with regs := b'.regs }) ∧
    (Completes .wakeInRelease s fun b' =>
      b'.f BIV_WAKEOUT.WAKE_IN 0 = 0 ∧ wakeOutPin b' = (s.b.on BIV_WAKEOUT.WO_HOLD 0 || s.b.on BIV_WAKEOUT.WO_LATCH 0) ∧
      Same s.b b' [(BIV_WAKEOUT.WAKE_IN, 0), (BIV_WAKEOUT.PIN, 0)] ∧ b' = { s.b with regs := b'.regs }) ∧
    (s.b.dev ≠ .off →
      Completes .hostWake s fun b' =>
        b'.f BIV_WAKE_CAUSE.CAUSE 0 = (s.b.f BIV_WAKE_CAUSE.CAUSE 0 ||| (8 &&& s.b.f BIV_WAKE_CFG.WAKE_EN 0)) % 2 ^ 4 ∧
        Same s.b b' [(BIV_WAKE_CAUSE.CAUSE, 0), (BIV_WAKEOUT.PIN, 0)]) ∧
    (s.b.dev = .off → NoEffect .hostWake s) ∧
    ((s.b.dev = .standby ∧ s.b.f BIV_WAKE_CAUSE.CAUSE 0 ≠ 0 ∨
        s.b.dev = .off ∧ s.b.f BIV_WAKE_CAUSE.CAUSE 0 % 4 ≠ 0 ∧ s.b.biv.onVbiv = false) →
      Completes .wake s fun b' =>
        b'.dev = .powerup ∧ b'.up = some 0 ∧ b'.biv = s.b.biv ∧ b'.feed = s.b.feed ∧ b'.otp = s.b.otp ∧ b'.env = s.b.env ∧
        (∀ (F : Fld) (j : Nat), bivKey (F.key j) = false → stbyExcKey (F.key j) = false → b'.f F j = F.rstAt j) ∧
        (∀ (F : Fld) (j : Nat), bivKey (F.key j) = true → b'.f F j = s.b.f F j)) ∧
    (s.b.f BIV_WAKE_CAUSE.CAUSE 0 = 0 → NoEffect .wake s) ∧
    (s.b.dev = .off → s.b.f BIV_WAKE_CAUSE.CAUSE 0 % 4 = 0 → NoEffect .wake s) ∧
    (standbyOk s.b = true →
      Completes .standbyRequest s fun b' =>
        b'.dev = .standby ∧ b'.f BIV_WAKEOUT.WO_HOLD 0 = 0 ∧ b'.f BIV_WAKEOUT.WO_LATCH 0 = 0 ∧ b'.chg.run = false ∧
        b'.kst = (if s.b.f KEEP_CFG.KEEP_STBY 0 = 1 then kDIODE else kOFF) ∧
        (s.b.biv.ram.length = 256 → b'.biv.ram.getD 0xA4 0 = 1) ∧
        (∀ nn : Fin 32, Fresh s (.berth nn) → (s.b.bst nn = bON ∨ s.b.bst nn = bPENDING ∨ s.b.bst nn = bINRUSH) →
          b'.bst nn = bOFF ∧ b'.f BERTH_CTL.ON nn = 0)) ∧
    (standbyOk s.b = true →
      Completes .offRequest s fun b' =>
        b'.dev = .off ∧ b'.f BIV_WAKEOUT.WO_HOLD 0 = 0 ∧ b'.f BIV_WAKEOUT.WO_LATCH 0 = 0 ∧ b'.kst = kOFF ∧
        (s.b.biv.ram.length = 256 → b'.biv.ram.getD 0xA4 0 = 2)) ∧
    (running s.b = true → standbyOk s.b = false →
      (Completes .standbyRequest s fun b' =>
        b'.f BIV_STBY_CTL.STBY_REJ 0 = 1 ∧ Same s.b b' [(BIV_STBY_CTL.STBY_REJ, 0)] ∧ b'.dev = s.b.dev) ∧
      (Completes .offRequest s fun b' =>
        b'.f BIV_STBY_CTL.STBY_REJ 0 = 1 ∧ Same s.b b' [(BIV_STBY_CTL.STBY_REJ, 0)] ∧ b' = { s.b with regs := b'.regs })) ∧
    (s.b.dev ≠ .run → standbyOk s.b = false)

/-! Faults, restarts, LANTERN and the Watchman -/

/-- Restarts (R305, R311, R463): a commanded restart and a tick stall assert the safe-state line and make a Keeper restart due; Keeper then
begins BOOT at its first step with the Watchman in boot mode and counts the restart only when a HALT asked for it. SAFE_EXIT, clears and
LANTERN (R96, R304, R307, R308, R310): an exit of a device in SAFE at the tick's edge with R308's conditions enters RUN with the
safe-state line released and HALT_COUNT 0, a HELD berth whose voltage stands goes ON and any other OFF; refused, it sets EXIT_REJ;
writes of 1 clear exactly the bits they name but for those latched at the edge of this tick (R6); LANTERN toggles once at a tick whose
number is a multiple of 1,000, in READY and RUN. The model's own readings in it: log entries 43, 56, 57, 82, 209, 210. -/
def Obligations.RestartsSafeExitAndLantern : Prop :=
  (∀ (s : State), running s.b = true →
     (Completes .sysRestartWrite s fun b' =>
       b'.f FAULT_STATE.SAFE_LINE 0 = 1 ∧ b'.col.due = setBit s.b.col.due 1 ∧ (s.b.col.due = 0 → b'.col.endSafe = false) ∧
       (s.b.biv.ram.length = 256 → b'.biv.ram.getD 0xA4 0 = 6) ∧ b'.dev = s.b.dev) ∧
     (Completes .tickStall s fun b' =>
       b'.f FAULT_STATE.SAFE_LINE 0 = 1 ∧ b'.col.due = setBit s.b.col.due 2 ∧
       b'.dev = (if s.b.dev = .ready ∨ s.b.dev = .run then .safe else s.b.dev) ∧ (s.b.dev = .boot → b'.col.endSafe = true)) ∧
     (s.b.col.due ≠ 0 → s.b.therm.stopped = false →
       Completes .keeperRestart s fun b' =>
         b'.dev = .boot ∧ b'.bootStep = 0 ∧ b'.pilot = none ∧ b'.col.due = 0 ∧ b'.quaysOpen = false ∧ b'.meOn = false ∧
         b'.f WD_STATE.MODE 0 = 0 ∧ b'.f WD_CFG.LOCKED 0 = 0 ∧ b'.wd.start = s.tick ∧ b'.f FAULT_STATE.REACT 0 = 0 ∧
         b'.f FAULT_STATE.SAFE_LINE 0 = 1 ∧
         b'.f FAULT_STATE.HALT_COUNT 0 =
           (if bit s.b.col.due 0 = true then (s.b.f FAULT_STATE.HALT_COUNT 0 + 1) % 4 else s.b.f FAULT_STATE.HALT_COUNT 0) ∧
         b'.col.endSafe = (s.b.col.endSafe || s.b.col.due != 2) ∧ b'.col.stall = (s.b.col.stall || bit s.b.col.due 2) ∧
         b'.msg = none ∧ b'.hq = []) ∧
     ((s.b.col.due = 0 ∨ s.b.therm.stopped = true) → NoEffect .keeperRestart s)) ∧
  (∀ (s : State), running s.b = true →
     (∀ w : Writer, mayOperate s.b w = true → s.b.dev = .safe → s.b.devEdge = .safe →
       (exitOk s.b = true →
         Completes (.safeExit w) s fun b' =>
           b'.dev = .run ∧ b'.f FAULT_STATE.SAFE_LINE 0 = 0 ∧ b'.f FAULT_STATE.HALT_COUNT 0 = 0 ∧
           (∀ nn : Fin 32, s.b.bst nn ≠ bHELD → b'.bst nn = s.b.bst nn) ∧
           (∀ nn : Fin 32, s.b.bst nn = bHELD → s.b.f BERTH_PSTAT.FT_LATCH nn = 0 → s.b.f BERTH_CTL.ON nn = 1 →
             (s.b.brt nn).tc < s.b.twTrip nn * 6553600 →
             s.b.vnetMv - s.b.voutMv nn ≤ s.b.f BERTH_INRUSH_T.DONE_MV nn → b'.bst nn = bON ∧ (b'.brt nn).gate = .full) ∧
           (∀ nn : Fin 32, s.b.bst nn = bHELD → s.b.f BERTH_CTL.ON nn = 0 → (s.b.brt nn).tc < s.b.twTrip nn * 6553600 →
             b'.bst nn = bOFF ∧ b'.f BERTH_STATE.CAUSE nn = 6)) ∧
       (exitOk s.b = false →
         Completes (.safeExit w) s fun b' =>
           b'.f FAULT_STATE.EXIT_REJ 0 = 1 ∧ Same s.b b' [(FAULT_STATE.EXIT_REJ, 0)] ∧ b' = { s.b with regs := b'.regs })) ∧
     (∀ w : Writer, (mayOperate s.b w = false ∨ s.b.dev ≠ .safe ∨ s.b.devEdge ≠ .safe) → NoEffect (.safeExit w) s) ∧
     (∀ (w : Writer) (v : Nat), mayOperate s.b w = true →
       (Completes (.faultStatusClear w 0 v) s fun b' =>
         b'.f FAULT_STATUS_LO.SRC 0 =
           ((s.b.f FAULT_STATUS_LO.SRC 0 &&& (0xFFFFFFFF ^^^ v % 2 ^ 32)) ||| justLatched s.tick s.b % 2 ^ 32) % 2 ^ 32 ∧
         Same s.b b' [(FAULT_STATUS_LO.SRC, 0)] ∧ b' = { s.b with regs := b'.regs }) ∧
       (Completes (.faultStatusClear w 1 v) s fun b' =>
         b'.f FAULT_STATUS_HI.SRC 0 =
           ((s.b.f FAULT_STATUS_HI.SRC 0 &&& (0xFFFF ^^^ v % 2 ^ 16)) ||| justLatched s.tick s.b / 2 ^ 32) % 2 ^ 16 ∧
         Same s.b b' [(FAULT_STATUS_HI.SRC, 0)] ∧ b' = { s.b with regs := b'.regs }) ∧
       (bit v 31 = true → s.b.col.nowAt ≠ s.tick + 1 →
         Completes (.faultStatusClear w 2 v) s fun b' =>
           b'.f FIRST_FAULT.VALID 0 = 0 ∧ b'.f FIRST_FAULT.MORE 0 = 0 ∧
           Same s.b b' [(FIRST_FAULT.VALID, 0), (FIRST_FAULT.MORE, 0)] ∧ b' = { s.b with regs := b'.regs }) ∧
       (∀ (src sev : Nat) (more : Bool), bit v 31 = true → s.b.col.nowAt = s.tick + 1 → s.b.col.first = some (src, sev, more) →
         src < 48 → sev < 4 →
         Completes (.faultStatusClear w 2 v) s fun b' =>
           b'.f FIRST_FAULT.VALID 0 = 1 ∧ b'.f FIRST_FAULT.SRC 0 = src ∧ b'.f FIRST_FAULT.SEV 0 = sev ∧
           b'.f FIRST_FAULT.MORE 0 = b2n more ∧ b'.f FIRST_FAULT.TICK16 0 = s.tick % 2 ^ 16) ∧
       (bit v 31 = false → NoEffect (.faultStatusClear w 2 v) s)) ∧
     (∀ (w : Writer) (k : Fin 3) (v : Nat), mayOperate s.b w = false → NoEffect (.faultStatusClear w k v) s) ∧
     (s.tick % 1000 = 0 → s.b.lanternAt ≠ s.tick + 1 → lanternRuns s.tick s.b = true →
       Completes .lanternToggle s fun b' => b' = { s.b with lantern := !s.b.lantern, lanternAt := s.tick + 1 }) ∧
     ((s.tick % 1000 ≠ 0 ∨ s.b.lanternAt = s.tick + 1 ∨ lanternRuns s.tick s.b = false) → NoEffect .lanternToggle s))

/-- The Watchman (R312 to R317, R368): the lock, whose period starts at the next edge and which without tasks is refused with EMPTY in the
tick of that edge, check-ins, the key pair and its decision, the expiry of a period. A period closes only without a finding; a refusal
raises WATCHMAN once for each finding and the next period starts at the next edge, which clears what was seen; the first accepted period
in READY takes the device to RUN. The model's own readings in it: log entries 10, 36, 59, 60. -/
def Obligations.WatchmanJudgesPeriods : Prop :=
  ∀ (s : State) (w : Writer), running s.b = true →
    (wdWriter s.b w = true →
      (s.b.f WD_CFG.LOCKED 0 = 0 →
        Completes (.wdLock w) s fun b' =>
          b'.f WD_CFG.LOCKED 0 = 1 ∧ b'.f WD_STATE.MODE 0 = 1 ∧ b'.f WD_STATUS.SEEN 0 = 0 ∧
          b'.wd = { start := s.tick + 1, emptyAt := if s.b.f WD_CFG.TASKS 0 = 0 then some (s.tick + 1) else none } ∧
          Same s.b b' [(WD_CFG.LOCKED, 0), (WD_STATE.MODE, 0), (WD_STATUS.SEEN, 0), (WD_STATUS.DOUBLE, 0),
            (WD_STATE.KEYA_PEND, 0)] ∧ b' = { s.b with regs := b'.regs, wd := b'.wd }) ∧
      (s.b.f WD_CFG.LOCKED 0 = 1 → NoEffect (.wdLock w) s) ∧
      (∀ k : Fin 16, s.b.f WD_STATE.MODE 0 = 1 →
        (bit (s.b.f WD_CFG.TASKS 0) k = false →
          Completes (.wdCheckin w k) s fun b' => b'.f WD_STATE.UNREG 0 = 1 ∧ Same s.b b' [(WD_STATE.UNREG, 0)]) ∧
        (bit (s.b.f WD_CFG.TASKS 0) k = true →
          Completes (.wdCheckin w k) s fun b' =>
            b'.f WD_STATUS.SEEN 0 = setBit (s.b.f WD_STATUS.SEEN 0) k % 2 ^ 16 ∧
            (bit (s.b.f WD_STATUS.SEEN 0) k = true → b'.f WD_STATUS.DOUBLE 0 = setBit (s.b.f WD_STATUS.DOUBLE 0) k % 2 ^ 16) ∧
            (bit (s.b.f WD_STATUS.SEEN 0) k = false → Same s.b b' [(WD_STATUS.SEEN, 0)]) ∧
            Same s.b b' [(WD_STATUS.SEEN, 0), (WD_STATUS.DOUBLE, 0)])) ∧
      (Completes (.wdKeyA w) s fun b' =>
        b'.f WD_STATE.KEYA_PEND 0 = 1 ∧ b'.wd = { s.b.wd with keyA := some s.tick } ∧ Same s.b b' [(WD_STATE.KEYA_PEND, 0)]) ∧
      (∀ a : Nat, s.b.wd.keyA = some a → a < s.tick → s.tick ≤ a + 8 → wdFindings s.b = [] →
        Completes (.wdKeyB w) s fun b' =>
          b'.f WD_COUNT.CLOSED 0 = satInc (2 ^ 16 - 1) (s.b.f WD_COUNT.CLOSED 0) % 2 ^ 16 ∧ 
          b'.wd = { start := s.tick + 1, newAt := some (s.tick + 1) } ∧ b'.f WD_COUNT.REFUSED 0 = s.b.f WD_COUNT.REFUSED 0 ∧
          b'.dev = (if s.b.f WD_STATE.MODE 0 = 1 ∧ s.b.dev = .ready then .run else s.b.dev)) ∧
      ((s.b.wd.keyA = none ∨ (∃ a, s.b.wd.keyA = some a ∧ (s.tick ≤ a ∨ a + 8 < s.tick))) →
        Completes (.wdKeyB w) s fun b' =>
          (∀ d ∈ wdFindings s.b ++ [0x300], Raised b' s.tick 2 d) ∧ b'.wd = { start := s.tick + 1, newAt := some (s.tick + 1) } ∧
          b'.f WD_COUNT.REFUSED 0 = satInc (2 ^ 16 - 1) (s.b.f WD_COUNT.REFUSED 0) % 2 ^ 16 ∧ b'.dev = s.b.dev) ∧
      (Completes (.wdKeyOther w) s fun b' =>
        (∀ d ∈ wdFindings s.b ++ [0x300], Raised b' s.tick 2 d) ∧ b'.wd = { start := s.tick + 1, newAt := some (s.tick + 1) } ∧
        b'.f WD_COUNT.REFUSED 0 = satInc (2 ^ 16 - 1) (s.b.f WD_COUNT.REFUSED 0) % 2 ^ 16 ∧
        b'.f WD_COUNT.CLOSED 0 = s.b.f WD_COUNT.CLOSED 0 ∧ b'.dev = s.b.dev)) ∧
    (wdWriter s.b w = false →
      NoEffect (.wdLock w) s ∧ NoEffect (.wdKeyA w) s ∧ NoEffect (.wdKeyB w) s ∧ NoEffect (.wdKeyOther w) s ∧
      ∀ k : Fin 16, NoEffect (.wdCheckin w k) s) ∧
    (∀ k : Fin 16, s.b.f WD_STATE.MODE 0 = 0 → NoEffect (.wdCheckin w k) s) ∧
    (s.b.wd.start + wdPeriod s.b ≤ s.tick →
      Completes .wdPeriodExpire s fun b' =>
        (∀ d ∈ wdFindings s.b ++ [0x400], Raised b' s.tick 2 d) ∧ b'.wd = { start := s.tick + 1, newAt := some (s.tick + 1) } ∧
        b'.f WD_COUNT.REFUSED 0 = satInc (2 ^ 16 - 1) (s.b.f WD_COUNT.REFUSED 0) % 2 ^ 16) ∧
    (s.tick < s.b.wd.start + wdPeriod s.b → NoEffect .wdPeriodExpire s) ∧
    (∀ t : Nat, s.b.wd.newAt = some t →
      (wdEdge t s.b).wd = { start := s.b.wd.start } ∧ (wdEdge t s.b).f WD_STATUS.SEEN 0 = 0 ∧
      (wdEdge t s.b).f WD_STATUS.DOUBLE 0 = 0 ∧ (wdEdge t s.b).f WD_STATE.KEYA_PEND 0 = 0) ∧
    (∀ t : Nat, s.b.wd.emptyAt = some t →
      Raised (wdEmpty t s.b) t 2 0x500 ∧ (wdEmpty t s.b).f WD_STATE.LAST_FIND 0 = 5 ∧
      (wdEmpty t s.b).wd = { start := t + 1, newAt := some (t + 1) } ∧ (∀ u, u < t → wdEmpty u s.b = s.b))

/-- The collector at an edge that latches one source (R296, R298, R300 to R303, R305, R306): its bit, one history entry, and by its
severity: the first fault and every FAULT bit of ATTN_CAUSE, the safe state, a Keeper restart or, at HALT_COUNT 3, HALT_STUCK. A NOTE
does nothing more; a source inside a reaction under way is merged. The model's own readings in it: log entries 7, 8, 193. -/
def Obligations.CollectorLatchesAndReacts : Prop :=
  ∀ (t : Nat) (b : Blk) (src d k v : Nat) (o : Obj), src < 48 → b.lines = [⟨src, d, o, t⟩] → b.col.stall = false →
    sevOf b src = k → v = (b.f FAULT_HIST_HEAD.NEWEST 0 + 1) % 16 →
    ((faultCollect t b).lines = [] ∧
      (src < 32 → bit ((faultCollect t b).f FAULT_STATUS_LO.SRC 0) src = true) ∧
      (32 ≤ src → bit ((faultCollect t b).f FAULT_STATUS_HI.SRC 0) (src - 32) = true) ∧
      (faultCollect t b).f FAULT_HIST_HEAD.NEWEST 0 = v ∧ (faultCollect t b).f FAULT_HIST_INFO.SRC v = src ∧
      (faultCollect t b).f FAULT_HIST_INFO.DETAIL v = d % 2 ^ FAULT_HIST_INFO.DETAIL.w ∧
      (faultCollect t b).f FAULT_HIST_INFO.SEV v = k % 4 ∧
      (faultCollect t b).f64 FAULT_HIST_TICK_LO.TICK FAULT_HIST_TICK_HI.TICK v = t % 2 ^ 64) ∧
    (b.f FAULT_STATE.REACT 0 = 0 →
      (k = 0 → src ≠ 7 → src ≠ 12 →
        (faultCollect t b).dev = b.dev ∧
        Same b (faultCollect t b) [(FAULT_STATUS_LO.SRC, 0), (FAULT_STATUS_HI.SRC, 0), (FAULT_HIST_HEAD.NEWEST, 0),
          (FAULT_HIST_HEAD.TOTAL, 0), (FAULT_HIST_TICK_LO.TICK, v), (FAULT_HIST_TICK_HI.TICK, v), (FAULT_HIST_INFO.MERGED, v),
          (FAULT_HIST_INFO.MULTI, v), (FAULT_HIST_INFO.SEV, v), (FAULT_HIST_INFO.SRC, v), (FAULT_HIST_INFO.DETAIL, v)]) ∧
      (1 ≤ k →
        (∀ p : Fin 4, bit (Tab.get (faultCollect t b).attn 0 p) 0 = true) ∧
        (b.f FIRST_FAULT.VALID 0 = 0 →
          (faultCollect t b).f FIRST_FAULT.VALID 0 = 1 ∧ (faultCollect t b).f FIRST_FAULT.SRC 0 = src ∧
          (faultCollect t b).f FIRST_FAULT.MORE 0 = 0 ∧ (faultCollect t b).f FIRST_FAULT.TICK16 0 = t % 2 ^ 16) ∧
        (b.f FIRST_FAULT.VALID 0 = 1 →
          (faultCollect t b).f FIRST_FAULT.SRC 0 = b.f FIRST_FAULT.SRC 0 ∧ (faultCollect t b).f FIRST_FAULT.MORE 0 = 1)) ∧
      (k = 1 → (faultCollect t b).dev = b.dev ∧ (faultCollect t b).f FAULT_STATE.SAFE_LINE 0 = b.f FAULT_STATE.SAFE_LINE 0) ∧
      (2 ≤ k → (b.dev = .run ∨ b.dev = .ready) →
        (faultCollect t b).dev = .safe ∧ (faultCollect t b).f FAULT_STATE.SAFE_LINE 0 = 1) ∧
      (2 ≤ k → b.dev = .boot →
        (faultCollect t b).dev = .boot ∧ (faultCollect t b).f FAULT_STATE.SAFE_LINE 0 = 1 ∧ (faultCollect t b).col.endSafe = true) ∧
      (k = 3 → b.f FAULT_STATE.HALT_COUNT 0 ≠ 3 → (faultCollect t b).col.due = setBit b.col.due 0 ∧
        (faultCollect t b).f FAULT_STATE.REACT 0 = 2) ∧
      (k = 3 → b.f FAULT_STATE.HALT_COUNT 0 = 3 →
        (faultCollect t b).f FAULT_STATE.HALT_STUCK 0 = 1 ∧ (faultCollect t b).col.due = b.col.due)) ∧
    (b.f FAULT_STATE.REACT 0 = 1 → t ≤ b.col.reactEnd →
      (faultCollect t b).f FAULT_HIST_INFO.MERGED v = 1 ∧ (faultCollect t b).dev = b.dev ∧ (faultCollect t b).attn = b.attn ∧
      (faultCollect t b).f FIRST_FAULT.VALID 0 = b.f FIRST_FAULT.VALID 0 ∧ (faultCollect t b).col.due = b.col.due)

/-- PILOT_EXCEPTION and TEST_PORT_INSTRUCTION (R31, R327, R347, R366): Pilot's access outside the map, to Keeper's SRAM, its fetch from ROM
or the OTP window and its load of a poisoned word raise PILOT_EXCEPTION and change nothing else; any other access changes nothing. The
port selects BYPASS or IDCODE; locked, any other instruction selects BYPASS; unlocked, the model stops, the spec naming no other. The
model's own readings in it: log entries 16, 27, 28. -/
def Obligations.ExceptionsAndTestPort : Prop :=
  ∀ (s : State), running s.b = true →
    (∀ (k : Fin 4) (a : Nat),
      (k.val = 0 ∧ mapped a = false ∨ k.val = 1 ∧ isSram a = true ∧ Config.keeperSram a = true ∨ k.val = 2 ∧ (isRom a = true ∨ otpWindow a = true) ∨
        k.val = 3 ∧ (isSram a = true ∨ isFlash a = true) ∧ ∃ l, s.mem.readBytes a 4 = (l, true, s.mem, [])) →
      Completes (.pilotException k a) s fun b' => Raised b' s.tick 1 0xFFFF ∧ b' = { s.b with lines := b'.lines }) ∧
    (∀ (k : Fin 4) (a : Nat),
      (k.val = 0 ∧ mapped a = true ∨ k.val = 1 ∧ (isSram a = false ∨ Config.keeperSram a = false) ∨ k.val = 2 ∧ isRom a = false ∧ otpWindow a = false ∨
        k.val = 3 ∧ ((isSram a = false ∧ isFlash a = false ∧ engKey a = none) ∨ ∃ l, s.mem.readBytes a 4 = (l, false, s.mem, []))) →
      NoEffect (.pilotException k a) s) ∧
    (∀ i : Nat, i ≤ 1 → Completes (.testPortInstruction i) s fun b' => b' = { s.b with tap := i }) ∧
    (∀ i : Nat, 1 < i → tapLocked s.b = true → Completes (.testPortInstruction i) s fun b' => b' = { s.b with tap := 0 }) ∧
    (∀ i : Nat, 1 < i → tapLocked s.b = false → exec (.testPortInstruction i) s = .refused (.testInstruction i))

/-! Memories, OTP and the Logbook -/

/-- ECC_TEST and the scrubber (R319, R329 to R333). GO stores data, check byte and mark as given and changes no byte outside its word; a GO
that is not permitted sets TEST_REJ; READ shows a word as stored. A scrub pass is refused while one runs or across memories, reads one
word at a time with its counts, is corrected in SRAM, and ends after its last word, or at the next one once ABORT is written (R333). The
old word of a GO that moves the page parity is decoded as by a write (R324). The model's own readings in it: log entries 61, 71. -/
def Obligations.EccTestAndScrubber : Prop :=
  ∀ (s : State), running s.b = true →
    (∀ (w : Writer) (a v : Nat), (w = .pilot ∨ w = .keeper) → s.b.f ECC_TEST_ADDR.VALUE 0 = a →
      s.b.f64 ECC_TEST_DATA_LO.VALUE ECC_TEST_DATA_HI.VALUE 0 = v →
      (s.b.f ECC_TEST_CTL.EN 0 = 1 → isSram a = true → a % 8 = 0 →
        (s.b.f ECC_TEST_CTL.PAGE_HOLD 0 = 1 ∨ s.mem.decode a = .clean) →
        CompletesX (.eccTestGo w) s fun m' b' =>
          b' = s.b ∧ m'.raw64 a = v % 2 ^ 64 ∧ Tab.get m'.syn 0 a = checkByte v ^^^ s.b.f ECC_TEST_CHK.CHK 0 ∧
          Tab.get m'.mark 0 a = s.b.f ECC_TEST_CHK.MARK 0 ∧
          (∀ x, (x < a ∨ a + 8 ≤ x) → m'.byte x = s.mem.byte x) ∧ m'.prog = s.mem.prog) ∧
      ((s.b.f ECC_TEST_CTL.EN 0 = 0 ∨ isSram a = false ∨ a % 8 ≠ 0) →
        Completes (.eccTestGo w) s fun b' =>
          b'.f ECC_TEST_CTL.TEST_REJ 0 = 1 ∧ Same s.b b' [(ECC_TEST_CTL.TEST_REJ, 0)] ∧ b' = { s.b with regs := b'.regs }) ∧
      ((isSram (a / 8 * 8) = true ∨ isFlash (a / 8 * 8) = true ∨ isRom (a / 8 * 8) = true) →
        Completes (.eccTestRead w) s fun b' =>
          b'.f64 ECC_RAW_DATA_LO.DATA ECC_RAW_DATA_HI.DATA 0 = s.mem.raw64 (a / 8 * 8) % 2 ^ 64 ∧
          b'.f ECC_RAW_CHK.CHK 0 = (checkByte (s.mem.raw64 (a / 8 * 8)) ^^^ Tab.get s.mem.syn 0 (a / 8 * 8)) % 2 ^ 8 ∧
          b'.f ECC_RAW_CHK.MARK 0 = Tab.get s.mem.mark 0 (a / 8 * 8) % 2 ^ 3 ∧
          Same s.b b' [(ECC_RAW_DATA_LO.DATA, 0), (ECC_RAW_DATA_HI.DATA, 0), (ECC_RAW_CHK.CHK, 0), (ECC_RAW_CHK.MARK, 0)] ∧
          b' = { s.b with regs := b'.regs })) ∧
    (∀ w : Writer, w ≠ .pilot → w ≠ .keeper → NoEffect (.eccTestGo w) s ∧ NoEffect (.eccTestRead w) s) ∧
    (∀ a z : Nat, s.b.f SCRUB_START.ADDR 0 / 8 * 8 = a → s.b.f SCRUB_END.ADDR 0 / 8 * 8 = z →
      (s.b.f SCRUB_STATUS.BUSY 0 = 0 → ((isSram a = true ∧ isSram z = true) ∨ (isFlash a = true ∧ isFlash z = true)) → a ≤ z →
        Completes .scrubGo s fun b' =>
          b'.f SCRUB_STATUS.BUSY 0 = 1 ∧ b'.f SCRUB_STATUS.ABORTED 0 = 0 ∧ b'.f SCRUB_READ.WORDS 0 = 0 ∧
          b'.f SCRUB_CORR.WORDS 0 = 0 ∧ b'.f SCRUB_UNC.WORDS 0 = 0 ∧ b'.f SCRUB_FIRST.ADDR 0 = 0xFFFFFFFF ∧
          b'.scrub.cur = a ∧ b'.scrub.last = z) ∧
      ((s.b.f SCRUB_STATUS.BUSY 0 = 1 ∨ ((isSram a = false ∨ isSram z = false) ∧ (isFlash a = false ∨ isFlash z = false))) →
        Completes .scrubGo s fun b' =>
          b'.f SCRUB_STATUS.REFUSED 0 = 1 ∧ Same s.b b' [(SCRUB_STATUS.REFUSED, 0)] ∧ b' = { s.b with regs := b'.regs })) ∧
    (s.b.f SCRUB_STATUS.BUSY 0 = 0 → NoEffect .scrubWordRead s ∧ NoEffect .scrubAbort s) ∧
    (s.b.f SCRUB_STATUS.BUSY 0 = 1 →
      (s.b.scrub.abort = true →
        Completes .scrubWordRead s fun b' =>
          b'.f SCRUB_STATUS.BUSY 0 = 0 ∧ b'.f SCRUB_STATUS.DONE 0 = 1 ∧ b'.f SCRUB_STATUS.ABORTED 0 = 1 ∧
          Same s.b b' [(SCRUB_STATUS.BUSY, 0), (SCRUB_STATUS.DONE, 0), (SCRUB_STATUS.ABORTED, 0)] ∧ b' = { s.b with regs := b'.regs }) ∧
      (s.b.scrub.abort = false → s.mem.decode s.b.scrub.cur = .clean →
        Completes .scrubWordRead s fun b' =>
          b'.f SCRUB_READ.WORDS 0 = (s.b.f SCRUB_READ.WORDS 0 + 1) % 2 ^ 32 ∧ b'.scrub.cur = s.b.scrub.cur + 8 ∧
          b'.f SCRUB_CORR.WORDS 0 = s.b.f SCRUB_CORR.WORDS 0 ∧ b'.f SCRUB_UNC.WORDS 0 = s.b.f SCRUB_UNC.WORDS 0 ∧
          b'.f SCRUB_FIRST.ADDR 0 = s.b.f SCRUB_FIRST.ADDR 0 ∧
          (s.b.scrub.last ≤ s.b.scrub.cur → b'.f SCRUB_STATUS.BUSY 0 = 0 ∧ b'.f SCRUB_STATUS.DONE 0 = 1) ∧
          (s.b.scrub.cur < s.b.scrub.last → b'.f SCRUB_STATUS.BUSY 0 = 1)) ∧
      (∀ v : Nat, s.b.scrub.abort = false → s.mem.decode s.b.scrub.cur = .fixed v → isSram s.b.scrub.cur = true →
        CompletesX .scrubWordRead s fun m' b' =>
          m'.raw64 s.b.scrub.cur = v % 2 ^ 64 ∧ Tab.get m'.syn 0 s.b.scrub.cur = 0 ∧
          b'.f SCRUB_CORR.WORDS 0 = satInc (2 ^ 16 - 1) (s.b.f SCRUB_CORR.WORDS 0) % 2 ^ 16 ∧
          b'.f ECC_CNT.CORR 0 = satInc (2 ^ 16 - 1) (s.b.f ECC_CNT.CORR 0) % 2 ^ 16) ∧
      (s.b.scrub.abort = false → s.mem.decode s.b.scrub.cur = .poisoned → s.b.f SCRUB_FIRST.ADDR 0 = 0xFFFFFFFF →
        Completes .scrubWordRead s fun b' =>
          b'.f SCRUB_UNC.WORDS 0 = (s.b.f SCRUB_UNC.WORDS 0 + 1) % 2 ^ 32 ∧
          b'.f SCRUB_FIRST.ADDR 0 = s.b.scrub.cur % 2 ^ 32 ∧ b'.lines = s.b.lines) ∧
      Completes .scrubAbort s fun b' => b' = { s.b with scrub := { s.b.scrub with abort := true } })

/-- The OTP commands (R335, R336, R338, R342, R345, R350). Only Keeper's act, and none while a record is being programmed; BUSY, a wrong KEY
and the checks of each command refuse in that order and program nothing. PROGRAM sets exactly the bits of DATA in the word; INCREMENT
advances the counter by one; FINALISE sets the region's bit. The end of a command clears BUSY, and Keeper's next increment that waits
begins. The model's own readings in it: log entries 84, 128, 198. -/
def Obligations.OtpCommandsProgram : Prop :=
  ∀ (s : State) (key : Nat), running s.b = true →
    (∀ w : Writer, w ≠ .keeper →
      NoEffect (.otpCmdProgram w key) s ∧ NoEffect (.otpCmdIncrement w key) s ∧ NoEffect (.otpCmdFinalise w key) s) ∧
    (s.b.log.writing.isSome = true → ∀ w : Writer,
      NoEffect (.otpCmdProgram w key) s ∧ NoEffect (.otpCmdIncrement w key) s ∧ NoEffect (.otpCmdFinalise w key) s) ∧
    (∀ (c : Instr) (e : Nat), s.b.log.writing = none →
      (c = .otpCmdProgram .keeper key ∧ (s.b.f OTP_STATUS.BUSY 0 = 1 ∧ e = 1 ∨
          s.b.f OTP_STATUS.BUSY 0 = 0 ∧ key ≠ 0xC3 ∧ e = 2 ∨
          s.b.f OTP_STATUS.BUSY 0 = 0 ∧ key = 0xC3 ∧ e ≠ 0 ∧ e = otpProgramErr s.b (s.b.f OTP_ADDR.INDEX 0) (s.b.f OTP_DATA.DATA 0)) ∨
        c = .otpCmdIncrement .keeper key ∧ (s.b.f OTP_STATUS.BUSY 0 = 1 ∧ e = 1 ∨
          s.b.f OTP_STATUS.BUSY 0 = 0 ∧ key ≠ 0xC3 ∧ e = 2 ∨
          s.b.f OTP_STATUS.BUSY 0 = 0 ∧ key = 0xC3 ∧ 32 ≤ s.b.f OTP_ADDR.INDEX 0 ∧ e = 3 ∨
          s.b.f OTP_STATUS.BUSY 0 = 0 ∧ key = 0xC3 ∧ s.b.f OTP_ADDR.INDEX 0 < 32 ∧
            s.b.counter (s.b.f OTP_ADDR.INDEX 0) = 255 ∧ e = 6) ∨
        c = .otpCmdFinalise .keeper key ∧ (s.b.f OTP_STATUS.BUSY 0 = 1 ∧ e = 1 ∨
          s.b.f OTP_STATUS.BUSY 0 = 0 ∧ key ≠ 0xC3 ∧ e = 2 ∨
          s.b.f OTP_STATUS.BUSY 0 = 0 ∧ key = 0xC3 ∧ (s.b.f OTP_ADDR.INDEX 0 = 0 ∨ 3 < s.b.f OTP_ADDR.INDEX 0) ∧ e = 3 ∨
          s.b.f OTP_STATUS.BUSY 0 = 0 ∧ key = 0xC3 ∧ s.b.f OTP_ADDR.INDEX 0 ≠ 0 ∧ s.b.f OTP_ADDR.INDEX 0 ≤ 3 ∧
            s.b.finalised (s.b.f OTP_ADDR.INDEX 0) = true ∧ e = 4)) →
      Completes c s fun b' =>
        b'.f OTP_STATUS.ERR 0 = e % 16 ∧ Same s.b b' [(OTP_STATUS.ERR, 0)] ∧ b' = { s.b with regs := b'.regs }) ∧
    (key = 0xC3 → s.b.log.writing = none → s.b.f OTP_STATUS.BUSY 0 = 0 →
      (otpProgramErr s.b (s.b.f OTP_ADDR.INDEX 0) (s.b.f OTP_DATA.DATA 0) = 0 → (∀ c < 3, s.b.sig (.otpFail c) = 0) →
        Completes (.otpCmdProgram .keeper key) s fun b' =>
          b'.f OTP_STATUS.BUSY 0 = 1 ∧ b'.f OTP_STATUS.ERR 0 = 0 ∧
          b'.otpRead (s.b.f OTP_ADDR.INDEX 0) = s.b.otpRead (s.b.f OTP_ADDR.INDEX 0) ||| s.b.f OTP_DATA.DATA 0 ∧
          b' = { s.b with regs := b'.regs, otp := b'.otp }) ∧
      (s.b.f OTP_ADDR.INDEX 0 < 32 → s.b.counter (s.b.f OTP_ADDR.INDEX 0) < 255 → (∀ c < 3, s.b.sig (.otpFail c) = 0) →
        Completes (.otpCmdIncrement .keeper key) s fun b' =>
          b'.f OTP_STATUS.BUSY 0 = 1 ∧ b'.counter (s.b.f OTP_ADDR.INDEX 0) = s.b.counter (s.b.f OTP_ADDR.INDEX 0) + 1 ∧
          b'.f OTP_CNT.VALUE (s.b.f OTP_ADDR.INDEX 0) = (s.b.counter (s.b.f OTP_ADDR.INDEX 0) + 1) % 2 ^ 8) ∧
      (s.b.f OTP_ADDR.INDEX 0 ≠ 0 → s.b.f OTP_ADDR.INDEX 0 ≤ 3 → s.b.finalised (s.b.f OTP_ADDR.INDEX 0) = false →
        Completes (.otpCmdFinalise .keeper key) s fun b' =>
          b'.f OTP_STATUS.BUSY 0 = 1 ∧ b'.finalised (s.b.f OTP_ADDR.INDEX 0) = true)) ∧
    (s.b.f OTP_STATUS.BUSY 0 = 1 → s.b.otpRedir = [] → s.b.otpWait = [] →
      Completes .otpCommandDone s fun b' =>
        b'.f OTP_STATUS.BUSY 0 = 0 ∧ Same s.b b' [(OTP_STATUS.BUSY, 0)] ∧ b' = { s.b with regs := b'.regs }) ∧
    (∀ (k : Nat) (rest : List Nat), s.b.f OTP_STATUS.BUSY 0 = 1 → s.b.otpRedir = [] → s.b.otpWait = k :: rest → k < 32 →
      s.b.counter k < 255 → s.b.log.writing = none → s.b.holdup = none → (∀ c < 3, s.b.sig (.otpFail c) = 0) →
      Completes .otpCommandDone s fun b' =>
        b'.f OTP_STATUS.BUSY 0 = 1 ∧ b'.otpWait = rest ∧ b'.counter k = s.b.counter k + 1 ∧ b'.f OTP_STATUS.ERR 0 = 0) ∧
    (s.b.f OTP_STATUS.BUSY 0 = 0 → NoEffect .otpCommandDone s)

/-- The Logbook's writer (R349, R350, R352, R359): a CLEAR, and while no clear runs the front record, goes to the next blank slot, filled
in; a completed write programs only its slot and counts SEQ up; a completed erase leaves its page 0xFF and nothing else changed; a
snapshot request forms its trigger. Without a record, a ready Logbook or a free writer nothing happens. The model's own readings in it:
log entries 63, 65, 197. -/
def Obligations.LogbookWritesAndErases : Prop :=
  ∀ (s : State), running s.b = true →
    (∀ (r : LogRec) (rest : List LogRec) (i j : Nat) (l : List Nat), s.b.log.queue = r :: rest → writerSlots s.mem s.b = i :: j :: l →
      s.b.log.writing = none → s.b.f OTP_STATUS.BUSY 0 = 0 → s.b.log.ready = true → s.b.holdup = none →
      s.b.log.clr = none → s.b.log.clearing = false →
      Completes .logRecordWrite s fun b' =>
        b'.log.queue = rest ∧ b'.log.writing = some (i, s.b.f LOG_NEXT.SEQ 0, logFill s.mem s.b r i) ∧
        b'.f LOG_STATUS.WRITING 0 = 1 ∧ b'.f LOG_NEXT.SEQ 0 = s.b.f LOG_NEXT.SEQ 0) ∧
    (∀ (r : LogRec) (i j : Nat) (l : List Nat), s.b.log.clr = some r → writerSlots s.mem s.b = i :: j :: l →
      s.b.log.writing = none → s.b.f OTP_STATUS.BUSY 0 = 0 → s.b.log.ready = true → s.b.holdup = none →
      Completes .logRecordWrite s fun b' =>
        b'.log.clr = none ∧ b'.log.queue = s.b.log.queue ∧
        b'.log.writing = some (i, s.b.f LOG_NEXT.SEQ 0, logFill s.mem s.b r i) ∧ b'.f LOG_STATUS.WRITING 0 = 1) ∧
    ((s.b.log.clr = none ∧ (s.b.log.queue = [] ∨ s.b.log.clearing = true) ∨ s.b.log.ready = false ∨
        s.b.log.writing.isSome = true ∨ s.b.f OTP_STATUS.BUSY 0 = 1 ∨ s.b.holdup.isSome = true) → NoEffect .logRecordWrite s) ∧
    (∀ (i seq : Nat) (r : LogRec), s.b.log.writing = some (i, seq, r) → s.b.clearWait = false → s.b.otpHeld = false →
      CompletesX .logWriteDone s fun m' b' =>
        m' = s.mem.flashWrite (slotAddr i) (r.bytes seq) 32 ∧ b'.f LOG_NEXT.SEQ 0 = (seq + 1) % 2 ^ 32 ∧
        b'.log.writing = none ∧ b'.log.slot = slotAfter i ∧ b'.f LOG_STATUS.WRITING 0 = 0 ∧
        (∀ x, (x < slotAddr i ∨ slotAddr i + 256 ≤ x) → m'.byte x = s.mem.byte x)) ∧
    (∀ (i seq : Nat) (r : LogRec) (q : Req), s.b.log.writing = some (i, seq, r) → r.ty = 8 → s.b.clearWait = true → s.b.msg = some q →
      CompletesX .logWriteDone s fun _ b' =>
        b'.answer = some (respond q.msg 0x80 sOK (leBytes 4 (s.b.counter 2))) ∧ b'.clearWait = false) ∧
    (s.b.log.writing = none → NoEffect .logWriteDone s) ∧
    (∀ (p : Nat) (rest : List Nat), s.b.log.erase = p :: rest → p < 99 →
      CompletesX .logEraseDone s fun m' b' =>
        (∀ x, pageAddr p ≤ x → x < pageAddr p + 4096 → m'.byte x = 0xFF) ∧
        (∀ x, (x < pageAddr p ∨ pageAddr p + 4096 ≤ x) → m'.byte x = s.mem.byte x) ∧
        b'.log.erase = rest ∧ b'.log.clearing = (s.b.log.clearing && !(s.b.log.clearErase && rest.isEmpty))) ∧
    (s.b.log.erase = [] → NoEffect .logEraseDone s) ∧
    (∀ (tag : Nat) (p : Fin 4),
      Completes (.logSnap tag p) s fun b' => b' = { s.b with trig := s.b.trig ++ [⟨9, s.tick, leBytes 4 tag ++ [p.val]⟩] })

/-! Power and start -/

/-- Supply loss and hold-up (R356, R357, R451): two edges below 9.0 V begin the hold-up with the queue discarded, erases aborted and the
shutdown block written with POWER_LOSS; HOLDUP is raised once per run; the formed record, or a brown-out, ends in a reset, which keeps
STBY_EXC (R198). Power-up and reset (R392, R437, R447, R448): POWERUP, begun above the start threshold or about to, ends with VDDC, AVDD
and VIO in range and SYSPLL locked, in BOOT at tick 0 with every register outside the Bivouac domain at its reset value but the sampled
address; a PLL not locked after 2.0 ms starts on RCOSC with CLOCK; NRST_IN and 10 µs of VIO below its band reset a device in any state
but STANDBY and device OFF, with SRAM lost and the Bivouac domain kept but for the drive of WAKE_OUT, which ends with an entry to device
OFF (R290), and STBY_EXC kept (R198). A die shutdown still in force at the end of POWERUP takes the safe state and raises TEMP_DIE
(R214), as does one found and released since the core clock stopped. That lost SRAM reads 0 is the model's choice (log entry 3). The
model's own readings in it: log entries 2, 3, 21, 22, 23, 24, 25, 58, 137, 205, 206. -/
def Obligations.SupplyLossAndPowerUp : Prop :=
  (∀ (s : State), running s.b = true →
     (2 ≤ s.b.vsupLow → s.b.holdup = none →
       CompletesX .powerLoss s fun _ b' =>
         (∃ h, b'.holdup = some h ∧ h.edge = s.tick ∧ h.lost = s.b.log.queue.length + b2n s.b.log.clr.isSome ∧ h.record = none) ∧
         b'.log.queue = [] ∧ b'.log.erase = [] ∧ b'.upload = none ∧ b'.meOn = false ∧ b'.f ADC_STATUS.LP 0 = 1 ∧
         (s.b.biv.ram.length = 256 → b'.biv.ram.getD 0xA4 0 = 3) ∧ b'.dev = s.b.dev) ∧
     ((s.b.vsupLow < 2 ∨ s.b.holdup.isSome = true) → NoEffect .powerLoss s) ∧
     (16 ≤ s.b.vholdLow.n → s.b.vholdLow.raised = false →
       Completes .holdupLow s fun b' =>
         b'.vholdLow = { s.b.vholdLow with raised := true } ∧ Raised b' s.tick 32 0xFFFF ∧
         b' = { s.b with vholdLow := b'.vholdLow, lines := b'.lines }) ∧
     ((s.b.vholdLow.n < 16 ∨ s.b.vholdLow.raised = true) → NoEffect .holdupLow s) ∧
     (∀ h : Holdup, s.b.holdup = some h → h.record.isSome = true →
       CompletesX .holdupComplete s fun m' b' =>
         b'.dev = (if s.b.biv.onVbiv = true then .off else .powerup) ∧ b'.holdup = none ∧
         (s.b.biv.onVbiv = true → b'.kst = kOFF) ∧
         (∀ (F : Fld) (j : Nat), bivKey (F.key j) = false → stbyExcKey (F.key j) = false → F.key j ≠ KEEP_STATUS.KSTATE.key 0 →
           b'.f F j = F.rstAt j) ∧ (∀ x, isSram x = true → m'.byte x = 0)) ∧
     ((s.b.holdup = none ∨ ∃ h, s.b.holdup = some h ∧ h.record = none) → NoEffect .holdupComplete s) ∧
     (s.b.holdup.isSome = true → vholdMv s.b < 6500 →
       CompletesX .vholdBrownout s fun m' b' =>
         b'.dev = (if s.b.biv.onVbiv = true then .off else .powerup) ∧ b'.holdup = none ∧
         (s.b.biv.onVbiv = true → b'.kst = kOFF) ∧
         (∀ (F : Fld) (j : Nat), bivKey (F.key j) = false → stbyExcKey (F.key j) = false → F.key j ≠ KEEP_STATUS.KSTATE.key 0 →
           b'.f F j = F.rstAt j) ∧
         (∀ x, isSram x = true → m'.byte x = 0) ∧
         (∀ x, isSram x = false → (∀ w, s.b.log.writing = some w → x < slotAddr w.1 ∨ slotAddr w.1 + 256 ≤ x) →
           m'.byte x = s.mem.byte x)) ∧
     ((s.b.holdup = none ∨ 6500 ≤ vholdMv s.b) → NoEffect .vholdBrownout s)) ∧
  (∀ (s : State),
     (powerReady s.b = true → pllLocked s.b = true →
       ∃ t : State, exec .powerup s = .next t ∧ t.tick = 0 ∧ t.pending = s.pending ∧ t.b.dev = .boot ∧ t.b.bootStep = 0 ∧
         t.b.f HOST_TW_CFG.TW0_ADDR 0 = (0x40 + (s.b.sig .addrSel).toNat % 8) % 2 ^ HOST_TW_CFG.TW0_ADDR.w ∧
         t.b.vio33 = decide (2500 < s.b.sig .vio) ∧ t.b.f THERM_BROKEN.SHUTDOWN 0 = b2n (s.b.therm.stopped || s.b.therm.due) ∧
         ((s.b.therm.stopped || s.b.therm.due) = true → t.b.f FAULT_STATE.SAFE_LINE 0 = 1 ∧ t.b.col.endSafe = true ∧ Raised t.b 0 13 0x00FF) ∧
         (∀ (F : Fld) (j : Nat), s.b.therm.stopped = false → s.b.therm.due = false → bivKey (F.key j) = false → stbyExcKey (F.key j) = false →
           F.key j ≠ HOST_TW_CFG.TW0_ADDR.key 0 → F.key j ≠ THERM_BROKEN.SHUTDOWN.key 0 → (∀ G ∈ wdStartFields, F.key j ≠ G.key 0) → t.b.f F j = F.rstAt j) ∧
         (∀ (F : Fld) (j : Nat), bivKey (F.key j) = true → t.b.f F j = s.b.f F j)) ∧
     (powerReady s.b = true → pllLate s.b = true →
       ∃ t : State, exec .powerupPllTimeout s = .next t ∧ t.tick = 0 ∧ t.pending = s.pending ∧ t.b.dev = .boot ∧
         t.b.f CLK_STATUS.TICK_SRC 0 = 1 ∧ Raised t.b 0 9 0xFFFF) ∧
     (powerReady s.b = true ↔ s.b.dev = .powerup ∧ (s.b.up ≠ none ∨ 9500 < supplyMv s.b) ∧ s.b.biv.onVbiv = false ∧
       873 ≤ s.b.sig .vddc ∧ s.b.sig .vddc ≤ 927 ∧ 3230 ≤ s.b.sig .avdd ∧ s.b.sig .avdd ≤ 3370 ∧
       (1710 ≤ s.b.sig .vio ∧ s.b.sig .vio ≤ 1890 ∨ 3000 ≤ s.b.sig .vio ∧ s.b.sig .vio ≤ 3600)) ∧
     ((powerReady s.b = false ∨ pllLocked s.b = false) → NoEffect .powerup s) ∧
     ((powerReady s.b = false ∨ pllLate s.b = false) → NoEffect .powerupPllTimeout s) ∧
     (s.b.vioLow < 20 → NoEffect .vioLoss s) ∧
     (∀ c : Instr, (c = .nrstIn ∨ c = .vioLoss ∧ 20 ≤ s.b.vioLow) → s.b.dev ≠ .standby → s.b.dev ≠ .off →
       CompletesX c s fun m' b' =>
         b'.dev = (if s.b.biv.onVbiv = true then .off else .powerup) ∧ b'.hq = [] ∧ b'.msg = none ∧
         (s.b.biv.onVbiv = true → b'.kst = kOFF) ∧
         (∀ (F : Fld) (j : Nat), bivKey (F.key j) = false → stbyExcKey (F.key j) = false → F.key j ≠ KEEP_STATUS.KSTATE.key 0 →
           b'.f F j = F.rstAt j) ∧
         (∀ (F : Fld) (j : Nat), bivKey (F.key j) = true → (s.b.biv.onVbiv = false ∨ (F.key j ≠ BIV_WAKEOUT.WO_HOLD.key 0 ∧
           F.key j ≠ BIV_WAKEOUT.WO_LATCH.key 0 ∧ F.key j ≠ BIV_WAKEOUT.PIN.key 0)) → b'.f F j = s.b.f F j) ∧
         (s.b.biv.onVbiv = true → b'.f BIV_WAKEOUT.WO_HOLD 0 = 0 ∧ b'.f BIV_WAKEOUT.WO_LATCH 0 = 0) ∧
         (∀ x, isSram x = true → m'.byte x = 0)) ∧
     (∀ c : Instr, (c = .nrstIn ∨ c = .vioLoss) → (s.b.dev = .standby ∨ s.b.dev = .off) → NoEffect c s))

/-- Start (R304, R367, R368, R373): BOOT does the next step of its order, once, and none while the die shutdown holds Keeper; PILOT_READY
ends BOOT in READY with the Watchman locked, the quays open and the safe-state line released, or in SAFE; an erase of an upload's slot
leaves it 0xFF. The model's own readings in it: log entries 59, 76, 83. -/
def Obligations.BootStepsAndReadiness : Prop :=
  ∀ (s : State),
    (∀ k : Fin 11, s.b.dev = .boot → s.b.therm.stopped = false → s.b.bootStep + 1 = k →
      CompletesX (.boot k) s fun m' b' => (m', b') = bootStepDo s.tick (s.mem, { s.b with bootStep := k }) k) ∧
    (∀ k : Fin 11, (s.b.dev ≠ .boot ∨ s.b.therm.stopped = true ∨ k ≤ s.b.bootStep) → NoEffect (.boot k) s) ∧
    (s.b.dev = .boot → s.b.therm.stopped = false → s.b.bootStep = 7 →
      Completes (.boot 8) s fun b' => b'.bootStep = 8 ∧ b'.meOn = true ∧ b'.f ADC_STATUS.LP 0 = 0) ∧
    (∀ k : Nat, s.b.dev = .boot → s.b.pilot = some k → s.b.f BOOT_STATUS.PENDING 0 = 0 →
      (bootEndsSafe s.b = false →
        CompletesX .pilotReady s fun m' b' =>
          m' = s.mem ∧ b'.dev = .ready ∧ b'.quaysOpen = true ∧ b'.f WD_CFG.LOCKED 0 = 1 ∧ b'.f FAULT_STATE.SAFE_LINE 0 = 0 ∧
          b'.col.endSafe = false ∧ b'.f GAUGE_FLAGS.UNLEARNED 0 = 1) ∧
      (bootEndsSafe s.b = true →
        CompletesX .pilotReady s fun m' b' =>
          m' = s.mem ∧ b'.dev = .safe ∧ b'.quaysOpen = true ∧ b'.col.endSafe = false ∧
          b'.f WD_CFG.LOCKED 0 = s.b.f WD_CFG.LOCKED 0)) ∧
    (∀ k : Nat, s.b.dev = .boot → s.b.pilot = some k → s.b.f BOOT_STATUS.PENDING 0 = 1 → s.b.biv.ram.length = 256 →
      CompletesX .pilotReady s fun _ b' => b'.f BOOT_STATUS.PENDING 0 = 0 ∧ b'.biv.ram.getD 0xB8 0 = k % 256) ∧
    ((s.b.dev ≠ .boot ∨ s.b.pilot = none) → NoEffect .pilotReady s) ∧
    (∀ u : Upload, running s.b = true → s.b.upload = some u → u.erasing = true → u.slot < 2 → s.b.sig .flashFail = 0 →
      CompletesX .slotEraseDone s fun m' b' =>
        b' = { s.b with upload := some { u with erasing := false } } ∧
        (∀ x, u.base ≤ x → x < u.base + 4096 * u.pages → m'.byte x = 0xFF) ∧
        (∀ x, (x < u.base ∨ u.base + 4096 * u.pages ≤ x) → m'.byte x = s.mem.byte x)) ∧
    ((s.b.upload = none ∨ ∃ u, s.b.upload = some u ∧ u.erasing = false) → NoEffect .slotEraseDone s)

/-! Host links, quays and the ring -/

/-- Transfers on SPI and the two-wire ports (R388, R390 to R393). A whole accepted write stores its data, one without a stop does not; a
wrong CRC or PEC counts in CRC_ERR and stores nothing; a write that the window refuses counts in BAD_FRAME; the device acknowledges the
bytes of a write but for the low byte of an offset it does not take and a wrong PEC; a read drives its data with their check byte,
inverted when the read takes a poisoned word of a quay buffer (R327), and 0xFF for each byte clocked after the PEC. A transfer to
another address, and an SCL timeout, change nothing. The device as two-wire controller (R394 to R396): a due notify is sent after its
gap with the port's causes and PEC, and again at most twice; a lost arbitration is repeated when the bus is free, and counted when a
stop lost it; a bus that nine clocks do not free sets HUNG, is tried again after 100 ms and reported again. The model's own readings in
it: log entries 29, 126, 127, 200. -/
def Obligations.SpiAndTwoWireTransfers : Prop :=
  (∀ (s : State) (off : Nat) (d : List Nat), running s.b = true → off < 65536 → 1 ≤ d.length → d.length ≤ 256 →
     (portUp s.b 0 = true → ∀ (h : List Nat) (x : Nat), h = [2, off / 256, off % 256, d.length % 256] ++ d →
       (winAccepts s.b 0 off d.length = true →
         Completes (.spiWriteFrame (h ++ [crc8 h, x])) s fun b' => b' = (winStore s.b 0 off d).emit 0 [0xA5]) ∧
       (winAccepts s.b 0 off d.length = false →
         Completes (.spiWriteFrame (h ++ [crc8 h, x])) s fun b' =>
           b'.f HOST_PORT_ERR.BAD_FRAME 0 = satInc 255 (s.b.f HOST_PORT_ERR.BAD_FRAME 0) % 256 ∧
           b'.out = s.b.out ++ [(0, [0x3C])] ∧ Same s.b b' [(HOST_PORT_ERR.BAD_FRAME, 0)] ∧
           b' = { s.b with regs := b'.regs, out := b'.out }) ∧
       (∀ c : Nat, c ≠ crc8 h →
         Completes (.spiWriteFrame (h ++ [c, x])) s fun b' =>
           b'.f HOST_PORT_ERR.CRC_ERR 0 = satInc 255 (s.b.f HOST_PORT_ERR.CRC_ERR 0) % 256 ∧ Raised b' s.tick 33 0xFFFF ∧
           b'.out = s.b.out ++ [(0, [0x5A])] ∧ Same s.b b' [(HOST_PORT_ERR.CRC_ERR, 0)] ∧ b'.quay = s.b.quay ∧
           b'.staged = s.b.staged)) ∧
     (portUp s.b 0 = true → ∀ (n : Nat) (l : List Nat), 1 ≤ n → n ≤ 256 → n + 2 ≤ l.length →
       Completes (.spiReadFrame ([0x0B, off / 256, off % 256, n % 256] ++ l)) s fun b' =>
         b' = (winRead s.tick s.b 0 off n).2.emit 0 ((winRead s.tick s.b 0 off n).1 ++
           [if winPoison s.b 0 off n = true then crc8 ([0x0B, off / 256, off % 256, n % 256] ++ (winRead s.tick s.b 0 off n).1) ^^^ 0xFF
             else crc8 ([0x0B, off / 256, off % 256, n % 256] ++ (winRead s.tick s.b 0 off n).1)])) ∧
     (∀ (p : Fin 2) (h : List Nat), twTarget s.b (p + 1) = true →
       h = [2 * twAddr s.b (p + 1), off / 256, off % 256, d.length % 256] ++ d →
       (winAccepts s.b (p + 1) off d.length = true →
         (Completes (.twWrite p (h ++ [crc8 h]) true) s fun b' =>
           b' = winStore (twAcks s.b (p + 1) (List.replicate (d.length + 5) true)) (p + 1) off d) ∧
         (Completes (.twWrite p (h ++ [crc8 h]) false) s fun b' =>
           b' = twAcks s.b (p + 1) (List.replicate (d.length + 5) true))) ∧
       (∀ c : Nat, c ≠ crc8 h →
         Completes (.twWrite p (h ++ [c]) true) s fun b' =>
           b'.f HOST_PORT_ERR.CRC_ERR (p + 1) = satInc 255 (s.b.f HOST_PORT_ERR.CRC_ERR (p + 1)) % 256 ∧
           (Tab.get b'.tw.acks [] (p + 1)).getLast? = some false ∧
           Raised b' s.tick 33 0xFFFF ∧ Same s.b b' [(HOST_PORT_ERR.CRC_ERR, p + 1)] ∧ b'.quay = s.b.quay) ∧
       (winAccepts s.b (p + 1) off d.length = false →
         Completes (.twWrite p (h ++ [crc8 h]) true) s fun b' =>
           b'.f HOST_PORT_ERR.BAD_FRAME (p + 1) = satInc 255 (s.b.f HOST_PORT_ERR.BAD_FRAME (p + 1)) % 256 ∧
           (Tab.get b'.tw.acks [] (p + 1)).getD 2 true = winOffsetOk off ∧
           Same s.b b' [(HOST_PORT_ERR.BAD_FRAME, p + 1)] ∧ b' = { s.b with regs := b'.regs, tw := b'.tw }) ∧
       (∀ (n : Nat) (g more : List Nat), 1 ≤ n → n ≤ 256 →
         g = [2 * twAddr s.b (p + 1), off / 256, off % 256, n % 256, 2 * twAddr s.b (p + 1) + 1] →
         Completes (.twRead p (g ++ more)) s fun b' =>
           b' = (winRead s.tick (twAcks s.b (p + 1) (List.replicate 5 true)) (p + 1) off n).2.emit (p + 1)
             ((winRead s.tick s.b (p + 1) off n).1 ++
             [if winPoison s.b (p + 1) off n = true then crc8 (g ++ (winRead s.tick s.b (p + 1) off n).1) ^^^ 0xFF
               else crc8 (g ++ (winRead s.tick s.b (p + 1) off n).1)] ++ List.replicate more.length 0xFF))) ∧
     (∀ (p : Fin 2) (l : List Nat) (stop : Bool), l.getD 0 0 ≠ 2 * twAddr s.b (p + 1) →
       NoEffect (.twWrite p l stop) s ∧ NoEffect (.twRead p l) s) ∧
     (∀ p : Fin 2, NoEffect (.twSclTimeout p) s)) ∧
  (∀ (s : State), running s.b = true →
     (∀ l : List Nat, l = [2 * s.b.f HOST_TW_CFG.NOTIFY_ADDR 0, 2 * s.b.f HOST_TW_CFG.TW0_ADDR 0, Tab.get s.b.attn 0 1 % 256] →
       s.b.tw.due = true → s.b.f HOST_TW_CFG.NOTIFY_EN 0 = 1 →
       (s.b.tw.notifyAt = 0 ∨ s.b.tw.notifyAt - 1 + 2000 * atLeast1 (s.b.f HOST_TW_CFG.NOTIFY_GAP 0) ≤ s.tick) →
       Completes .twNotify s fun b' =>
         b'.out = s.b.out ++ [(1, l ++ [crc8 l])] ∧ b'.tw.due = false ∧ b'.tw.notifyAt = s.tick + 1 ∧ b'.tw.repeats = 0 ∧
         Same s.b b' []) ∧
     ((s.b.tw.due = false ∨ s.b.f HOST_TW_CFG.NOTIFY_EN 0 = 0) → NoEffect .twNotify s) ∧
     (s.b.tw.notifyAt ≠ 0 → s.b.tw.repeats < 2 → s.b.tw.notifyAt - 1 + 2000 * (s.b.tw.repeats + 1) ≤ s.tick →
       Completes .notifyRetry s fun b' =>
         b'.out = s.b.out ++ [(1, Tab.get s.b.tw.own [] 1)] ∧ b'.tw.repeats = s.b.tw.repeats + 1 ∧ Same s.b b' []) ∧
     (2 ≤ s.b.tw.repeats → NoEffect .notifyRetry s) ∧
     (∀ p : Fin 2,
       (Tab.get s.b.tw.own [] (p + 1) ≠ [] →
         (Completes (.twArbitrationLost p false) s fun b' =>
           (p.val + 1) ∈ b'.tw.again ∧ b' = { s.b with tw := { s.b.tw with again := b'.tw.again } }) ∧
         (Completes (.twArbitrationLost p true) s fun b' =>
           (p.val + 1) ∈ b'.tw.again ∧ Raised b' s.tick 42 0xFFFF ∧
           b'.f HOST_PORT_ERR.ARB_STOP (p + 1) = satInc 255 (s.b.f HOST_PORT_ERR.ARB_STOP (p + 1)) % 256 ∧
           Same s.b b' [(HOST_PORT_ERR.ARB_STOP, p + 1)])) ∧
       (∀ e : Bool, Tab.get s.b.tw.own [] (p + 1) = [] → NoEffect (.twArbitrationLost p e) s) ∧
       ((p.val + 1) ∈ s.b.tw.again →
         Completes (.twTransferRepeat p) s fun b' =>
           b'.out = s.b.out ++ [(p.val + 1, Tab.get s.b.tw.own [] (p + 1))] ∧ (p.val + 1) ∉ b'.tw.again ∧ Same s.b b' []) ∧
       ((p.val + 1) ∉ s.b.tw.again → NoEffect (.twTransferRepeat p) s) ∧
       (∀ n : Nat, n ≤ 9 →
         Completes (.twBusClear p n) s fun b' => Tab.get b'.tw.hungAt 0 (p + 1) = 0 ∧ Same s.b b' [] ∧ b'.lines = s.b.lines) ∧
       (∀ n : Nat, 9 < n →
         Completes (.twBusClear p n) s fun b' =>
           Tab.get b'.tw.hungAt 0 (p + 1) = s.tick + 1 ∧ b'.f HOST_PORT_ERR.HUNG (p + 1) = 1 ∧ Raised b' s.tick 33 0xFFFF ∧
           Same s.b b' [(HOST_PORT_ERR.HUNG, p + 1)]) ∧
       (∀ n h : Nat, Tab.get s.b.tw.hungAt 0 (p + 1) = h + 1 → h + 200000 ≤ s.tick →
         (n ≤ 9 → Completes (.twHungRetry p n) s fun b' => Tab.get b'.tw.hungAt 0 (p + 1) = 0 ∧ b'.lines = s.b.lines) ∧
         (9 < n → Completes (.twHungRetry p n) s fun b' =>
           Tab.get b'.tw.hungAt 0 (p + 1) = s.tick + 1 ∧ Raised b' s.tick 33 0xFFFF)) ∧
       (∀ n : Nat, Tab.get s.b.tw.hungAt 0 (p + 1) = 0 → NoEffect (.twHungRetry p n) s)))

/-- Quays (R397 to R401, R416): SUBMIT accepts, or refuses with BUSY or BAD_LENGTH; QP_TAKE opens the next request, or drops one that holds
a poisoned word with an exception of Pilot's (R327; the drop is the model's choice, log entry 190), and QP_POST posts its response,
BAD_OPCODE where no opcode takes it; a response enters a free buffer with its cause in ATTN_CAUSE; an ACK frees it; a request not posted
in time gets TIMEOUT. The model's own readings in it: log entries 105, 112, 113, 114, 190. -/
def Obligations.QuaysCarryMessages : Prop :=
  ∀ (s : State), running s.b = true →
    (∀ p q : Fin 4, portOn s.b p = true →
      (∀ n : Nat, leNat ((s.b.qy p q).bytes 4 2) = n → quaysOpenNow s.b = true → (s.b.qy p q).queued ≠ 4 → n ≤ 492 →
        Completes (.quaySubmit p q) s fun b' =>
          b'.hq = insReq ⟨p, q, s.tick, (s.b.qy p q).bytes 0 (n + 20), false, (s.b.qy p q).psn.filter fun w => decide (8 * w < n + 20)⟩ s.b.hq ∧
          (b'.qy p q).submitSt = 0 ∧
          (b'.qy p q).queued = (s.b.qy p q).queued + 1 ∧ (b'.qy p q).copying = true ∧
          (b'.qy p q).buf = (s.b.qy p q).buf ∧ b' = { s.b with quay := b'.quay, hq := b'.hq }) ∧
      (quaysOpenNow s.b = true → (s.b.qy p q).queued ≠ 4 → 492 < leNat ((s.b.qy p q).bytes 4 2) →
        Completes (.quaySubmit p q) s fun b' => (b'.qy p q).submitSt = 2 ∧ b' = { s.b with quay := b'.quay }) ∧
      ((quaysOpenNow s.b = false ∨ (s.b.qy p q).queued = 4) →
        Completes (.quaySubmit p q) s fun b' => (b'.qy p q).submitSt = 6 ∧ b' = { s.b with quay := b'.quay })) ∧
    (∀ p q : Fin 4, portOn s.b p = false → NoEffect (.quaySubmit p q) s) ∧
    (∀ p q : Fin 4,
      Completes (.quayCopyDone p q) s fun b' =>
        b'.qy p q = { s.b.qy p q with copying := false } ∧ b' = { s.b with quay := b'.quay }) ∧
    (∀ (r : Req) (rest : List Req), s.b.msg = none → s.b.hq = r :: rest → r.psn ≠ [] →
      Completes .qpTake s fun b' =>
        b'.msg = none ∧ b'.hq = rest ∧ Raised b' s.tick 1 0xFFFF ∧
        Same s.b b' [(QP_TAKE.VALID, 0), (QP_TAKE.PORT, 0), (QP_TAKE.QUAY, 0)]) ∧
    (∀ (r : Req) (rest : List Req), s.b.msg = none → s.b.hq = r :: rest → r.psn = [] →
      Completes .qpTake s fun b' =>
        b'.msg = some r ∧ b'.hq = rest ∧ b'.answer = none ∧ b'.f QP_TAKE.VALID 0 = 1 ∧ b'.f QP_TAKE.PORT 0 = r.port % 4 ∧
        b'.f QP_TAKE.QUAY 0 = r.quay % 4 ∧ Same s.b b' [(QP_TAKE.VALID, 0), (QP_TAKE.PORT, 0), (QP_TAKE.QUAY, 0)]) ∧
    ((s.b.msg.isSome = true ∨ s.b.hq = []) →
      Completes .qpTake s fun b' => b'.msg = s.b.msg ∧ b'.hq = s.b.hq ∧ b'.f QP_TAKE.VALID 0 = 0 ∧ Tab.get b'.rd 0 4 = 0) ∧
    (∀ (r : Req) (m : List Nat), s.b.msg = some r → answerNow s.b r = some m →
      Completes .qpPost s fun b' =>
        b'.msg = none ∧ b'.answer = none ∧ b'.f QP_TAKE.VALID 0 = 0 ∧
        (b'.qy r.port r.quay).posted = (s.b.qy r.port r.quay).posted ++ (if r.dead = true then [] else [m])) ∧
    (∀ r : Req, s.b.answer = none → opcodes.contains (msgOp r.msg) = false → msgCrcOk r.msg = true →
      answerNow s.b r = some (respond r.msg 0x80 sBAD_OPCODE [])) ∧
    (s.b.msg = none → NoEffect .qpPost s) ∧
    (∀ (p q : Fin 4) (m : List Nat) (rest : List (List Nat)), (s.b.qy p q).posted = m :: rest →
      (p.val ≠ 3 → (s.b.qy p q).resp = false → (s.b.qy p q).ackAt ≠ s.tick + 1 →
        Completes (.responseEnter p q) s fun b' =>
          (b'.qy p q).resp = true ∧ (b'.qy p q).posted = rest ∧ (b'.qy p q).respSeq = m.getD 3 0 ∧
          bit (Tab.get b'.attn 0 p) (4 + q) = true ∧
          (∀ i, i < m.length → Tab.get (b'.qy p q).buf 0 (0x200 + i) = m.getD i 0 % 256) ∧ Same s.b b' []) ∧
      (p.val = 3 → (s.b.qy p q).resp = false → (s.b.qy p q).ackAt ≠ s.tick + 1 →
        Completes (.responseEnter p q) s fun b' =>
          (b'.qy p q).resp = false ∧ (b'.qy p q).posted = rest ∧ (b'.qy p q).queued = (s.b.qy p q).queued - 1 ∧ Same s.b b' []) ∧
      ((s.b.qy p q).resp = true → NoEffect (.responseEnter p q) s)) ∧
    (∀ p q : Fin 4,
      ((s.b.qy p q).resp = true →
        Completes (.quayAck p q) s fun b' =>
          (b'.qy p q).resp = false ∧ (b'.qy p q).queued = (s.b.qy p q).queued - 1 ∧ (b'.qy p q).ackAt = s.tick + 1 ∧
          Same s.b b' []) ∧
      ((s.b.qy p q).resp = false → NoEffect (.quayAck p q) s) ∧
      (∀ r : Req, s.b.msg = some r → r.port = p → r.quay = q → r.dead = false → execDue s.b r ≤ s.tick →
        Completes (.quayExecTimeout p q) s fun b' =>
          b'.msg = some { r with dead := true } ∧ (b'.qy p q).posted = (s.b.qy p q).posted ++ [timeoutResp r] ∧ Same s.b b' []) ∧
      (s.b.msg = none → (∀ r ∈ s.b.hq, s.tick < execDue s.b r) → NoEffect (.quayExecTimeout p q) s))

/-- The ring's frames and alignment (R29, R30, R406 to R412, R440): a good frame of another node goes on with HOPS, CORR and CRC new; an own
frame is removed, and one with an FSEQ that was not sent sets DUP_ID; a loss of carrier wraps the side and a good frame after 1 ms
unwraps it; beacons choose the master; the master's TICK frame sets the offset and the lock; LINK frames show the neighbour. The model's
own readings in it: log entries 118, 119, 122, 123, 124, 201, 202. -/
def Obligations.RingRelaysAndAligns : Prop :=
  ∀ (s : State) (e : Fin 2) (l : List Nat), running s.b = true → sideFit s.b e = true → (∀ x ∈ l, x < 256) →
    (frOk l = true → wrapped s.b e = false → s.b.f HW_CFG.NODE_ID 0 ≠ 0 →
      (∀ r : Int, frSrc l ≠ s.b.f HW_CFG.NODE_ID 0 → frHops l < 4095 → wrapped s.b (1 - e) = false →
        Completes (.hawserFrameRelay e l r) s fun b' =>
          ∃ o, b' = s.b.emit (3 + e) o ∧ frOk o = true ∧ frHops o = frHops l + 1 ∧ frSrc o = frSrc l ∧ frSeq o = frSeq l ∧
            frPay o = frPay l) ∧
      (∀ r : Int, frSrc l = s.b.f HW_CFG.NODE_ID 0 → frSeq l < s.b.hw.sent → NoEffect (.hawserFrameRelay e l r) s) ∧
      (∀ r : Int, frSrc l = s.b.f HW_CFG.NODE_ID 0 → s.b.hw.sent ≤ frSeq l →
        Completes (.hawserFrameRelay e l r) s fun b' =>
          b'.f HW_STATUS.DUP_ID 0 = 1 ∧ Raised b' s.tick 34 0xFFFF ∧ Same s.b b' [(HW_STATUS.DUP_ID, 0)] ∧ b'.out = s.b.out)) ∧
    (wrapped s.b e = false →
      Completes (.hawserCarrierLoss e) s fun b' =>
        wrapped b' e = true ∧ bit (b'.f CLK_FAULT.DOM_FAIL 0) (7 + e) = true ∧ bit (b'.f CLK_STATUS.DOM_OK 0) (7 + e) = false ∧
        (∀ p : Fin 4, bit (Tab.get b'.attn 0 p) 8 = true) ∧ Raised b' s.tick 34 0xFFFF ∧ Raised b' s.tick 9 0xFFFF ∧
        wrapped b' (1 - e) = wrapped s.b (1 - e)) ∧
    (wrapped s.b e = true →
      Completes (.hawserCarrierLoss e) s fun b' =>
        Tab.get b'.hw.lossAt 0 e = s.tick ∧ bit b'.hw.good e = false ∧ b' = { s.b with hw := b'.hw }) ∧
    (wrapped s.b e = true → bit s.b.hw.good e = true → Tab.get s.b.hw.lossAt 0 e + 2000 ≤ s.tick →
      Completes (.hawserUnwrap e) s fun b' => wrapped b' e = false ∧ wrapped b' (1 - e) = wrapped s.b (1 - e)) ∧
    ((bit s.b.hw.good e = false ∨ s.tick < Tab.get s.b.hw.lossAt 0 e + 2000) → NoEffect (.hawserUnwrap e) s) ∧
    (∀ id : Nat, s.b.f HW_CFG.NODE_ID 0 = id → hwNode s.b = true → ringTick s.b s.tick % 524288 = (64 * id : Nat) % 524288 →
      Tab.get s.b.hw.beacon 0 id ≠ s.tick + 1 →
      Completes .beaconSend s fun b' =>
        Tab.get b'.hw.beacon 0 id = s.tick + 1 ∧ b'.hw.sent = s.b.hw.sent + 1 ∧ s.b.out.length < b'.out.length ∧ Same s.b b' []) ∧
    (hwNode s.b = false → NoEffect .beaconSend s ∧ NoEffect (.beaconReceive e l) s) ∧
    (frFor s.b e l 2 = true → frFirst s.tick s.b l = true →
      Completes (.beaconReceive e l) s fun b' =>
        Tab.get b'.hw.beacon 0 (frSrc l % 4096) = s.tick + 1 ∧
        (s.b.f HW_CFG.MASTER_ID 0 ≠ 0 → b'.f ALIGN_STATUS.MASTER_ID 0 = s.b.f HW_CFG.MASTER_ID 0 % 4096) ∧
        Same s.b b' [(ALIGN_STATUS.MASTER_ID, 0), (ALIGN_STATUS.IS_MASTER, 0)]) ∧
    (frFirst s.tick s.b l = false → NoEffect (.beaconReceive e l) s) ∧
    (∀ (a d k : Int), frFor s.b e l 1 = true → frFirst s.tick s.b l = true → wrapped s.b e = false → e = 0 → frSrc l = s.b.f ALIGN_STATUS.MASTER_ID 0 →
      d = a - 64000 - (frHops l : Int) * 10240 - frCorr l - cableOf s.b e → k = roundHalfUp ((d : Rat) / 32000) →
      Completes (.tickFrameReceive e l a) s fun b' =>
        b'.f64 RING_TICK_OFFSET_LO.OFFSET RING_TICK_OFFSET_HI.OFFSET 0 =
          ux 64 (leIntAt (frPay l) 0 8 - ((s.tick : Int) + k)) ∧
        b'.f ALIGN_STATUS.ALIGN_LOCKED 0 = b2n (decide ((32000 * k - d).natAbs ≤ 1280)) ∧ b'.hw.markerAt = s.tick + 1) ∧
    (∀ a : Int, (frSrc l ≠ s.b.f ALIGN_STATUS.MASTER_ID 0 ∨ frFirst s.tick s.b l = false) →
      NoEffect (.tickFrameReceive e l a) s) ∧
    (∀ n : Nat, frFor s.b e l 3 = true → frFirst s.tick s.b l = true → frHops l = 0 →
      Completes (.linkFrame e l n) s fun b' =>
        cableOf b' e = n % 65536 ∧ (if e = 0 then b'.f HW_STATUS.UP_A 0 else b'.f HW_STATUS.UP_B 0) = frSrc l % 4096 ∧
        frFirst s.tick b' l = false ∧ b' = { s.b with regs := b'.regs, hw := b'.hw }) ∧
    (∀ n : Nat, (frHops l ≠ 0 ∨ frFirst s.tick s.b l = false) → NoEffect (.linkFrame e l n) s)

/-- Broadcasts and the message relay (R227, R414 to R416, R429, R430): a FAULT frame for a selected zone asserts the ALL-OFF line of the
domain in RUN; a TOKEN frame is kept by every starting group; a RELAY_REQ from the peer is submitted on port 3; the RELAY_RSP in time
answers HW_RELAY and is held for its port, and its absence answers TIMEOUT; a held message is kept 1 s. Each frame counts once. The
model's own readings in it: log entries 106, 120, 122, 125, 203. -/
def Obligations.RingCarriesFaultsTokensAndMessages : Prop :=
  ∀ (s : State) (e : Fin 2) (l : List Nat), running s.b = true →
    (frFor s.b e l 4 = true → frFirst s.tick s.b l = true →
      (∀ g : Fin 8, lowestDomain s.b = some g.val → s.b.dev = .run → (frPay l).getD 0 0 < 16 →
        bit (s.b.f HW_CFG2.ZONE_RX 0) ((frPay l).getD 0 0) = true →
        Completes (.faultFrameReceive e l) s fun b' =>
          b'.f SEQ_DOMAIN.ALLOFF_LINE 0 = 1 ∧ b'.f HW_COUNT.BCAST_RX 0 = satInc 255 (s.b.f HW_COUNT.BCAST_RX 0) % 256 ∧
          b'.f HW_CFG.BCAST_TX 0 = s.b.f HW_CFG.BCAST_TX 0 % 2 ∧ frFirst s.tick b' l = false) ∧
      (s.b.dev ≠ .run →
        Completes (.faultFrameReceive e l) s fun b' =>
          b'.f HW_COUNT.BCAST_RX 0 = satInc 255 (s.b.f HW_COUNT.BCAST_RX 0) % 256 ∧ Same s.b b' [(HW_COUNT.BCAST_RX, 0)] ∧
          b' = { s.b with regs := b'.regs, hw := b'.hw })) ∧
    (frFirst s.tick s.b l = false →
      NoEffect (.faultFrameReceive e l) s ∧ NoEffect (.tokenFrameReceive e l) s ∧ NoEffect (.relayReqReceive e l) s ∧
      NoEffect (.relayRspReceive e l) s) ∧
    (frFor s.b e l 5 = true → frFirst s.tick s.b l = true →
      Completes (.tokenFrameReceive e l) s fun b' =>
        (∀ g : Fin 8, s.b.gst g = gSTARTING →
          (b'.gr g).toks = (s.b.gr g).toks ++ [((frPay l).getD 0 0, leAt (frPay l) 1 8)]) ∧
        (∀ g : Fin 8, s.b.gst g ≠ gSTARTING → b'.gr g = s.b.gr g)) ∧
    (frFor s.b e l 6 = true → frFirst s.tick s.b l = true → frDst l = s.b.f HW_CFG.NODE_ID 0 →
      (frSrc l = s.b.f HW_CFG2.RELAY_NODE 0 → (frPay l).getD 0 0 < 4 → portOn s.b 3 = true → quaysOpenNow s.b = true →
        (s.b.qy 3 ((frPay l).getD 0 0)).queued < 4 →
        leNat (((s.b.qy 3 ((frPay l).getD 0 0)).put 0 ((frPay l).drop 4)).bytes 4 2) ≤ 492 →
        Completes (.relayReqReceive e l) s fun b' =>
          b'.hq.length = s.b.hq.length + 1 ∧
          (b'.qy 3 ((frPay l).getD 0 0)).queued = (s.b.qy 3 ((frPay l).getD 0 0)).queued + 1 ∧ Same s.b b' []) ∧
      ((frSrc l ≠ s.b.f HW_CFG2.RELAY_NODE 0 ∨ 4 ≤ (frPay l).getD 0 0 ∨ portOn s.b 3 = false) →
        Completes (.relayReqReceive e l) s fun b' =>
          b'.f HW_COUNT.DROPPED 0 = satInc 255 (s.b.f HW_COUNT.DROPPED 0) % 256 ∧ Same s.b b' [(HW_COUNT.DROPPED, 0)] ∧
          b'.hq = s.b.hq)) ∧
    (∀ (p node q due : Nat) (r : Req), s.b.hw.relay = some (p, node, q, due) → s.b.msg = some r →
      (frFor s.b e l 7 = true → frFirst s.tick s.b l = true → frSrc l = node → (frPay l).getD 0 0 = q →
        msgHead ((frPay l).drop 4) = relayHead r → s.b.hw.late.contains (node, q, relayHead r) = true →
        Completes (.relayRspReceive e l) s fun b' =>
          b'.hw.late = s.b.hw.late.erase (node, q, relayHead r) ∧ b'.hw.relay = s.b.hw.relay ∧ b' = { s.b with hw := b'.hw }) ∧
      (frFor s.b e l 7 = true → frFirst s.tick s.b l = true → frSrc l = node → (frPay l).getD 0 0 = q → s.tick ≤ due →
        msgHead ((frPay l).drop 4) = relayHead r → s.b.hw.late.contains (node, q, relayHead r) = false →
        Completes (.relayRspReceive e l) s fun b' =>
          b'.answer = some (respond r.msg 0x80 sOK (relayAnswer ((frPay l).drop 4))) ∧ b'.hw.relay = none ∧
          heldOf b' p = some ⟨(frPay l).drop 4, none⟩ ∧ Same s.b b' []) ∧
      (due ≤ s.tick →
        Completes .hwRelayTimeout s fun b' =>
          b' = { s.b with hw := { s.b.hw with relay := none, late := s.b.hw.late ++ [(node, q, relayHead r)] }, answer := some (respond r.msg 0x80 sTIMEOUT []) }) ∧
      (s.tick < due → NoEffect .hwRelayTimeout s)) ∧
    (s.b.hw.relay = none → NoEffect .hwRelayTimeout s) ∧
    (∀ (p : Fin 4) (m : List Nat) (x : Nat), heldOf s.b p = some ⟨m, some x⟩ → x + 2000000 ≤ s.tick →
      Completes (.relayHoldExpire p) s fun b' => heldOf b' p = none ∧ Same s.b b' []) ∧
    (∀ p : Fin 4, (heldOf s.b p = none ∨ ∃ m x, heldOf s.b p = some ⟨m, some x⟩ ∧ s.tick < x + 2000000) →
      NoEffect (.relayHoldExpire p) s)

/-! Host commands -/

/-- The checks of R420 on every opcode, in their order: a wrong CRC, a FLAGS bit, a length or a class the opcode does not allow answer their
status and change nothing else; a message of another opcode, one that is answered or whose answer waits, and closed quays leave a
command without effect. Only the opcodes of R422 carry a payload with a refusal. What a lease, a device state and an index range decide
(R403, R420, R423): an opcode with a lease kind answers LEASED, STALE or DENIED by the lease check; one that would switch an output on
answers STATE in SAFE; in recovery every group but SYS and FW answers STATE; an index outside its range answers NOT_FOUND. None of them
writes anything. The model's own readings in it: log entries 86, 95, 103, 115. -/
def Obligations.OpcodesCheckBeforeActing : Prop :=
  (∀ (s : State) (c : Instr) (code : Nat), ((c, code) ∈ plainOpcodes ∨ (c, code) ∈ shortOpcodes) →
     (∀ r : Req, s.b.msg = some r → s.b.answer = none → s.b.wait = none → quaysOpenNow s.b = true → msgOp r.msg = code →
       (∀ st : Nat,
         (msgCrcOk r.msg = false ∧ st = sBAD_CRC ∨
          msgCrcOk r.msg = true ∧ msgFlags r.msg ≠ 0 ∧ st = sBAD_OPCODE ∨
          (msgCrcOk r.msg = true ∧ msgFlags r.msg = 0 ∧ ∃ len cls : Nat, (code, len, cls) ∈ opcodeNeeds ∧
           (msgLen r.msg ≠ len ∧ st = sBAD_LENGTH ∨ msgLen r.msg = len ∧ portClass s.b r.port < cls ∧ st = sDENIED))) →
         ((c, code) ∈ plainOpcodes → Refuses c s r st) ∧
         Completes c s fun b' =>
           ∃ pay, b' = { s.b with answer := some (respond r.msg 0x80 st pay), free := b'.free })) ∧
     ((s.b.msg = none ∨ s.b.answer.isSome = true ∨ s.b.wait.isSome = true ∨ quaysOpenNow s.b = false ∨
         ∃ r : Req, s.b.msg = some r ∧ msgOp r.msg ≠ code) → NoEffect c s)) ∧
  (∀ (s : State) (r : Req) (p : List Nat) (n : Nat), p = msgPay r.msg → n = pU8 p 0 →
     (∀ st : Nat, st ≠ sOK →
       (leaseCheck s.b r.port 0 n (msgLease r.msg) r.edge = st → Asked s r 0x203 4 1 → Refuses .berthFt s r st) ∧
       (leaseCheck s.b r.port 1 n (msgLease r.msg) r.edge = st →
         (Asked s r 0x401 8 1 → Refuses .loopVset s r st) ∧ (Asked s r 0x402 4 1 → Refuses .loopForce s r st) ∧
         (Asked s r 0x403 4 1 → Refuses .loopOpen s r st) ∧ (Asked s r 0x404 36 1 → Refuses .loopRetune s r st)) ∧
       (leaseCheck s.b r.port 2 n (msgLease r.msg) r.edge = st →
         (Asked s r 0x601 4 1 → Refuses .seqStop s r st) ∧ (Asked s r 0x603 4 1 → Refuses .seqAlloff s r st))) ∧
     (s.b.safeNow = true →
       (Asked s r 0x600 4 1 → Refuses .seqStart s r sSTATE) ∧ (Asked s r 0x602 4 1 → Refuses .seqAck s r sSTATE) ∧
       (1 ≤ pU8 p 1 → Asked s r 0x400 4 1 → Refuses .loopSet s r sSTATE) ∧
       (1 ≤ pU8 p 2 → Asked s r 0x500 8 1 → Refuses .iregSet s r sSTATE) ∧
       (1 ≤ n → Asked s r 0x800 12 1 → Refuses .chgSet s r sSTATE) ∧
       (pU8 p 1 = 1 → n < 32 → Asked s r 0x200 4 1 →
         Completes .berthSet s fun b' =>
           b' = { s.b with answer := some (respond r.msg 0x80 sSTATE (berthShort s.b n)) })) ∧
     ((32 ≤ n → Asked s r 0x201 4 0 → Refuses .berthStatus s r sNOT_FOUND) ∧
       (2 ≤ n → (Asked s r 0x300 4 0 → Refuses .feedStatus s r sNOT_FOUND) ∧ (Asked s r 0x301 4 1 → Refuses .feedForce s r sNOT_FOUND) ∧
         (Asked s r 0x3 4 1 → Refuses .sysPower s r sNOT_FOUND)) ∧
       (8 ≤ n → (Asked s r 0x405 4 0 → Refuses .loopStatus s r sNOT_FOUND) ∧ (Asked s r 0x604 4 0 → Refuses .seqStatus s r sNOT_FOUND)) ∧
       (128 ≤ n → (Asked s r 0x700 4 0 → Refuses .telAcc s r sNOT_FOUND) ∧ (Asked s r 0x701 4 0 → Refuses .telTrk s r sNOT_FOUND)) ∧
       (2048 < pU16 p 0 + pU16 p 2 → Asked s r 0xF00 4 0 → Refuses .otpRead s r sNOT_FOUND)) ∧
     (s.b.msg = some r → s.b.answer = none → s.b.wait = none → quaysOpenNow s.b = true → msgCrcOk r.msg = true → msgFlags r.msg = 0 →
       s.b.f BOOT_STATUS.RECOVERY 0 = 1 → ∀ (c : Instr) (code len cls : Nat), (c, code) ∈ plainOpcodes → (code, len, cls) ∈ opcodeNeeds →
       code / 256 ≠ 0 → code / 256 ≠ 0xE → msgOp r.msg = code → msgLen r.msg = len → cls ≤ portClass s.b r.port →
       Refuses c s r sSTATE))

/-- The reading opcodes of the system, the outputs and telemetry (tables of R419): each answers OK with the payload its row lists, read from
the registers, and changes nothing but the response. The model's own readings in it: log entries 96, 99. -/
def Obligations.OutputReportsShowRegisters : Prop :=
  ∀ (s : State) (r : Req) (p : List Nat) (n : Nat), p = msgPay r.msg → n = pU8 p 0 →
    (Asked s r 0x0 0 0 → Shows .sysInfo s r fun pay => pay =
      leBytes 4 0x96240103 ++ leBytes 4 (devState s.b r.port (portClass s.b r.port)) ++
      leBytes 4 (s.b.f PILOT_VER.VERSION (s.b.f BOOT_STATUS.PILOT_SLOT 0)) ++ leBytes 4 (cfgSeq s.b) ++ serial s.b ++
      leBytes 2 (s.b.f HW_CFG.NODE_ID 0) ++ [r.port, portClass s.b r.port]) ∧
    (Asked s r 0x1 0 0 → Shows .sysTime s r fun pay =>
      leAt pay 0 8 = s.tick % 2 ^ 64 ∧ leAt pay 8 4 = s.b.f BIV_RTC_EPOCH.SECONDS 0 % 2 ^ 32 ∧ pay.length = 16) ∧
    (Asked s r 0x102 0 0 → ∀ es : List Nat,
      es = (List.range 32).filter (fun e => leaseOn s.b e && s.b.f LEASE_RES.PORT e == r.port) →
      Shows .leaseList s r fun pay => pay.getD 0 0 = es.length ∧ pay.length = 4 + 12 * es.length ∧
        ∀ i, i < es.length → leAt pay (4 + 12 * i) 2 = s.b.f LEASE_RES.HANDLE (es.getD i 0) % 2 ^ 16) ∧
    (n < 32 → Asked s r 0x201 4 0 → Shows .berthStatus s r fun pay => pay =
      [s.b.bst n, s.b.f BERTH_STATE.CAUSE n, s.b.f BERTH_STATE.TOKEN n,
        s.b.f BERTH_PSTAT.WARN n + 2 * s.b.f BERTH_PSTAT.TWIN_HOT n + 4 * s.b.f BERTH_PSTAT.FT_LATCH n +
          8 * s.b.f BERTH_PSTAT.AMB_SUBST n,
        s.b.f BERTH_PSTAT.RETRY_CNT n, s.b.f BERTH_PSTAT.REJ_REASON n, 0, 0] ++
      i32 (s.b.voutMv n * 1000) ++ i32 (s.b.berthAmps n * 1000000) ++ leBytes 4 (s.b.f BERTH_TW_TC.TEMP n) ++
      leBytes 4 (s.b.f BERTH_TW_TB.TEMP n) ++ i32 (s.b.fi BERTH_SOA_TJ.TJ_PRED n * 100) ++
      leBytes 8 (s.b.f64 BERTH_TRIP_TICK_LO.TICK BERTH_TRIP_TICK_HI.TICK n)) ∧
    (Asked s r 0x202 0 0 → Shows .berthMaps s r fun pay => pay.length = 24 ∧ ∀ (k : Fin 6) (nn : Fin 32),
      bit (leAt pay (4 * k) 4) nn = decide (s.b.bst nn = [bPENDING, bINRUSH, bON, bTRIPPED, bLOCKED, bHELD].getD k 0)) ∧
    (n < 8 → Asked s r 0x405 4 0 → Shows .loopStatus s r fun pay => pay.length = 28 ∧
      pay.take 4 = [s.b.lst n, s.b.f LOOP_STATE.CAUSE n, s.b.f LOOP_STATE.IDX n, s.b.f LOOP_STATE.N_ACT n] ∧
      leAt pay 4 4 = s.b.f LOOP_VSP.VALUE n % 2 ^ 32 ∧ leAt pay 12 4 = s.b.f LOOP_VSET_NOW.VALUE n % 2 ^ 32 ∧
      leAt pay 16 4 = s.b.f ENG_LOOP_DUTY.D n % 2 ^ 32 ∧ leAt pay 24 2 = s.b.f ENG_LOOP_STAT.POISON n % 2 ^ 16) ∧
    (pU8 p 0 = 0 → pU8 p 1 < 8 → Asked s r 0x501 4 0 → Shows .iregStatus s r fun pay => pay =
      [s.b.ist (pU8 p 1), s.b.f IB_STATE.CAUSE (pU8 p 1), 0, 0] ++ leBytes 4 (s.b.f IB_VOUT.VALUE (pU8 p 1)) ++
      i32 (s.b.fi IB_ICMD.VALUE (pU8 p 1) * 1000)) ∧
    (pU8 p 0 = 1 → pU8 p 1 < 6 → Asked s r 0x501 4 0 → Shows .iregStatus s r fun pay => pay =
      [s.b.dst (pU8 p 1), s.b.f LDO_STATE.CAUSE (pU8 p 1), 0, 0] ++ i32 (s.b.ldoUv (pU8 p 1)) ++ [0, 0, 0, 0]) ∧
    (n < 8 → Asked s r 0x604 4 0 → Shows .seqStatus s r fun pay => pay =
      [s.b.gst n, s.b.f SEQ_GRP_STATE.STEP n, s.b.f SEQ_GRP_STATE.CAUSE n,
        s.b.f SEQ_GRP_STATE.START_PEND n + 2 * s.b.f SEQ_GRP_STATE.ACK_REJ n + 4 * s.b.f SEQ_GRP_STATE.TOK_LATE n +
          8 * s.b.f SEQ_DOMAIN.ALLOFF_LINE 0] ++
      leBytes 8 (s.b.f64 SEQ_GRP_TICK_LO.TICK SEQ_GRP_TICK_HI.TICK n)) ∧
    (n < 128 → Asked s r 0x700 4 0 → Shows .telAcc s r fun pay => pay =
      leBytes 2 (s.b.f ACC_CFG.CH n) ++ [s.b.f ACC_STAT.SEQ n, s.b.f ACC_STAT.SAT n] ++ leBytes 4 (s.b.f ACC_CNT.VALUE n) ++
      leBytes 8 (s.b.f64 ACC_SUM_LO.VALUE ACC_SUM_HI.VALUE n) ++ leBytes 8 (s.b.f64 ACC_SUMSQ_LO.VALUE ACC_SUMSQ_HI.VALUE n) ++
      leBytes 2 (s.b.f ACC_STAT.PSN_CNT n) ++ [0, 0]) ∧
    (n < 128 → Asked s r 0x701 4 0 → Shows .telTrk s r fun pay => pay =
      leBytes 2 (s.b.f ACC_TRK_CFG.CH n) ++ leBytes 2 (s.b.f ACC_TRK_MINMAX.MIN n) ++ leBytes 2 (s.b.f ACC_TRK_MINMAX.MAX n) ++
      [0, 0] ++ leBytes 4 (s.b.f ACC_TRK_TMIN.TICK n) ++ leBytes 4 (s.b.f ACC_TRK_TMAX.TICK n)) ∧
    (Asked s r 0x702 0 0 → Completes .telFrame s fun b' => ∃ pay, Answered b' r sOK pay ∧ pay.length = 196 ∧
      (∀ i : Fin 47, leAt pay (8 + 4 * i) 4 = leAt (telItem s.b (telChannels.getD i 0)) 0 4) ∧
      (∀ ch, telSource s.b ch = none → telItem s.b ch = leBytes 4 0x80000000) ∧
      b' = { s.b with answer := b'.answer, free := b'.free })

/-- The reading opcodes of the charger, the gauge, the calendar, faults, records, the ring, images, OTP and registers (tables of R419, R425,
R432): each answers OK with its row's payload. CHG_STATUS and FEED_STATUS clear what they report, but not for an OBSERVER; GAUGE_SAVE
latches the block it reports; a poisoned record answers INTERNAL. That the clearing read of CHG_STATUS moves the charger from FAULT to
OFF is the model's choice (log entry 49). The model's own readings in it: log entries 31, 49, 98, 100, 101. -/
def Obligations.DataReportsShowRegisters : Prop :=
  ∀ (s : State) (r : Req) (p : List Nat), p = msgPay r.msg →
    (Asked s r 0x801 0 0 →
      Completes .chgStatus s fun b' =>
        (∃ flags, Answered b' r sOK
          ([b'.cst, b'.f CHG_STATE.CAUSE 0, flags, b'.f PACK_AUTH_STAT.AUTH 0, b'.hst, b'.kst, b'.f PACK_AUTH_STAT.FAIL_CODE 0, 0] ++
            i32 ((b'.f CHG_MEAS.VBAT 0 * 10000 : Nat) : Int) ++ i32 (b'.fi CHG_MEAS.IBAT 0 * 1000) ++
            leBytes 4 (b'.f CHG_SESSION.ELAPSED 0) ++ leBytes 4 (b'.f SD_REMAIN.MS 0) ++ leBytes 4 (b'.f PACK_ID.PACK_ID 0)) ∧
          flags = if portClass s.b r.port = 0 then s.b.chgLast else s.b.chgSeen ||| peekWord s.tick s.b 0x400E0060) ∧
        (portClass s.b r.port = 0 → b' = { s.b with answer := b'.answer }) ∧
        (portClass s.b r.port ≠ 0 →
          b'.f CHG_FAULT_FLAGS.FLAGS 0 = 0 ∧ b'.cst = (if s.b.cst = cFAULT then cOFF else s.b.cst) ∧ b'.chgSeen = 0 ∧
          Same s.b b' [(CHG_FAULT_FLAGS.FLAGS, 0), (CHG_STATE.STATE, 0)])) ∧
    (∀ n : Nat, n = pU8 p 0 → n < 2 → Asked s r 0x300 4 0 →
      Completes .feedStatus s fun b' =>
        (∃ count, Answered b' r sOK
          ([s.b.f FEED_STATUS.STATE n, 0, 0, 0] ++ i32 (s.b.cal (0x74 + n) * 2000) ++ i32 (s.b.feedAmps n * 1000000) ++ leBytes 4 count) ∧
          count = Tab.get s.b.revSeen 0 n +
            if portClass s.b r.port = 0 then 0 else peekWord s.tick s.b (FEED_STATUS.REV_COUNT.addr n) / 65536) ∧
        Tab.get b'.revSeen 0 n = 0 ∧ (portClass s.b r.port ≠ 0 → b'.f FEED_STATUS.REV_COUNT n = 0) ∧
        (portClass s.b r.port = 0 → Same s.b b' []) ∧ Same s.b b' [(FEED_STATUS.REV_COUNT, n)]) ∧
    (Asked s r 0x900 0 0 → Shows .gaugeStatus s r fun pay => pay =
      leBytes 2 (s.b.f GAUGE_SOC.SOC 0) ++ leBytes 2 (s.b.f GAUGE_SOC.SOH 0) ++ leBytes 2 (s.b.f GAUGE_UNC.UNC 0) ++
      leBytes 2 (peekWord s.tick s.b (GAUGE_FLAGS.IRANGE.addr 0)) ++ leBytes 8 (s.b.f64 GAUGE_Q_LO.VALUE GAUGE_Q_HI.VALUE 0) ++
      leBytes 8 (s.b.f64 GAUGE_FCC_LO.VALUE GAUGE_FCC_HI.VALUE 0) ++ leBytes 4 (s.b.f GAUGE_REST_AGE.S 0) ++
      leBytes 2 (s.b.f GAUGE_UNC.CYCLES 0) ++ [s.b.f GAUGE_LEARN.LAST_RESULT 0, s.b.f GAUGE_LEARN.INTR 0]) ∧
    (Asked s r 0x901 0 0 →
      Completes .gaugeSave s fun b' =>
        (∃ pay, Answered b' r sOK pay ∧ pay.length = 64 ∧
          ∀ k : Fin 16, leAt pay (4 * k) 4 = leAt (gaugeBlock s.b) (4 * k) 4 % 2 ^ 32 ∧ b'.f GAUGE_SAVE.WORD k = leAt pay (4 * k) 4) ∧
        Same s.b b' (each 16 [GAUGE_SAVE.WORD])) ∧
    (rtcShadow s.b 4 = none → Asked s r 0xA00 0 0 →
      Completes .bivTime s fun b' =>
        Answered b' r sOK ((List.range 7).map (fun k => s.b.biv.cal.field k % 256) ++ [(rtcStatus s.b + 16) % 256] ++
          leBytes 4 (s.b.f BIV_RTC_EPOCH.SECONDS 0)) ∧
        b'.biv.cal = s.b.biv.cal ∧ rtcShadow b' 4 = none ∧ Same s.b b' []) ∧
    (Asked s r 0xB00 0 0 → Shows .faultGet s r fun pay =>
      leAt pay 0 8 = faultStatus s.b % 2 ^ 64 ∧ leAt pay 8 4 = firstFault s.b % 2 ^ 32 ∧
      leAt pay 24 4 = s.b.f FAULT_HIST_HEAD.TOTAL 0 % 2 ^ 32 ∧ pay.getD 28 0 = min 16 (s.b.f FAULT_HIST_HEAD.TOTAL 0) ∧
      pay.length = 32 + 12 * min 16 (s.b.f FAULT_HIST_HEAD.TOTAL 0) ∧
      ∀ i, i < min 16 (s.b.f FAULT_HIST_HEAD.TOTAL 0) → leAt pay (32 + 12 * i) 8 =
        s.b.f64 FAULT_HIST_TICK_LO.TICK FAULT_HIST_TICK_HI.TICK ((histEntries s.b).getD i 0) % 2 ^ 64) ∧
    (Asked s r 0xC00 0 0 → Shows .logInfo s r fun pay => pay =
      leBytes 4 (s.b.f LOG_NEXT.SEQ 0) ++ leBytes 4 (s.b.f LOG_OLDEST.SEQ 0) ++
      leBytes 4 (peekWord s.tick s.b (LOG_STATUS.QUEUED.addr 0)) ++ leBytes 2 (s.b.f LOG_COUNTS.TORN 0) ++ [s.b.counter 2, 0]) ∧
    (Asked s r 0xC01 4 0 →
      (s.b.f LOG_NEXT.SEQ 0 ≤ pU32 p 0 → Refuses .logRead s r sNOT_FOUND) ∧
      (pU32 p 0 < s.b.f LOG_NEXT.SEQ 0 → logFind s.mem (pU32 p 0) = none → Refuses .logRead s r sSTALE) ∧
      (∀ (i : Nat) (l : List Nat), pU32 p 0 < s.b.f LOG_NEXT.SEQ 0 → logFind s.mem (pU32 p 0) = some i →
        s.mem.readBytes (slotAddr i) 256 = (l, false, s.mem, []) → Shows .logRead s r fun pay => pay = l) ∧
      (∀ i : Nat, pU32 p 0 < s.b.f LOG_NEXT.SEQ 0 → logFind s.mem (pU32 p 0) = some i →
        (s.mem.readBytes (slotAddr i) 256).2.1 = true → CompletesX .logRead s fun _ b' => Answered b' r sINTERNAL [])) ∧
    (Asked s r 0x1100 0 0 → Shows .hwStatus s r fun pay => pay =
      leBytes 4 (peekWord s.tick s.b (HW_STATUS.DUP_ID.addr 0)) ++ leBytes 4 (peekWord s.tick s.b (ALIGN_STATUS.MASTER_ID.addr 0)) ++
      leBytes 8 (s.b.f64 RING_TICK_OFFSET_LO.OFFSET RING_TICK_OFFSET_HI.OFFSET 0) ++
      leBytes 4 (peekWord s.tick s.b (HW_LINK.CABLE_A.addr 0)) ++ leBytes 2 (s.b.f HW_CFG.NODE_ID 0) ++
      leBytes 2 (s.b.f ALIGN_STATUS.MASTER_ID 0)) ∧
    (Asked s r 0xD00 0 0 → Shows .cfgInfo s r fun pay => pay =
      leBytes 4 (s.b.f CFG_SEQ.SEQ 0) ++ leBytes 4 (s.b.f CFG_SEQ.SEQ 1) ++ [s.b.f BOOT_STATUS.CFG_SLOT 0,
        s.b.f BOOT_STATUS.CFG_RESULT 0, s.b.f BOOT_POLICY.CFG_SIG_REQ 0, s.b.f BOOT_STATUS.NOCFG 0] ++
      leBytes 4 (s.b.f CFG_REJECT.CODE 0) ++ leBytes 2 (s.b.f CFG_REJECT_REC.HOLDER 0) ++
      leBytes 2 (s.b.f CFG_REJECT_REC.CLAIMANT 0)) ∧
    (Asked s r 0xE00 0 0 → Shows .fwInfo s r fun pay => pay =
      leBytes 4 (s.b.f PILOT_VER.VERSION 0) ++ leBytes 4 (s.b.f PILOT_VER.VERSION 1) ++
      [s.b.f BOOT_STATUS.PILOT_SLOT 0, (bootRec s.b).getD 1 0, (bootRec s.b).getD 2 0, 0, s.b.counter 0, 0, 0, 0]) ∧
    (pU16 p 0 + pU16 p 2 ≤ 2048 → 1 ≤ pU16 p 2 → pU16 p 2 ≤ 123 → Asked s r 0xF00 4 0 → Shows .otpRead s r fun pay =>
      pay.length = 4 * pU16 p 2 ∧ ∀ i, i < pU16 p 2 → leAt pay (4 * i) 4 = s.b.otpRead (pU16 p 0 + i) % 2 ^ 32) ∧
    (Asked s r 0xF05 0 0 → Shows .otpCounters s r fun pay => pay = (List.range 32).map s.b.counter) ∧
    (∀ a : Nat, a = pU32 p 0 → pU16 p 4 = 1 → Asked s r 0x1000 8 2 →
      ((a % 4 ≠ 0 ∨ mapped a = false) → Refuses .regRead s r sNOT_FOUND) ∧
      (a % 4 = 0 → mapped a = true → regBarred a = true → Refuses .regRead s r sDENIED) ∧
      (a % 4 = 0 → mapped a = true → regBarred a = false → isRom a = false → isFlash a = false → isSram a = false →
        ownRead a = false → (∀ (d : RegD) (i : Nat), findReg a = some (d, i) → ∀ F ∈ d.flds, F.acc ≠ .rc) →
        Shows .regRead s r fun pay => pay = leBytes 4 (peekWord s.tick s.b a)))

/-- The SYS opcodes that act, and the writes that follow their responses (R291, R308, R463). SYS_RESTART and SYS_POWER answer first and
leave their write waiting; it is made once the host has acknowledged or 10 ms after the posting, and not before. SYS_SAFE_EXIT ends SAFE
when R308 allows it, but not in the tick whose edge latched the source (R304). Leases (R402 to R405): a grant takes the lowest free
entry and its handle counts the entry's uses; the holder's own is renewed; that of another port answers LEASED, but an OWNER's FORCE
ends an OPERATOR's; no free entry answers BUSY. A duration outside its range answers LIMIT. A release frees the entry its handle names;
at its tick a lease ends with its cause at its port and LEASE_EXPIRED. The model's own readings in it: log entries 43, 86, 88, 104, 107,
115, 116, 117. -/
def Obligations.SystemAndLeaseCommandsAct : Prop :=
  (∀ (s : State) (r : Req) (p : List Nat) (n : Nat), p = msgPay r.msg → n = pU8 p 0 →
     (Asked s r 0x2 4 2 →
       (n ≠ 0x5A → Refuses .sysRestart s r sSTATE) ∧
       (n = 0x5A →
         Completes .sysRestart s fun b' =>
           Answered b' r sOK [] ∧ b'.deferred = s.b.deferred ++ [{ what := 0, port := r.port, quay := r.quay, at_ := 0, ahead := 0 }] ∧
           b' = { s.b with deferred := b'.deferred, answer := b'.answer })) ∧
     (n < 2 → Asked s r 0x3 4 1 →
       (standbyOk s.b = false →
         Completes .sysPower s fun b' =>
           Answered b' r sSTATE [] ∧ b'.f BIV_STBY_CTL.STBY_REJ 0 = 1 ∧ Same s.b b' [(BIV_STBY_CTL.STBY_REJ, 0)] ∧
           b' = { s.b with regs := b'.regs, answer := b'.answer }) ∧
       (standbyOk s.b = true →
         Completes .sysPower s fun b' =>
           Answered b' r sOK [] ∧
           b'.deferred = s.b.deferred ++ [{ what := n + 1, port := r.port, quay := r.quay, at_ := 0, ahead := 0 }] ∧
           b' = { s.b with deferred := b'.deferred, answer := b'.answer })) ∧
     (Asked s r 0x4 0 1 →
       (s.b.dev ≠ .safe → Refuses .sysSafeExit s r sSTATE) ∧
       (s.b.dev = .safe → s.b.devEdge ≠ .safe → Refuses .sysSafeExit s r sSTATE) ∧
       (s.b.dev = .safe → s.b.devEdge = .safe → exitOk s.b = true →
         Completes .sysSafeExit s fun b' =>
           Answered b' r sOK (leBytes 4 (peekWord s.tick b' (FAULT_STATE.REACT.addr 0))) ∧ b'.dev = .run ∧
           b'.f FAULT_STATE.SAFE_LINE 0 = 0 ∧ b'.f FAULT_STATE.HALT_COUNT 0 = 0) ∧
       (s.b.dev = .safe → s.b.devEdge = .safe → exitOk s.b = false →
         Completes .sysSafeExit s fun b' =>
           Answered b' r sSTATE [] ∧ b'.dev = .safe ∧ b'.f FAULT_STATE.EXIT_REJ 0 = 1 ∧ Same s.b b' [(FAULT_STATE.EXIT_REJ, 0)])) ∧
     (running s.b = true →
       ((∀ d ∈ s.b.deferred, d.at_ = 0 ∨ d.acked = false ∧ s.tick < d.at_ - 1 + 20000) → NoEffect .sysDeferredWrite s) ∧
       (∀ d : Deferred, s.b.deferred = [d] → d.at_ ≠ 0 → (d.acked = true ∨ d.at_ - 1 + 20000 ≤ s.tick) →
         (d.what = 0 →
           Completes .sysDeferredWrite s fun b' =>
             b'.deferred = [] ∧ b'.f FAULT_STATE.SAFE_LINE 0 = 1 ∧ b'.col.due = setBit s.b.col.due 1) ∧
         (d.what = 1 → standbyOk s.b = true →
           Completes .sysDeferredWrite s fun b' => b'.deferred = [] ∧ b'.dev = .standby) ∧
         (d.what = 2 → standbyOk s.b = true →
           Completes .sysDeferredWrite s fun b' => b'.deferred = [] ∧ b'.dev = .off) ∧
         ((d.what = 1 ∨ d.what = 2) → standbyOk s.b = false →
           Completes .sysDeferredWrite s fun b' =>
             b'.deferred = [] ∧ b'.dev = s.b.dev ∧ b'.f BIV_STBY_CTL.STBY_REJ 0 = 1 ∧ Same s.b b' [(BIV_STBY_CTL.STBY_REJ, 0)])))) ∧
  (∀ (s : State),
     (∀ (r : Req) (p : List Nat) (k i d : Nat), p = msgPay r.msg → k = pU8 p 0 → i = pU8 p 1 → d = pU32 p 4 →
       leaseRange k i = true → Asked s r 0x100 8 (if k = 4 then 2 else 1) →
       (∀ e : Nat, leaseOf s.b k i = none → e < 32 → leaseOn s.b e = false → (∀ j < e, leaseOn s.b j = true) →
         Completes .leaseGrant s fun b' =>
           Answered b' r (if 10 ≤ d ∧ d ≤ 60000 then sOK else sLIMIT)
             (leBytes 2 (b'.f LEASE_RES.HANDLE e) ++ [0, 0] ++ leBytes 8 (b'.ls e).expiry) ∧
           b'.f LEASE_RES.HANDLE e = e + 1 + 32 * ((s.b.ls e).uses % 2047) ∧ b'.f LEASE_RES.PORT e = r.port % 4 ∧
           b'.f LEASE_RES.KIND e = k ∧ b'.f LEASE_RES.INDEX e = i ∧ (b'.ls e).uses = (s.b.ls e).uses + 1 ∧
           (b'.ls e).expiry = s.tick + 2000 * clampN 10 60000 d ∧
           Same s.b b' [(LEASE_RES.HANDLE, e), (LEASE_RES.PORT, e), (LEASE_RES.KIND, e), (LEASE_RES.INDEX, e), (LEASE_EXP.TICK, e)] ∧
           b' = { s.b with regs := b'.regs, lease := b'.lease, answer := b'.answer }) ∧
       (leaseOf s.b k i = none → (∀ j < 32, leaseOn s.b j = true) → Refuses .leaseGrant s r sBUSY) ∧
       (∀ e : Nat, leaseOf s.b k i = some e →
         (s.b.f LEASE_RES.PORT e = r.port →
           Completes .leaseGrant s fun b' =>
             Answered b' r (if 10 ≤ d ∧ d ≤ 60000 then sOK else sLIMIT)
               (leBytes 2 (s.b.f LEASE_RES.HANDLE e) ++ [0, 0] ++ leBytes 8 (b'.ls e).expiry) ∧
             (b'.ls e).expiry = s.tick + 2000 * clampN 10 60000 d ∧ Same s.b b' [(LEASE_EXP.TICK, e)]) ∧
         (s.b.f LEASE_RES.PORT e ≠ r.port →
           (bit (pU8 p 2) 0 = false ∨ portClass s.b r.port ≠ 2 ∨ portClass s.b (s.b.f LEASE_RES.PORT e) ≠ 1) →
           Refuses .leaseGrant s r sLEASED) ∧
         (s.b.f LEASE_RES.PORT e ≠ r.port → bit (pU8 p 2) 0 = true → portClass s.b r.port = 2 →
           portClass s.b (s.b.f LEASE_RES.PORT e) = 1 → (∀ j < e, leaseOn s.b j = true) →
           Completes .leaseGrant s fun b' =>
             b'.f LEASE_RES.PORT e = r.port % 4 ∧ b'.f LEASE_RES.KIND e = k ∧ b'.f LEASE_RES.INDEX e = i ∧
             b'.f LEASE_RES.HANDLE e = e + 1 + 32 * ((s.b.ls e).uses % 2047) ∧
             bit (Tab.get b'.attn 0 (s.b.f LEASE_RES.PORT e)) 3 = true))) ∧
     (∀ r : Req, Asked s r 0x101 0 1 →
       (∀ e : Nat, ownLease s.b r.port (msgLease r.msg) = some e →
         Completes .leaseRelease s fun b' =>
           Answered b' r sOK [] ∧ leaseOn b' e = false ∧ (∀ j < 32, j ≠ e → leaseOn b' j = leaseOn s.b j) ∧
           Same s.b b' [(LEASE_RES.HANDLE, e), (LEASE_RES.PORT, e), (LEASE_RES.KIND, e), (LEASE_RES.INDEX, e), (LEASE_EXP.TICK, e)] ∧
           (s.b.f LEASE_RES.KIND e = 4 → b'.upload = none) ∧ (s.b.f LEASE_RES.KIND e ≠ 4 → b'.upload = s.b.upload)) ∧
       (ownLease s.b r.port (msgLease r.msg) = none → s.b.leaseEnds = [] → leasePast s.b (msgLease r.msg) = true →
         Refuses .leaseRelease s r sSTALE)) ∧
     (∀ e : Fin 32, running s.b = true →
       (leaseOn s.b e = true → (s.b.ls e).expiry ≤ s.tick →
         Completes (.leaseExpire e) s fun b' =>
           leaseOn b' e = false ∧ bit (Tab.get b'.attn 0 (s.b.f LEASE_RES.PORT e)) 3 = true ∧ Raised b' s.tick 43 0xFFFF ∧
           (∀ j : Fin 32, j ≠ e → leaseOn b' j = leaseOn s.b j) ∧
           Same s.b b' [(LEASE_RES.HANDLE, e.val), (LEASE_RES.PORT, e.val), (LEASE_RES.KIND, e.val), (LEASE_RES.INDEX, e.val),
             (LEASE_EXP.TICK, e.val)]) ∧
       ((leaseOn s.b e = false ∨ s.tick < (s.b.ls e).expiry) → NoEffect (.leaseExpire e) s)))

/-- The opcodes of berths and feeds (R71, R61, R222, R424, R426). Each is the write of its register with the class of its port as origin.
BERTH_SET switches off or on, or writes ON = 0, leaves ON = 1 to the next edge and answers after it: the status of the reason where the
toggle was refused, STATE where the 1 was not taken; a TRIPPED or LOCKED berth refuses action 1; a berth of a group that is not IDLE
answers STATE. The payload shows the berth after the write. An ON = 1 barred by the ALL-OFF line out of SAFE answers STATE: the spec
does not state that status, and it is the model's choice (log entry 165). The model's own readings in it: log entries 87, 88, 94, 165. -/
def Obligations.BerthAndFeedCommandsAct : Prop :=
  ∀ (s : State) (r : Req) (p : List Nat) (n o : Nat), p = msgPay r.msg → n = pU8 p 0 → o = portClass s.b r.port →
    (n < 32 → Asked s r 0x200 4 1 → Leased s r 0 n →
      (outOwned s.b (22 + n) = false →
        (pU8 p 1 = 0 → ∀ x : Blk, x = berthOffRequest s.tick s.b n o →
          Completes .berthSet s fun b' => b' = { x with answer := some (respond r.msg 0x80 sOK (berthShort x n)) }) ∧
        (s.b.barred (22 + n) = false → pU8 p 1 = 1 → s.b.bst n ≠ bTRIPPED → s.b.bst n ≠ bLOCKED →
          ∀ x : Blk, x = berthOnRequest s.tick s.b n o →
          Completes .berthSet s fun b' => b' = { x with answer := some (respond r.msg 0x80 sOK (berthShort x n)) }) ∧
        (s.b.safeNow = false → s.b.lineBars (22 + n) = true → pU8 p 1 = 1 → s.b.bst n ≠ bTRIPPED → s.b.bst n ≠ bLOCKED →
          Completes .berthSet s fun b' => b' = { s.b with answer := some (respond r.msg 0x80 sSTATE (berthShort s.b n)) }) ∧
        (s.b.safeNow = false → pU8 p 1 = 2 → ∀ x : Blk, x = berthOffRequest s.tick s.b n o →
          Completes .berthSet s fun b' => b' = { x with
            staged := x.staged ++ [⟨.pilot, o, BERTH_CTL.ON.addr n, 1⟩], wait := some ⟨false, n, s.tick + 1, false⟩ })) ∧
      (s.b.safeNow = false → pU8 p 1 = 1 → (s.b.bst n = bTRIPPED ∨ s.b.bst n = bLOCKED) →
        Completes .berthSet s fun b' => b' = { s.b with answer := some (respond r.msg 0x80 sSTATE (berthShort s.b n)) }) ∧
      (outOwned s.b (22 + n) = true → pU8 p 1 = 0 → s.b.f BERTH_CTL.ON n = 1 →
        Completes .berthSet s fun b' =>
          Answered b' r sSTATE (berthShort s.b n) ∧ b'.f SEQ_GRP_STATE.OWN_REJ (s.b.f SEQ_OUT_CFG.GROUP (22 + n)) = 1 ∧
          Same s.b b' [(SEQ_GRP_STATE.OWN_REJ, s.b.f SEQ_OUT_CFG.GROUP (22 + n))] ∧
          b' = { s.b with regs := b'.regs, answer := b'.answer })) ∧
    (n < 32 → pU8 p 1 < 256 → pU8 p 2 < 256 → Asked s r 0x203 4 1 → Leased s r 0 n →
      Completes .berthFt s fun b' =>
        b'.f BERTH_FT.FT_CODE n = pU8 p 1 ∧ b'.f BERTH_FT.FT_HELD n = pU8 p 2 ∧ b'.f BERTH_FT.REV_EN n = min 1 (pU8 p 3) ∧
        Answered b' r
          (if b'.ftApplied BERTH_FT.FT_CODE n = pU8 p 1 ∧ b'.ftApplied BERTH_FT.FT_HELD n = pU8 p 2 ∧ pU8 p 3 ≤ 1 then sOK else sLIMIT)
          [n, b'.ftApplied BERTH_FT.FT_CODE n, b'.ftApplied BERTH_FT.FT_HELD n, min 1 (pU8 p 3)] ∧
        Same s.b b' [(BERTH_FT.FT_CODE, n), (BERTH_FT.FT_HELD, n), (BERTH_FT.REV_EN, n)] ∧
        b' = { s.b with regs := b'.regs, answer := b'.answer }) ∧
    (n < 2 → Asked s r 0x301 4 1 →
      Completes .feedForce s fun b' =>
        Answered b' r (if pU8 p 1 ≤ 1 then sOK else sLIMIT) [] ∧ b'.f FEED_CTL.FORCE_OFF n = min 1 (pU8 p 1) ∧
        (1 ≤ pU8 p 1 → b'.f FEED_STATUS.STATE n = 3) ∧
        (pU8 p 1 = 0 → b'.f FEED_STATUS.STATE n = (if s.b.f FEED_STATUS.STATE n = 3 then 0 else s.b.f FEED_STATUS.STATE n)) ∧
        Same s.b b' [(FEED_CTL.FORCE_OFF, n), (FEED_STATUS.STATE, n)] ∧ b' = { s.b with regs := b'.regs, answer := b'.answer }) ∧
    (∀ (t : Nat) (b : Blk) (w : Wait), b.wait = some w → b.msg = some r → w.loop = false →
      (t < w.due → waitAnswer t b = b) ∧
      (w.due ≤ t → waitAnswer t b = { b with wait := none, answer := some (respond r.msg 0x80
        (if b.f BERTH_CTL.ON w.idx = 0 then sSTATE
          else if b.bst w.idx = bTRIPPED ∨ b.bst w.idx = bLOCKED then
            (if b.f BERTH_PSTAT.REJ_REASON w.idx = 0 then sOK else if b.f BERTH_PSTAT.REJ_REASON w.idx = 2 then sDENIED else sSTATE)
          else sOK) (berthShort b w.idx)) }))

/-- The opcodes of loops and internal regulators (R116, R118, R141, R153, R157, R421, R427). LOOP_SET starts and stops, LOOP_VSET writes the
nearest code, LOOP_FORCE the forced index, LOOP_OPEN asks for OPEN where the state allows it, LOOP_RETUNE puts its eight words on their
way by the state and answers when they stand, or LOOP_CLOSED, IREG_SET writes the enable and the code. A value out of range or above a
KO limit answers LIMIT with the applied value. The model's own readings in it: log entries 46, 87, 88, 89, 90, 92. -/
def Obligations.RegulatorCommandsAct : Prop :=
  ∀ (s : State) (r : Req) (p : List Nat) (n : Nat), p = msgPay r.msg →
    (n = pU8 p 0 → n < 8 → Leased s r 1 n →
      (outOwned s.b n = false → Asked s r 0x400 4 1 → Fresh s (.loop n) →
        (s.b.barred n = false → pU8 p 1 = 1 → s.b.lst n = lDISABLED →
          Completes .loopSet s fun b' =>
            b'.lst n = lPRECHECK ∧ b'.f LOOP_CTL.EN n = 1 ∧ Answered b' r sOK [lPRECHECK, s.b.f LOOP_STATE.CAUSE n, 0, 0] ∧
            (∀ j : Nat, j < 8 → j ≠ n → b'.lst j = s.b.lst j ∧ b'.f LOOP_CTL.EN j = s.b.f LOOP_CTL.EN j)) ∧
        (pU8 p 1 = 0 → s.b.lst n = lFAULTED →
          Completes .loopSet s fun b' =>
            b'.lst n = lDISABLED ∧ b'.f LOOP_CTL.EN n = 0 ∧ Answered b' r sOK [lDISABLED, s.b.f LOOP_STATE.CAUSE n, 0, 0])) ∧
      (Asked s r 0x401 8 1 → Fresh s (.loop n) → ∀ (k : Nat) (c : Int), k = pU8 p 1 → k < 8 → 500 ≤ c → c ≤ 11000 →
        pI32 p 4 = c * (if s.b.f LOOP_CFG.SCALE n = 1 then 2000 else 500) →
        Completes .loopVset s fun b' =>
          b'.f (LOOP_VSET.CODE k) n = c.toNat ∧
          Answered b' r (if c.toNat ≤ s.b.f LOOP_KLIM.VSET_CEIL n then sOK else sLIMIT) (i32 (b'.codeUv n (b'.vsetCode n k))) ∧
          b'.lst n = (if s.b.lst n = lBURST ∧ k = s.b.f LOOP_STATE.IDX n then lREGULATING else s.b.lst n) ∧ (∀ j : Nat, j < 8 → j ≠ n → b'.lst j = s.b.lst j)) ∧
      (Asked s r 0x402 4 1 → (s.b.f LOOP_CTL.EN n = 0 ∨ s.b.barred n = false) →
        Completes .loopForce s fun b' =>
          Answered b' r (if pU8 p 1 ≤ 1 ∧ pU8 p 2 ≤ 7 then sOK else sLIMIT) [] ∧ b'.f LOOP_CTL.FORCE_EN n = min 1 (pU8 p 1) ∧
          b'.f LOOP_CTL.FORCE_IDX n = min 7 (pU8 p 2) ∧
          ((s.b.lp n).enfIdx = none → 1 ≤ pU8 p 1 → b'.f LOOP_STATE.IDX n = min 7 (pU8 p 2))) ∧
      (Asked s r 0x403 4 1 →
        (openAllowed s.b n (min 1 (pU8 p 1)) = false → Refuses .loopOpen s r sSTATE) ∧
        (openAllowed s.b n (min 1 (pU8 p 1)) = true →
          ∀ x : Blk, x = (if 1 ≤ pU8 p 1 then loopOpenRequest s.tick s.b n else loopOpenClear s.tick s.b n) →
          Completes .loopOpen s fun b' => b' = { x with answer := some (respond r.msg 0x80
            (if pU8 p 1 ≤ 1 then sOK else sLIMIT) [x.lst n, x.f ENG_LOOP_STAT.OPEN_SRC n, 0, 0]) })) ∧
      (Asked s r 0x404 36 1 → ∀ ws : List Staged,
        ws = (List.range 8).map (fun k =>
          ⟨.pilot, portClass s.b r.port, 0x40070010 + 256 * n + 4 * k, leAt p (4 + 4 * k) 4⟩) →
        (s.b.f ENG_LOOP_CFG.LIVE_TUNE n ≠ 1 → (s.b.lst n = lDISABLED ∨ s.b.lst n = lOPEN) →
          Completes .loopRetune s fun b' =>
            b' = { s.b with staged := s.b.staged ++ ws, wait := some ⟨true, n, s.tick + 1, false⟩ }) ∧
        (s.b.f ENG_LOOP_CFG.LIVE_TUNE n ≠ 1 → (s.b.lst n = lSOFTSTART ∨ s.b.lst n = lREGULATING ∨ s.b.lst n = lBURST) →
          Completes .loopRetune s fun b' =>
            b'.staged = s.b.staged ++ [⟨.pilot, portClass s.b r.port, ENG_LOOP_CTL.OPEN_REQ.addr n, 1⟩] ∧
            b'.later = s.b.later ++ ws.map (fun w => (s.tick + 2, w)) ++
              [(s.tick + 2, ⟨.pilot, portClass s.b r.port, ENG_LOOP_CTL.OPEN_REQ.addr n, 0⟩)] ∧
            b' = { s.b with staged := b'.staged, later := b'.later, wait := some ⟨true, n, s.tick + 3, false⟩ }) ∧
        (s.b.f ENG_LOOP_CFG.LIVE_TUNE n ≠ 1 → (s.b.lst n = lPRECHECK ∨ s.b.lst n = lSTOPPING ∨ s.b.lst n = lFAULTED) →
          Refuses .loopRetune s r sLOOP_CLOSED) ∧
        (s.b.f ENG_LOOP_CFG.LIVE_TUNE n = 1 →
          Completes .loopRetune s fun b' =>
            b'.staged = s.b.staged ++ ws ∧ b'.wait = some ⟨true, n, s.tick + (s.b.lp n).coef.length + 8, false⟩ ∧
            b'.f ENG_LOOP_STAT.COEF_PEND n = 1 ∧ Same s.b b' [(ENG_LOOP_STAT.COEF_PEND, n)] ∧
            b' = { s.b with staged := b'.staged, regs := b'.regs, wait := b'.wait }))) ∧
    (∀ (t : Nat) (b : Blk) (w : Wait), b.wait = some w → b.msg = some r → w.loop = true →
      (t < w.due → waitAnswer t b = b) ∧
      (w.due ≤ t → waitAnswer t b = { b with wait := none, answer := some (
        respond r.msg 0x80 (if w.bad = true then sLOOP_CLOSED else sOK) (if w.bad = true then [] else leBytes 8 w.due)) })) ∧
    (n = pU8 p 1 → n < 8 → pU8 p 0 = 0 → Asked s r 0x500 8 1 → outOwned s.b (8 + n) = false →
      (s.b.barred (8 + n) = false → pU8 p 2 = 1 → pI32 p 4 = 0 → ∀ x : Blk, x = buckEnable s.tick s.b n →
        Completes .iregSet s fun b' => b' = { x with answer := some (respond r.msg 0x80 sOK (i32 (x.ibVset n))) }) ∧
      (∀ c : Int, pU8 p 2 = 0 → 240 ≤ c → c ≤ 2200 → pI32 p 4 = 2500 * c →
        Completes .iregSet s fun b' =>
          b'.f IB_CTL.EN n = 0 ∧ b'.f IB_VSET.CODE n = c.toNat ∧
          Answered b' r (if c.toNat ≤ s.b.f IB_KLIM.VSET_CEIL n then sOK else sLIMIT) (i32 (b'.ibVset n)))) ∧
    (n = pU8 p 1 → n < 6 → pU8 p 0 = 1 → Asked s r 0x500 8 1 → outOwned s.b (16 + n) = false →
      (∀ c : Int, pU8 p 2 = 0 → 0 ≤ c → c ≤ 168 → pI32 p 4 = 800000 + 25000 * c →
        Completes .iregSet s fun b' =>
          b'.f LDO_CTL.EN n = 0 ∧ b'.f LDO_CTL.CODE n = c.toNat ∧
          Answered b' r (if c.toNat ≤ s.b.f LDO_KLIM.CODE_CEIL n then sOK else sLIMIT) (i32 (b'.ldoVset n))) ∧
      (s.b.barred (16 + n) = false → pU8 p 2 = 1 → pI32 p 4 = 0 → s.b.dst n = iDISABLED → s.b.f LDO_CTL.CODE n ≤ 168 → Fresh s (.ldo n) →
        Completes .iregSet s fun b' =>
          b'.dst n = iSOFTSTART ∧ b'.f LDO_CTL.EN n = 1 ∧ b'.f LDO_CTL.CODE n = s.b.f LDO_CTL.CODE n ∧
          Answered b' r sOK (i32 (s.b.ldoVset n)))) ∧
    (((pU8 p 0 = 0 ∧ 8 ≤ pU8 p 1) ∨ (pU8 p 0 = 1 ∧ 6 ≤ pU8 p 1) ∨ 2 ≤ pU8 p 0) → pU8 p 2 = 0 → Asked s r 0x500 8 1 →
      Refuses .iregSet s r sNOT_FOUND)

/-- The opcodes of groups, charger, pack and gauge (R230, R232 to R234, R253, R257, R270, R272). Each makes the request of its register:
SEQ_START and SEQ_ACK answer STATE where the group or R234 does not allow them, SEQ_ALLOFF outside the domain, CHG_SET in FAULT,
PACK_AUTH without a pack. GAUGE_RESTORE answers AUTH for RST_ERR 5 and STATE for the others, with RST_ERR in its payload. The model's
own readings in it: log entries 88, 91, 92. -/
def Obligations.GroupAndBatteryCommandsAct : Prop :=
  ∀ (s : State) (r : Req) (p : List Nat) (n o : Nat), p = msgPay r.msg → n = pU8 p 0 → o = portClass s.b r.port →
    (n < 8 → Leased s r 2 n →
      (s.b.safeNow = false → Asked s r 0x600 4 1 →
        ((s.b.gst n ≠ gIDLE ∨ s.b.f SEQ_GRP_STEPS.COUNT n = 0) → Refuses .seqStart s r sSTATE) ∧
        (s.b.gst n = gIDLE → s.b.f SEQ_GRP_STEPS.COUNT n ≠ 0 → ∀ x : Blk, x = seqStart s.tick s.b n o →
          Completes .seqStart s fun b' => b' = { x with answer := some (respond r.msg 0x80 sOK
            [x.gst n, x.f SEQ_GRP_STATE.START_PEND n, 0, 0]) })) ∧
      (Asked s r 0x601 4 1 → ∀ x : Blk, x = seqStop s.tick s.b n 1 →
        Completes .seqStop s fun b' => b' = { x with answer := some (respond r.msg 0x80 sOK
            [x.gst n, x.f SEQ_GRP_STATE.CAUSE n, 0, 0]) }) ∧
      (s.b.safeNow = false → Asked s r 0x602 4 1 →
        (s.b.f SEQ_GRP_STEPS.COUNT n = 0 → Refuses .seqAck s r sSTATE) ∧
        (s.b.f SEQ_GRP_STEPS.COUNT n ≠ 0 → s.b.gst n = gALLOFF → (s.b.gr n).offAt + tOff s.b n ≤ s.tick → s.b.dev = .run →
          Fresh s (.grp n) → (s.b.gr n).pendAt ≠ s.tick + 1 →
          Completes .seqAck s fun b' =>
            b'.gst n = gIDLE ∧ Answered b' r sOK [gIDLE, s.b.f SEQ_GRP_STATE.CAUSE n, 0, 0] ∧ b'.f SEQ_GRP_STATE.START_PEND n = 0) ∧
        (s.b.f SEQ_GRP_STEPS.COUNT n ≠ 0 → (s.b.gst n ≠ gALLOFF ∨ s.tick < (s.b.gr n).offAt + tOff s.b n ∨ s.b.dev ≠ .run) →
          Completes .seqAck s fun b' =>
            Answered b' r sSTATE [] ∧ b'.f SEQ_GRP_STATE.ACK_REJ n = 1 ∧ Same s.b b' [(SEQ_GRP_STATE.ACK_REJ, n)])) ∧
      (Asked s r 0x603 4 1 →
        (inDomain s.b n = false → Refuses .seqAlloff s r sSTATE) ∧
        (inDomain s.b n = true → ∀ x : Blk, x = seqAllOffReq s.tick s.b n →
          Completes .seqAlloff s fun b' => b' = { x with answer := some (respond r.msg 0x80 sOK []) }))) ∧
    (Asked s r 0x800 12 1 → Leased s r 3 0 →
      (n = 0 → s.b.cst = cFAULT → Refuses .chgSet s r sSTATE) ∧
      (∀ i v : Nat, i ≤ 8191 → 3000 ≤ v → v ≤ 4400 → pI32 p 4 = 1000 * (i : Int) → pI32 p 8 = 1000 * (v : Int) →
        n ≤ 1 → pU8 p 1 = 0 → s.b.safeNow = false → s.b.cst ≠ cFAULT → Fresh s .chg →
        Completes .chgSet s fun b' =>
          b'.f CHG_CTL.EN 0 = n ∧ b'.f CHG_CTL.SUSPEND 0 = 0 ∧ b'.f CHG_SET.ICHG 0 = i ∧ b'.f CHG_SET.VCELL_REG 0 = v ∧
          (n = 0 → b'.cst = cOFF) ∧
          Answered b' r (if ichgApplied b' < i ∨ vcellApplied b' < v then sLIMIT else sOK)
            (i32 ((ichgApplied b' * 1000 : Nat) : Int) ++ i32 ((vcellApplied b' * 1000 : Nat) : Int)))) ∧
    (Asked s r 0x802 0 1 →
      (s.b.f KEEP_STATUS.PACK_PRESENT 0 ≠ 1 → Refuses .packAuth s r sSTATE) ∧
      (s.b.f KEEP_STATUS.PACK_PRESENT 0 = 1 → s.b.auth.run = false →
        Completes .packAuth s fun b' =>
          Answered b' r sOK [] ∧ b'.auth.run = true ∧ b'.auth.tries = 1 ∧ b'.auth.t0 = s.tick ∧
          b'.auth.next = s.b.auth.next ∧ Same s.b b' [(PACK_AUTH_STAT.ATTEMPTS, 0)])) ∧
    (∀ e : Nat, p.length = 64 → (∀ x ∈ p, x < 256) → e = commitErr s.b p (leAt p 60 4) → Asked s r 0x902 64 1 →
      Completes .gaugeRestore s fun b' =>
        Answered b' r (if e = 0 then sOK else if e = 5 then sAUTH else sSTATE) [e, 0, 0, 0] ∧ b'.f GAUGE_RST.RST_ERR 0 = e ∧
        (∀ k : Fin 16, b'.f GAUGE_STAGE.WORD k = 0) ∧
        (e ≠ 0 → b'.gauge = s.b.gauge ∧ Same s.b b' ((GAUGE_RST.RST_ERR, 0) :: each 16 [GAUGE_STAGE.WORD])) ∧
        (e = 0 → b'.gauge.fcc = leIntAt p 8 8 ∧ b'.f GAUGE_FLAGS.RESTORED 0 = 1 ∧ b'.f GAUGE_FLAGS.INVALID 0 = 0))

/-- The opcodes of the Bivouac domain (R281, R284, R285, R287, R290, R294). BIV_SET_TIME stages and commits the calendar, or answers STATE
for a time that is not valid, and gives no answer while the oscillator is stopped; alarm, trim, WAKE_OUT and the user area take the
values given, LIMIT where one was reduced. The opcodes of faults, records and the ring (R307, R352, R359, R429, R430). FAULT_CLEAR
clears exactly the bits it names; LOG_SNAPSHOT asks for a record with the request's TAG; LOG_CLEAR, its token right, counts the clear
and answers later with its record, and otherwise AUTH, STATE or BUSY; HW_RELAY sends its message and waits; HW_RELAY_MORE shows the
message held. The model's own readings in it: log entries 87, 91, 97, 106, 111. -/
def Obligations.BivouacAndRecordCommandsAct : Prop :=
  (∀ (s : State) (r : Req) (p : List Nat), p = msgPay r.msg →
     (∀ c : Cal, c = ⟨pU8 p 0 % 64, pU8 p 1 % 64, pU8 p 2 % 32, pU8 p 3 % 32, pU8 p 4 % 16, pU8 p 5 % 128, pU8 p 6 % 8⟩ →
       Asked s r 0xA01 8 1 → s.b.biv.sets = [] →
       (s.b.biv.osc = true → c.valid = true →
         Completes .bivSetTime s fun b' =>
           b'.biv.cal = c ∧ b'.f BIV_RTC_EPOCH.SECONDS 0 = c.epoch % 2 ^ 32 ∧ b'.biv.wrRej = false ∧ b'.biv.sets = [] ∧
           Answered b' r sOK (leBytes 4 (c.epoch % 2 ^ 32)) ∧
           Same s.b b' [(BIV_RTC_EPOCH.SECONDS, 0), (BIV_ALARM_CTL.ALARM_FLAG, 0), (BIV_WAKE_CAUSE.CAUSE, 0),
             (BIV_WAKEOUT.WO_LATCH, 0), (BIV_WAKEOUT.PIN, 0)]) ∧
       (s.b.biv.osc = true → c.valid = false →
         Completes .bivSetTime s fun b' =>
           Answered b' r sSTATE [] ∧ b'.biv.wrRej = true ∧ b'.biv.cal = s.b.biv.cal ∧ Same s.b b' []) ∧
       (s.b.biv.osc = false →
         Completes .bivSetTime s fun b' => b'.answer = none ∧ b'.biv.sets = [4] ∧ b'.biv.cal = s.b.biv.cal ∧ Same s.b b' [])) ∧
     (Asked s r 0xA02 8 1 →
       Completes .bivAlarm s fun b' =>
         b'.f BIV_ALARM.ALARM 0 = pU32 p 0 % 2 ^ 32 ∧ b'.f BIV_ALARM_CTL.ALARM_EN 0 = min 1 (pU8 p 4) ∧
         b'.f BIV_WAKE_CFG.WAKE_EN 0 = min 15 (pU8 p 5) ∧ b'.f BIV_WAKE_CFG.WO_WAKEIN 0 = min 7 (pU8 p 6) % 2 ∧
         (pU32 p 0 ≤ s.b.f BIV_RTC_EPOCH.SECONDS 0 → b'.f BIV_ALARM_CTL.ALARM_PAST 0 = 1) ∧
         Answered b' r (if pU8 p 4 ≤ 1 ∧ pU8 p 5 ≤ 15 ∧ pU8 p 6 ≤ 7 then sOK else sLIMIT)
           [peekWord s.tick b' (BIV_ALARM_CTL.ALARM_EN.addr 0), b'.f BIV_WAKE_CAUSE.CAUSE 0, 0, 0] ∧
         b' = { s.b with
           regs := b'.regs, answer := b'.answer,
           biv := { s.b.biv with past := decide (pU32 p 0 % 2 ^ 32 ≤ s.b.f BIV_RTC_EPOCH.SECONDS 0) } }) ∧
     (Asked s r 0xA03 4 2 →
       (pU8 p 2 = 0 →
         Completes .bivTrim s fun b' =>
           b'.fi BIV_TRIM.TRIM 0 = clampI (-512) 512 (leIntAt p 0 2) ∧
           Answered b' r (if -512 ≤ leIntAt p 0 2 ∧ leIntAt p 0 2 ≤ 512 then sOK else sLIMIT)
             (leInt 2 (clampI (-512) 512 (leIntAt p 0 2)) ++ [0, 0] ++ leBytes 4 (s.b.f BIV_MEAS.TICKS 0)) ∧
           Same s.b b' [(BIV_TRIM.TRIM, 0)] ∧ b' = { s.b with regs := b'.regs, answer := b'.answer }) ∧
       (pU8 p 2 = 1 → s.b.f CLK_STATUS.TICK_SRC 0 = 1 →
         Completes .bivTrim s fun b' =>
           Answered b' r sSTATE [] ∧ b'.f BIV_MEAS.MEAS_ERR 0 = 1 ∧ Same s.b b' [(BIV_TRIM.TRIM, 0), (BIV_MEAS.MEAS_ERR, 0)]) ∧
       (pU8 p 2 = 1 → s.b.f CLK_STATUS.TICK_SRC 0 = 0 → s.b.dev = .run →
         Completes .bivTrim s fun b' => b'.biv.meas = some s.tick ∧ Same s.b b' [(BIV_TRIM.TRIM, 0)] ∧
           b'.fi BIV_TRIM.TRIM 0 = clampI (-512) 512 (leIntAt p 0 2))) ∧
     (∀ (i n : Nat), i = pU8 p 1 → n = pU8 p 2 → 1 ≤ n → i + n ≤ 64 → s.b.biv.ram.length = 256 →
       (pU8 p 0 = 0 → Asked s r 0xA04 4 0 →
         Shows .bivUser s r fun pay => pay.length = n ∧ ∀ j, j < n → pay.getD j 0 = s.b.biv.ram.getD (0xC0 + i + j) 0 % 256) ∧
       (pU8 p 0 = 1 → Asked s r 0xA04 (4 + n) 1 →
         Completes .bivUser s fun b' =>
           Answered b' r sOK [] ∧ b'.biv.ram.length = 256 ∧
           (∀ j, j < n → b'.biv.ram.getD (0xC0 + i + j) 0 = pU8 p (4 + j) % 256) ∧
           (∀ x, (x < 0xC0 + i ∨ 0xC0 + i + n ≤ x) → b'.biv.ram.getD x 0 = s.b.biv.ram.getD x 0) ∧ Same s.b b' [])) ∧
     (pU8 p 0 = 0 → 64 < pU8 p 1 + pU8 p 2 → Asked s r 0xA04 4 0 → Refuses .bivUser s r sNOT_FOUND) ∧
     (Asked s r 0xA05 4 1 →
       Completes .bivWakeout s fun b' =>
         b'.f BIV_WAKEOUT.WO_HOLD 0 = min 1 (pU8 p 0) ∧
         b'.f BIV_WAKEOUT.WO_LATCH 0 = (if 1 ≤ pU8 p 1 then 0 else s.b.f BIV_WAKEOUT.WO_LATCH 0) ∧
         Answered b' r (if pU8 p 0 ≤ 1 ∧ pU8 p 1 ≤ 1 then sOK else sLIMIT)
           (leBytes 4 (peekWord s.tick b' (BIV_WAKEOUT.WO_HOLD.addr 0))) ∧
         Same s.b b' [(BIV_WAKEOUT.WO_HOLD, 0), (BIV_WAKEOUT.WO_LATCH, 0), (BIV_WAKEOUT.PIN, 0)] ∧
         b' = { s.b with regs := b'.regs, answer := b'.answer })) ∧
  (∀ (s : State) (r : Req) (p : List Nat), p = msgPay r.msg →
     (Asked s r 0xB01 12 1 →
       Completes .faultClear s fun b' =>
         b'.f FAULT_STATUS_LO.SRC 0 =
           ((s.b.f FAULT_STATUS_LO.SRC 0 &&& (0xFFFFFFFF ^^^ pU32 p 0 % 2 ^ 32)) ||| justLatched s.tick s.b % 2 ^ 32) % 2 ^ 32 ∧
         b'.f FAULT_STATUS_HI.SRC 0 =
           ((s.b.f FAULT_STATUS_HI.SRC 0 &&& (0xFFFF ^^^ pU32 p 4 % 2 ^ 16)) ||| justLatched s.tick s.b / 2 ^ 32) % 2 ^ 16 ∧
         (1 ≤ pU8 p 8 → s.b.col.nowAt ≠ s.tick + 1 → b'.f FIRST_FAULT.VALID 0 = 0 ∧ b'.f FIRST_FAULT.MORE 0 = 0) ∧
         (pU8 p 8 = 0 → b'.f FIRST_FAULT.VALID 0 = s.b.f FIRST_FAULT.VALID 0 ∧ b'.f FIRST_FAULT.MORE 0 = s.b.f FIRST_FAULT.MORE 0) ∧
         Answered b' r (if pU8 p 8 ≤ 1 then sOK else sLIMIT) (leBytes 8 (faultStatus b')) ∧
         (s.b.col.nowAt ≠ s.tick + 1 → Same s.b b'
           [(FAULT_STATUS_LO.SRC, 0), (FAULT_STATUS_HI.SRC, 0), (FIRST_FAULT.VALID, 0), (FIRST_FAULT.MORE, 0)]) ∧
         b' = { s.b with regs := b'.regs, answer := b'.answer }) ∧
     (Asked s r 0xC02 0 1 →
       (s.b.f LOG_STATUS.DROP_RUN 0 = 1 → Refuses .logSnapshot s r sBUSY) ∧
       (s.b.f LOG_STATUS.DROP_RUN 0 ≠ 1 → ∀ x : Blk, x = logSnap s.tick s.b (msgTag r.msg) r.port →
         Completes .logSnapshot s fun b' => b' = { x with answer := some (respond r.msg 0x80 sOK []) })) ∧
     (Asked s r 0xC03 64 2 →
       (s.b.clearWait = true → NoEffect .logClear s) ∧
       (s.b.clearWait = false → s.b.counter 2 = 255 →
         Refuses .logClear s r (if clearToken s.b p = true then sSTATE else sAUTH)) ∧
       (s.b.clearWait = false → s.b.counter 2 ≠ 255 → s.b.log.clearing = true →
         Refuses .logClear s r (if clearToken s.b p = true then sBUSY else sAUTH)) ∧
       (s.b.clearWait = false → s.b.counter 2 < 255 → s.b.log.clearing = false → (∀ c < 3, s.b.sig (.otpFail c) = 0) →
         Completes .logClear s fun b' =>
           if clearToken s.b p = true then
             b'.answer = none ∧ b'.clearWait = true ∧ b'.log.clearing = true ∧ b'.counter 2 = s.b.counter 2 + 1
           else b' = { s.b with answer := some (respond r.msg 0x80 sAUTH []) })) ∧
     (∀ L : Nat, 8 ≤ L → L ≤ 492 → Asked s r 0x1101 L 1 →
       ((pU16 p 0 = 0 ∨ 4096 ≤ pU16 p 0 ∨ 4 ≤ pU8 p 2) → Refuses .hwRelay s r sNOT_FOUND) ∧
       (1 ≤ pU16 p 0 → pU16 p 0 < 4096 → pU8 p 2 < 4 →
         (s.b.hw.relay.isSome = true → NoEffect .hwRelay s) ∧
         (s.b.hw.relay = none →
           Completes .hwRelay s fun b' =>
             b'.answer = none ∧ heldOf b' r.port = none ∧
             b'.hw.relay = some (r.port, pU16 p 0, pU8 p 2,
               s.tick + 2000 * min (pU16 p 4) (atLeast1 (s.b.f QUAY_CFG.EXEC_TMO 0) - 5)) ∧
             b'.hw.sent = s.b.hw.sent + (if hwNode s.b = true then 1 else 0) ∧ Same s.b b' []))) ∧
     (Asked s r 0x1102 4 1 →
       (heldOf s.b r.port = none → Refuses .hwRelayMore s r sNOT_FOUND) ∧
       (∀ h : Held, heldOf s.b r.port = some h →
         (h.msg.length ≤ pU16 p 0 → Refuses .hwRelayMore s r sNOT_FOUND) ∧
         (pU16 p 0 < h.msg.length → Shows .hwRelayMore s r fun pay => pay =
           leBytes 2 h.msg.length ++ leBytes 2 (min (h.msg.length - pU16 p 0) 488) ++ (h.msg.drop (pU16 p 0)).take 488))))

/-- The opcodes of images (R371, R373, R377, R380, R431): BEGIN starts the erase of the slot that is not in force, chunks follow in order
and are programmed once, END shows the check's result, FW_ACTIVATE makes a valid inactive slot pending. A SEQ not above the one in force
answers STALE, a wrong LENGTH BAD_LENGTH, a chunk while erasing BUSY, out of order, after an abandonment or onto words that are not
blank STATE. That SEQ = 0xFFFFFFFF answers STALE beside an image in force is the model's choice (log entry 191). The model's own
readings in it: log entries 108, 109, 191, 194, 195. -/
def Obligations.ImageCommandsAct : Prop :=
  ∀ (s : State) (r : Req) (p : List Nat), p = msgPay r.msg → Leased s r 4 0 →
    (Asked s r 0xD01 8 2 → s.b.f BOOT_STATUS.NOCFG 0 = 0 →
      ((pU32 p 0 ≤ cfgSeq s.b ∨ pU32 p 0 = 0xFFFFFFFF) → Refuses .cfgBegin s r sSTALE) ∧
      (cfgSeq s.b < pU32 p 0 → pU32 p 0 ≠ 0xFFFFFFFF → (pU32 p 4 < 36 ∨ 65536 < pU32 p 4 ∨ pU32 p 4 % 8 ≠ 4) →
        Refuses .cfgBegin s r sBAD_LENGTH) ∧
      (∀ k : Nat, k = 1 - s.b.f BOOT_STATUS.CFG_SLOT 0 → cfgSeq s.b < pU32 p 0 → pU32 p 0 ≠ 0xFFFFFFFF → 36 ≤ pU32 p 4 →
        pU32 p 4 ≤ 65536 → pU32 p 4 % 8 = 4 →
        Completes .cfgBegin s fun b' =>
          Answered b' r sOK [k, 0, 0, 0] ∧
          b'.upload = some { fw := false, slot := k, next := 0, len := pU32 p 4, erasing := true } ∧
          b'.f CFG_SEQ.SEQ k = 0xFFFFFFFF ∧ Same s.b b' [(CFG_SEQ.SEQ, k)])) ∧
    (Asked s r 0xE01 4 2 →
      (0x200000 < pU32 p 0 → Refuses .fwBegin s r sBAD_LENGTH) ∧
      (∀ k : Nat, k = 1 - fwActive s.b → pU32 p 0 ≤ 0x200000 →
        Completes .fwBegin s fun b' =>
          Answered b' r sOK [k, 0, 0, 0] ∧
          b'.upload = some { fw := true, slot := k, next := 0, len := pU32 p 0, erasing := true } ∧
          b'.f PILOT_VER.VERSION k = 0 ∧ Same s.b b' [(PILOT_VER.VERSION, k)])) ∧
    (∀ (c : Instr) (code n : Nat) (fw : Bool), (c = .cfgChunk ∧ code = 0xD02 ∧ fw = false ∨ c = .fwChunk ∧ code = 0xE02 ∧ fw = true) →
      p.length = n + 4 → n % 8 = 0 → 8 ≤ n → n ≤ 488 → Asked s r code (n + 4) 2 →
      (s.b.upload = none → Refuses c s r sSTATE) ∧
      (∀ u : Upload, s.b.upload = some u →
        (u.fw ≠ fw → Refuses c s r sSTATE) ∧
        (u.fw = fw → u.erasing = true → Refuses c s r sBUSY) ∧
        (u.fw = fw → u.erasing = false → pU32 p 0 ≠ u.next → Refuses c s r sSTATE) ∧
        (u.fw = fw → u.erasing = false → pU32 p 0 = u.next → u.next + n ≤ (u.len + 7) / 8 * 8 →
          (s.mem.flashTakes (u.base + u.next) (n / 8) = false →
            CompletesX c s fun m' b' => m' = s.mem.flashWrite (u.base + u.next) (p.drop 4) 64 ∧
              b' = { s.b with answer := some (respond r.msg 0x80 sSTATE []) }) ∧
          (s.mem.flashTakes (u.base + u.next) (n / 8) = true → s.b.sig .flashFail = 0 → CompletesX c s fun m' b' =>
            m' = s.mem.flashWrite (u.base + u.next) (p.drop 4) 64 ∧
            b' = { s.b with
              upload := some { u with next := u.next + n },
              answer := some (respond r.msg 0x80 sOK (leBytes 4 (u.next + n))) })))) ∧
    (Asked s r 0xD03 0 2 →
      (uploadFull s.b false = none →
        Completes .cfgEnd s fun b' =>
          (∃ x, Answered b' r sSTATE [x, 0, 0, 0]) ∧ b' = { s.b with answer := b'.answer, free := b'.free }) ∧
      (∀ (u : Upload) (e : Nat), uploadFull s.b false = some u → e = (cfgCheck s.tick (s.mem, s.b) u.slot).1 →
        CompletesX .cfgEnd s fun _ b' =>
          Answered b' r (if e = 0 then sOK else if e = 3 then sAUTH else sSTATE) [e, 0, 0, 0] ∧ b'.upload = none)) ∧
    (Asked s r 0xE03 0 2 →
      (uploadFull s.b true = none →
        Completes .fwEnd s fun b' =>
          (∃ x, Answered b' r sSTATE [x, 0, 0, 0]) ∧ b' = { s.b with answer := b'.answer, free := b'.free }) ∧
      (∀ (u : Upload) (e : Nat), uploadFull s.b true = some u → e = (pilotCheck s.tick (s.mem, s.b) u.slot).1 →
        CompletesX .fwEnd s fun _ b' =>
          Answered b' r (if e = 0 then sOK else if e = 2 then sAUTH else sSTATE) [e, 0, 0, 0] ∧ b'.upload = none)) ∧
    (∀ k e : Nat, k = 1 - fwActive s.b → e = (pilotCheck s.tick (s.mem, s.b) k).1 → Asked s r 0xE04 0 2 →
      CompletesX .fwActivate s fun _ b' =>
        Answered b' r (if e = 0 then sOK else sSTATE) (if e = 0 then [k, 0, 0, 0] else []) ∧
        (s.b.biv.ram.length = 256 → fwActive s.b < 2 →
          if e = 0 then (bootRec b').take 3 = [fwActive s.b, k, 0] ∧ bootRecOk b' = true else b'.biv.ram = s.b.biv.ram))

/-- The OTP opcodes that program (R342, R346, R362, R383): a wrong signature answers AUTH, a running command STATE with ERR 1, and neither
programs anything; while a record is being programmed the request waits (R350); while the owner slot is blank the OWNER origin alone
suffices (R383). A word outside the table of requests answers STATE with ERR 3. What is programmed reads back. The model's own readings
in it: log entries 16, 110, 128, 198. -/
def Obligations.OtpRequestCommandsAct : Prop :=
  ∀ (s : State) (r : Req) (p : List Nat) (n : Nat), p = msgPay r.msg → n = pU8 p 0 →
    (∀ (w v : Nat) (good : Bool), w = pU16 p 0 → v = pU32 p 4 → w < 2048 →
      good = otpSigned s.b [0x4F, 0x54, 0x50, 0x50, 0x52, 0x4F, 0x47, 0x31] (slice p 0 2 ++ slice p 4 4) (p.drop 8) →
      Asked s r 0xF01 72 2 →
      Completes .otpProgram s fun b' =>
        (good = false → b' = { s.b with answer := some (respond r.msg 0x80 sAUTH (otpShort s.b)) }) ∧
        (good = true → s.b.f OTP_STATUS.BUSY 0 = 1 →
          Answered b' r sSTATE (otpShort b') ∧ b'.f OTP_STATUS.ERR 0 = 1 ∧ b'.otp = s.b.otp ∧ Same s.b b' [(OTP_STATUS.ERR, 0)]) ∧
        (good = true → s.b.f OTP_STATUS.BUSY 0 ≠ 1 → s.b.log.writing ≠ none → b' = { s.b with otpHeld := true }) ∧
        (good = true → s.b.f OTP_STATUS.BUSY 0 ≠ 1 → s.b.log.writing = none → s.b.otpWait = [] → otpOpen w = false →
          Answered b' r sSTATE (otpShort b') ∧ b'.f OTP_STATUS.ERR 0 = 3 ∧ b'.otp = s.b.otp ∧ Same s.b b' [(OTP_STATUS.ERR, 0)]) ∧
        (good = true → s.b.f OTP_STATUS.BUSY 0 = 0 → s.b.log.writing = none → s.b.otpWait = [] → s.b.otpRedir = [] →
          otpOpen w = true → v < 2 ^ 32 → otpProgramErr s.b w v = 0 → (∀ c < 3, s.b.sig (.otpFail c) = 0) →
          Answered b' r sOK (otpShort b') ∧ b'.otpRead w = s.b.otpRead w ||| v ∧ b'.f OTP_STATUS.BUSY 0 = 0)) ∧
    (ownerBlank s.b = true → ∀ (tag body sig : List Nat), otpSigned s.b tag body sig = true) ∧
    (∀ (l : List Nat) (good : Bool), l = p.drop 4 → good = Config.ecdsaOk (vendorKey s.b) (l.take 64) (l.drop 64) → n < 8 →
      Asked s r 0xF02 132 2 → ∀ y : Blk, y = keeperProgramAll s.tick s.b (0x1E0 + 32 * n) (leWords l 32) →
      Completes .otpPatch s fun b' =>
        (good = false → b' = { s.b with answer := some (respond r.msg 0x80 sAUTH (otpShort s.b)) }) ∧
        (good = true → s.b.f OTP_STATUS.BUSY 0 = 1 →
          Answered b' r sSTATE (otpShort b') ∧ b'.f OTP_STATUS.ERR 0 = 1 ∧ b'.otp = s.b.otp) ∧
        (good = true → s.b.f OTP_STATUS.BUSY 0 ≠ 1 → s.b.log.writing ≠ none → b' = { s.b with otpHeld := true }) ∧
        (good = true → s.b.f OTP_STATUS.BUSY 0 ≠ 1 → s.b.log.writing = none →
          b' = { otpNext y with
            answer := some (respond r.msg 0x80 (if y.f OTP_STATUS.ERR 0 = 0 then sOK else sSTATE) (otpShort y)) })) ∧
    (∀ good : Bool, good = otpSigned s.b [0x4F, 0x54, 0x50, 0x46, 0x49, 0x4E, 0x41, 0x4C] [n] (p.drop 4) → 1 ≤ n → n ≤ 3 →
      Asked s r 0xF03 68 2 →
      Completes .otpFinalise s fun b' =>
        (good = false → b' = { s.b with answer := some (respond r.msg 0x80 sAUTH (otpShort s.b)) }) ∧
        (good = true → s.b.f OTP_STATUS.BUSY 0 = 1 →
          Answered b' r sSTATE (otpShort b') ∧ b'.f OTP_STATUS.ERR 0 = 1 ∧ b'.otp = s.b.otp) ∧
        (good = true → s.b.f OTP_STATUS.BUSY 0 = 0 → s.b.log.writing = none → s.b.otpWait = [] → s.b.finalised n = true →
          Answered b' r sSTATE (otpShort b') ∧ b'.f OTP_STATUS.ERR 0 = 4 ∧ b'.otp = s.b.otp) ∧
        (good = true → s.b.f OTP_STATUS.BUSY 0 = 0 → s.b.log.writing = none → s.b.otpWait = [] → s.b.otpRedir = [] →
          (∀ c < 3, s.b.sig (.otpFail c) = 0) → s.b.finalised n = false →
          b'.finalised n = true ∧ b'.f OTP_STATUS.BUSY 0 = 0 ∧
          Answered b' r (if b'.f OTP_STATUS.ERR 0 = 0 then sOK else sSTATE) (otpShort b'))) ∧
    (∀ good : Bool,
      good = otpSigned s.b [0x4F, 0x57, 0x4E, 0x45, 0x52, 0x58, 0x46, 0x52] (leBytes 4 (s.b.counter 3) ++ p.take 64) (p.drop 64) →
      Asked s r 0xF04 128 2 → ∀ y : Blk, y = ownerTransfer s.tick s.b (p.take 64) →
      Completes .otpTransfer s fun b' =>
        (good = false → b' = { s.b with answer := some (respond r.msg 0x80 sAUTH [s.b.counter 3, 0, 0, 0]) }) ∧
        (good = true → 3 ≤ s.b.counter 3 → b' = { s.b with answer := some (respond r.msg 0x80 sSTATE [s.b.counter 3, 0, 0, 0]) }) ∧
        (good = true → s.b.counter 3 < 3 → nextOwnerBlank s.b = true → s.b.f OTP_STATUS.BUSY 0 = 0 → s.b.log.writing = none →
          b' = { otpNext y with answer := some (respond r.msg 0x80
            (if y.f OTP_STATUS.ERR 0 = 0 then sOK else sSTATE) [(otpNext y).counter 3, 0, 0, 0]) }))

/-- The REG opcodes (R432): a write is that of the register with OWNER as origin and reports how many words were taken, stopping at the
first that is refused or limited; a value outside the range its table states is set to its nearest end and answers LIMIT (R421); a
modify writes (before AND NOT mask) OR (value AND mask) and shows both; a wrong address, a barred register and a register another port
has leased are refused before any write. The model's own readings in it: log entries 93, 102, 204. -/
def Obligations.RegisterCommandsAct : Prop :=
  ∀ (s : State) (r : Req) (p : List Nat) (a : Nat), p = msgPay r.msg → a = pU32 p 0 →
    (Asked s r 0x1001 12 2 → pU16 p 4 = 1 →
      (regCheck s.b r.port true [a] = sOK → ∀ (g u st : Nat) (y : MB), g = wordGiven a 0xFFFFFFFF (leAt p 8 4) →
        (u, y) = busWrite s.tick (s.mem, s.b) .pilot (portClass s.b r.port) a g →
        st = (if u = sOK ∧ g ≠ leAt p 8 4 then sLIMIT else u) →
        CompletesX .regWrite s fun m' b' => m' = y.1 ∧
          b' = { y.2 with answer := some (respond r.msg 0x80 st (leBytes 2 (if st = sOK ∨ st = sLIMIT then 1 else 0) ++ [0, 0])) }) ∧
      (regCheck s.b r.port true [a] ≠ sOK →
        Completes .regWrite s fun b' =>
          b' = { s.b with answer := some (respond r.msg 0x80 (regCheck s.b r.port true [a]) [0, 0, 0, 0]) })) ∧
    (Asked s r 0x1001 16 2 → pU16 p 4 = 2 → regCheck s.b r.port true [a, a + 4] = sOK →
      ∀ (g u st : Nat) (y : MB), g = wordGiven a 0xFFFFFFFF (leAt p 8 4) →
      (u, y) = busWrite s.tick (s.mem, s.b) .pilot (portClass s.b r.port) a g →
      st = (if u = sOK ∧ g ≠ leAt p 8 4 then sLIMIT else u) → st ≠ sOK →
      CompletesX .regWrite s fun m' b' => m' = y.1 ∧
        b' = { y.2 with answer := some (respond r.msg 0x80 st (leBytes 2 (if st = sLIMIT then 1 else 0) ++ [0, 0])) }) ∧
    (Asked s r 0x1002 12 2 →
      (regCheck s.b r.port true [a] ≠ sOK → Refuses .regModify s r (regCheck s.b r.port true [a])) ∧
      (regCheck s.b r.port true [a] = sOK → isRom a = false → isFlash a = false → isSram a = false → ownRead a = false →
        (∀ (d : RegD) (i : Nat), findReg a = some (d, i) → ∀ F ∈ d.flds, F.acc ≠ .rc) →
        ∀ (v w g u st : Nat) (y : MB), v = peekWord s.tick s.b a →
        w = ((v &&& (0xFFFFFFFF ^^^ pU32 p 4)) ||| (pU32 p 8 &&& pU32 p 4)) → g = wordGiven a (pU32 p 4) w →
        (u, y) = busWrite s.tick (s.mem, s.b) .pilot (portClass s.b r.port) a g →
        st = (if u = sOK ∧ g ≠ w then sLIMIT else u) →
        CompletesX .regModify s fun m' b' => m' = y.1 ∧
          b' = { y.2 with answer := some (respond r.msg 0x80 st
            (if st = sOK ∨ st = sLIMIT then leBytes 4 v ++ leBytes 4 (busRead s.tick y 5 a).1 else [])) })) ∧
    (∀ (F : Fld) (lo hi per x : Nat), (F, lo, hi) ∈ fieldRanges → fieldGiven per F x = clampN lo hi x) ∧
    (a % 4 ≠ 0 ∨ mapped a = false → regCheck s.b r.port true [a] = sNOT_FOUND) ∧
    (a % 4 = 0 → mapped a = true → regBarred a = true → regCheck s.b r.port true [a] = sDENIED) ∧
    (a % 4 = 0 → mapped a = true → regBarred a = false → regLeased s.b r.port a = true → regCheck s.b r.port true [a] = sLEASED)

/-! The machine -/

/-- The tick counter (R11, R437): a tick edge counts it up by exactly 1, the end of POWERUP starts it at 0, and no other command and no
write changes it. -/
def Obligations.TickCounterOnlyCounts : Prop :=
  ∀ (c : Instr) (s t : State), exec c s = .next t →
    (∀ ins, c = .tick ins → t.tick = if running s.b = true then s.tick + 1 else s.tick) ∧
    ((c = .powerup ∨ c = .powerupPllTimeout) → t.tick = 0 ∨ t = s) ∧
    ((∀ ins, c ≠ .tick ins) → c ≠ .powerup → c ≠ .powerupPllTimeout → t.tick = s.tick)

/-- Power-good for the sequencer: a berth in ON only (R39); a loop in REGULATING or BURST while no window count of it runs (R125); a buck in
REGULATING while none of its window and current counts runs (R140). -/
def Obligations.PowerGoodIsAsStated : Prop :=
  ∀ (b : Blk),
    (∀ nn : Fin 32, outPg b (22 + nn) = true ↔ b.bst nn = bON) ∧
    (∀ n : Fin 8, outPg b n = true ↔ (b.lst n = lREGULATING ∨ b.lst n = lBURST) ∧ (b.lp n).ov = 0 ∧ (b.lp n).uv = 0) ∧
    (∀ n : Fin 8, outPg b (8 + n) = true ↔
      b.ist n = iREGULATING ∧ (b.bk n).ov = 0 ∧ (b.bk n).uv = 0 ∧ (b.bk n).oc = 0)

/-- A step takes the command at the front of the queue and runs it on the device with the rest; an empty queue idles (the model's choice,
log entry 1). -/
def Obligations.StepRunsTheFrontCommand : Prop :=
  (∀ (c : Instr) (s : State), step { s with pending := c :: s.pending } = exec c s) ∧
  (∀ (c : Instr) (rest : List Instr) (s : State), s.pending = c :: rest → step s = exec c { s with pending := rest }) ∧
  ∀ s : State, s.pending = [] → step s = .next s

/-- Every command completes and leaves the queue to the sender, but for an instruction that an unlocked test port does not define. The
model's own readings in it: log entry 28. -/
def Obligations.EveryCommandCompletes : Prop :=
  ∀ (c : Instr) (s : State),
    (∃ t : State, exec c s = .next t ∧ t.pending = s.pending) ∨
    ∃ i : Nat, c = .testPortInstruction i ∧ 1 < i ∧ running s.b = true ∧ tapLocked s.b = false ∧
      exec c s = .refused (.testInstruction i)

/-- Without the core clock (POWERUP, STANDBY, device OFF) only the commands of the supplies, the Bivouac domain, the start and the resets
act (R276, R288, R292, R437). The model's own readings in it: log entry 12. -/
def Obligations.NothingElseActsWithoutClock : Prop :=
  ∀ (c : Instr) (s : State), running s.b = false → clockless c = false → exec c s = .next s

/-- Every step of a safe run keeps it: the memories stay in their canonical form. The model's own readings in it: log entry 3. -/
def Obligations.MemoryFormIsKept : Prop :=
  ∀ s t : State, SafeState s → step s = .next t → SafeState t

/-- The state after reset (R11, R437, R448): tick 0, BOOT before its first step, no command waiting, memories listing nothing, and every
register at its reset value but TW0_ADDR, which holds the address of ADDR_SEL at GND (the model's choice, log entry 2); that SRAM reads
0 before it is written is the model's choice too (log entry 3). The model's own readings in it: log entries 2, 3. -/
def Obligations.ResetState : Prop :=
  SafeState State.reset ∧ State.reset.tick = 0 ∧ State.reset.pending = [] ∧ State.reset.b.dev = .boot ∧
  State.reset.b.bootStep = 0 ∧ State.reset.mem.cells = [] ∧ running State.reset.b = true ∧
  (∀ (F : Fld) (i : Nat), F.key i ≠ HOST_TW_CFG.TW0_ADDR.key 0 → State.reset.b.f F i = F.rstAt i) ∧
  State.reset.b.f HOST_TW_CFG.TW0_ADDR 0 = 0x40 ∧ (∀ a, isSram a = true → State.reset.mem.byte a = 0) ∧
  (∀ a, isFlash a = true → State.reset.mem.byte a = 0xFF)
end

