-- ==== Sys2Proof/Laws/Tab.lean ====
section
/-! SUPPORT. The laws of the sparse tables: a value put is read back, every other key reads as before, the canonical form is
kept. -/
namespace Sys2Proof.Machine

/-- The evaluated fold is the fold. -/
theorem foldNat_eq (f : Nat → Nat → Nat) (l : List Nat) (c : Nat) : foldNat f l c = l.foldl f c := by
  induction l generalizing c with
  | nil => cases c <;> rfl
  | cons x l ih => cases c <;> simp [foldNat, ih]

variable {α : Type}

@[simp] theorem Tab.get_nil (d : α) (k : Nat) : Tab.get ([] : Tab α) d k = d := rfl

theorem Tab.get_del_same (t : Tab α) (d : α) (k : Nat) : Tab.get (Tab.del t k) d k = d := by
  induction t with
  | nil => rfl
  | cons p r ih =>
    by_cases h : p.1 = k
    · have : (p.1 != k) = false := by simp [h]
      simpa [Tab.del, List.filter_cons, this] using ih
    · have hb : (p.1 != k) = true := by simp [h]
      have : Tab.del (p :: r) k = p :: Tab.del r k := by simp [Tab.del, hb]
      rw [this]
      simpa [Tab.get, h] using ih

theorem Tab.get_del_ne (t : Tab α) (d : α) {k j : Nat} (h : k ≠ j) : Tab.get (Tab.del t k) d j = Tab.get t d j := by
  induction t with
  | nil => rfl
  | cons p r ih =>
    by_cases hp : p.1 = k
    · have hb : (p.1 != k) = false := by simp [hp]
      have : Tab.del (p :: r) k = Tab.del r k := by simp [Tab.del, hb]
      have hj : ¬ p.1 = j := fun e => h (hp.symm.trans e)
      rw [this, ih]
      simp [Tab.get, hj]
    · have hb : (p.1 != k) = true := by simp [hp]
      have : Tab.del (p :: r) k = p :: Tab.del r k := by simp [Tab.del, hb]
      rw [this]
      simp [Tab.get, ih]

theorem Tab.get_ins_same (t : Tab α) (d : α) (k : Nat) (v : α) (h : ∀ p ∈ t, p.1 ≠ k) : Tab.get (Tab.ins k v t) d k = v := by
  induction t with
  | nil => simp [Tab.ins, Tab.get]
  | cons p r ih =>
    have hp : ¬ p.1 = k := h p (by simp)
    by_cases hl : k < p.1
    · simp [Tab.ins, hl, Tab.get]
    · simp [Tab.ins, hl, Tab.get, hp, ih fun q hq => h q (by simp [hq])]

theorem Tab.get_ins_ne (t : Tab α) (d : α) {k j : Nat} (v : α) (h : k ≠ j) :
    Tab.get (Tab.ins k v t) d j = Tab.get t d j := by
  induction t with
  | nil => simp [Tab.ins, Tab.get, h]
  | cons p r ih =>
    by_cases hl : k < p.1
    · simp [Tab.ins, hl, Tab.get, h]
    · simp [Tab.ins, hl, Tab.get, ih]

theorem Tab.mem_del {t : Tab α} {k : Nat} {p : Nat × α} (h : p ∈ Tab.del t k) : p ∈ t ∧ p.1 ≠ k := by
  simpa [Tab.del] using h

variable [DecidableEq α]

/-- A value put is read back. -/
@[simp] theorem Tab.get_put_same (t : Tab α) (d : α) (k : Nat) (v : α) : Tab.get (Tab.put t d k v) d k = v := by
  by_cases h : v = d
  · simp [Tab.put, h, Tab.get_del_same]
  · simp [Tab.put, h, Tab.get_ins_same _ d k v fun p hp => (Tab.mem_del hp).2]

/-- Every other key reads as before, whatever the defaults are. -/
theorem Tab.get_put_ne (t : Tab α) (d e : α) {k j : Nat} (v : α) (h : k ≠ j) :
    Tab.get (Tab.put t d k v) e j = Tab.get t e j := by
  by_cases hv : v = d
  · simp [Tab.put, hv, Tab.get_del_ne t e h]
  · simp [Tab.put, hv, Tab.get_ins_ne _ e v h, Tab.get_del_ne t e h]

theorem Tab.wf_cons {d : Nat → α} {p : Nat × α} {r : Tab α} :
    Tab.wf d (p :: r) = true ↔ (∀ q ∈ r, p.1 < q.1) ∧ p.2 ≠ d p.1 ∧ Tab.wf d r = true := by
  simp [Tab.wf, and_assoc]

/-- A filter keeps the canonical form. -/
theorem Tab.wf_filter (d : Nat → α) (f : Nat × α → Bool) (t : Tab α) (h : Tab.wf d t = true) :
    Tab.wf d (t.filter f) = true := by
  induction t with
  | nil => rfl
  | cons p r ih =>
    obtain ⟨h1, h2, h3⟩ := Tab.wf_cons.1 h
    by_cases hf : f p
    · rw [List.filter_cons_of_pos hf]
      exact Tab.wf_cons.2 ⟨fun q hq => h1 q (List.mem_filter.1 hq).1, h2, ih h3⟩
    · rw [List.filter_cons_of_neg hf]; exact ih h3

omit [DecidableEq α] in
theorem Tab.mem_ins {t : Tab α} {k : Nat} {v : α} {p : Nat × α} : p ∈ Tab.ins k v t → p = (k, v) ∨ p ∈ t := by
  induction t with
  | nil => simp [Tab.ins]
  | cons q r ih =>
    by_cases hl : k < q.1
    · simp [Tab.ins, hl]
    · simp only [Tab.ins, hl, if_false, List.mem_cons]
      rintro (h | h)
      · exact .inr (.inl h)
      · exact (ih h).imp_right .inr

theorem Tab.wf_ins (d : Nat → α) (k : Nat) (v : α) (t : Tab α) (hv : v ≠ d k) (hk : ∀ p ∈ t, p.1 ≠ k)
    (h : Tab.wf d t = true) : Tab.wf d (Tab.ins k v t) = true := by
  induction t with
  | nil => exact Tab.wf_cons.2 ⟨by simp, hv, rfl⟩
  | cons p r ih =>
    obtain ⟨h1, h2, h3⟩ := Tab.wf_cons.1 h
    by_cases hl : k < p.1
    · have : Tab.ins k v (p :: r) = (k, v) :: p :: r := by simp [Tab.ins, hl]
      rw [this]
      refine Tab.wf_cons.2 ⟨fun q hq => ?_, hv, h⟩
      rcases List.mem_cons.1 hq with rfl | hq
      · exact hl
      · exact Nat.lt_trans hl (h1 q hq)
    · have : Tab.ins k v (p :: r) = p :: Tab.ins k v r := by simp [Tab.ins, hl]
      rw [this]
      have hne : p.1 ≠ k := hk p (by simp)
      refine Tab.wf_cons.2 ⟨fun q hq => ?_, h2, ih (fun q hq => hk q (by simp [hq])) h3⟩
      rcases Tab.mem_ins hq with rfl | hq
      · exact Nat.lt_of_le_of_ne (Nat.le_of_not_lt hl) hne
      · exact h1 q hq

/-- A value put keeps the canonical form. -/
theorem Tab.wf_put (d : Nat → α) (t : Tab α) (k : Nat) (v : α) (h : Tab.wf d t = true) :
    Tab.wf d (Tab.put t (d k) k v) = true := by
  have hd : Tab.wf d (Tab.del t k) = true := Tab.wf_filter d _ t h
  by_cases hv : v = d k
  · simpa [Tab.put, hv] using hd
  · simpa [Tab.put, hv] using Tab.wf_ins d k v _ hv (fun p hp => (Tab.mem_del hp).2) hd

end Sys2Proof.Machine
end

