-- ==== Sys2Proof/Laws/Mem.lean ====
section
/-! SUPPORT. The laws of the memories: read after write, and every operation keeps the canonical form. -/
namespace Sys2Proof.Machine

@[simp] theorem Mem.byte_setByte_same (m : Mem) (a : Nat) (v : BitVec 8) : (m.setByte a v).byte a = v := by
  simp [Mem.byte, Mem.setByte]

theorem Mem.byte_setByte_ne (m : Mem) {a j : Nat} (v : BitVec 8) (h : a ≠ j) : (m.setByte a v).byte j = m.byte j := by
  simp [Mem.byte, Mem.setByte, Tab.get_put_ne _ _ _ _ h]

@[simp] theorem Mem.byte_setSyn (m : Mem) (a v j : Nat) : (m.setSyn a v).byte j = m.byte j := rfl
@[simp] theorem Mem.byte_setMark (m : Mem) (a v j : Nat) : (m.setMark a v).byte j = m.byte j := rfl
@[simp] theorem Mem.byte_freshParity (m : Mem) (a j : Nat) : (m.freshParity a).byte j = m.byte j := rfl

/-- Bytes outside those stored read as before. -/
theorem Mem.byte_setBytes_out (m : Mem) (a : Nat) (l : List Nat) (j : Nat) (h : j < a ∨ a + l.length ≤ j) :
    (m.setBytes a l).byte j = m.byte j := by
  induction l generalizing m a with
  | nil => rfl
  | cons x r ih =>
    have hl : (x :: r).length = r.length + 1 := rfl
    have hne : a ≠ j := by omega
    rw [Mem.setBytes, ih _ _ (by omega), Mem.byte_setByte_ne m _ hne]

/-- The bytes stored are read back. -/
theorem Mem.byte_setBytes_in (m : Mem) (a : Nat) (l : List Nat) (i : Nat) (h : i < l.length) :
    (m.setBytes a l).byte (a + i) = BitVec.ofNat 8 l[i] := by
  induction l generalizing m a i with
  | nil => simp at h
  | cons x r ih =>
    cases i with
    | zero =>
      rw [Mem.setBytes, Mem.byte_setBytes_out _ _ _ _ (by omega)]
      simp
    | succ i =>
      have : a + (i + 1) = (a + 1) + i := by omega
      rw [this, Mem.setBytes, ih _ _ i (by simpa using h)]
      rfl

/-! The canonical form -/

theorem Mem.wf_setByte {m : Mem} (h : m.wf = true) (a : Nat) (v : BitVec 8) : (m.setByte a v).wf = true :=
  Tab.wf_put memDefault m.cells a v h

theorem Mem.wf_setBytes {m : Mem} (h : m.wf = true) (a : Nat) (l : List Nat) : (m.setBytes a l).wf = true := by
  induction l generalizing m a with
  | nil => exact h
  | cons x r ih => exact ih (Mem.wf_setByte h a _) (a + 1)

/-- The form depends on the bytes alone. -/
theorem Mem.wf_of_cells {m n : Mem} (h : m.wf = true) (hc : n.cells = m.cells) : n.wf = true := by
  unfold Mem.wf at h ⊢
  rw [hc]; exact h

theorem Mem.wf_setSyn {m : Mem} (h : m.wf = true) (a v : Nat) : (m.setSyn a v).wf = true := Mem.wf_of_cells h rfl
theorem Mem.wf_setMark {m : Mem} (h : m.wf = true) (a v : Nat) : (m.setMark a v).wf = true := Mem.wf_of_cells h rfl
theorem Mem.wf_freshParity {m : Mem} (h : m.wf = true) (a : Nat) : (m.freshParity a).wf = true := Mem.wf_of_cells h rfl

/-- A fold of steps that keep a property keeps it. -/
theorem foldl_keeps {α β : Type} (P : β → Prop) (f : β → α → β) (hf : ∀ x a, P x → P (f x a)) (l : List α) (x : β) (h : P x) :
    P (l.foldl f x) := by
  induction l generalizing x with
  | nil => exact h
  | cons a r ih => exact ih _ (hf x a h)

theorem Mem.wf_putKeepParity {m : Mem} (h : m.wf = true) (a v : Nat) : (m.putKeepParity a v).wf = true := by
  unfold Mem.putKeepParity
  dsimp only
  refine foldl_keeps (fun m : Mem => m.wf = true) _ ?_ _ _ (Mem.wf_setSyn (Mem.wf_setBytes h a _) a 0)
  intro x i hx
  exact Mem.wf_of_cells hx rfl

theorem Mem.wf_pageDecode {m : Mem} (h : m.wf = true) (a : Nat) : (m.pageDecode a).2.2.1.wf = true := by
  unfold Mem.pageDecode
  dsimp only
  split
  · split
    · exact foldl_keeps (fun m : Mem => m.wf = true) _ (fun x _ hx => Mem.wf_putKeepParity hx _ _) _ _ h
    · exact h
  · split
    · exact foldl_keeps (fun m : Mem => m.wf = true) _ (fun x _ hx => Mem.wf_setMark hx _ _) _ _ h
    · exact h

/-- A read keeps the form, with its corrections. -/
theorem Mem.wf_read64 {m : Mem} (h : m.wf = true) (a : Nat) : (m.read64 a).2.2.1.wf = true := by
  unfold Mem.read64
  split
  · exact h
  · exact h
  · dsimp only; split
    · exact Mem.wf_putKeepParity h _ _
    · exact h
  · split
    · exact h
    · exact Mem.wf_pageDecode h a

theorem Mem.wf_readBytes {m : Mem} (h : m.wf = true) (a n : Nat) : (m.readBytes a n).2.2.1.wf = true := by
  unfold Mem.readBytes
  exact foldl_keeps (fun x : List Nat × Bool × Mem × List EccEvt => x.2.2.1.wf = true) _
    (fun x _ hx => Mem.wf_read64 hx _) _ _ h

theorem Mem.wf_sramWord {m : Mem} (h : m.wf = true) (a : Nat) (l : List Nat) : (m.sramWord a l).1.wf = true := by
  have fin (m : Mem) (w old x : Nat) (c : Bool) (h : m.wf = true) :
      (if c then (((m.putKeepParity w old).setBytes w (leBytes 8 x)).setSyn w 0).setMark w 0
        else ((m.putKeepParity w old).setBytes w (leBytes 8 x)).setSyn w 0).wf = true := by
    have h1 := Mem.wf_setSyn (Mem.wf_setBytes (Mem.wf_putKeepParity h w old) w (leBytes 8 x)) w 0
    split
    · exact Mem.wf_setMark h1 _ _
    · exact h1
  unfold Mem.sramWord
  dsimp only
  split
  · exact fin _ _ _ _ _ h
  · exact fin _ _ _ _ _ h
  · exact fin _ _ _ _ _ h
  · have hp := Mem.wf_pageDecode h (a / 8 * 8)
    split
    · exact Mem.wf_freshParity (fin _ _ _ _ _ hp) _
    · exact fin _ _ _ _ _ hp

theorem Mem.wf_sramWrite {m : Mem} (h : m.wf = true) (a : Nat) (l : List Nat) (n : Nat) : (m.sramWrite a l n).1.wf = true := by
  induction n generalizing m a l with
  | zero => exact h
  | succ n ih =>
    unfold Mem.sramWrite
    split
    · exact h
    · exact ih (Mem.wf_sramWord h _ _) _ _

theorem Mem.wf_flashErase {m : Mem} (h : m.wf = true) (a : Nat) : (m.flashErase a).wf = true := Tab.wf_filter _ _ _ h

theorem Mem.wf_flashProgram {m n : Mem} (h : m.wf = true) (a v : Nat) (e : m.flashProgram a v = some n) : n.wf = true := by
  unfold Mem.flashProgram at e
  dsimp only at e
  split at e
  · cases e
  · have k := Mem.wf_setSyn (Mem.wf_setBytes h (a / 8 * 8) (leBytes 8 v)) (a / 8 * 8) 0
    cases e
    split
    · exact Mem.wf_of_cells k rfl
    · exact Mem.wf_of_cells k rfl

theorem Mem.wf_flashWrite {m : Mem} (h : m.wf = true) (a : Nat) (l : List Nat) (n : Nat) : (m.flashWrite a l n).wf = true := by
  induction n generalizing m a l with
  | zero => exact h
  | succ n ih =>
    unfold Mem.flashWrite
    split
    · exact h
    · refine ih ?_ _ _
      cases e : m.flashProgram a (leNat (l.take 8 ++ List.replicate (8 - (l.take 8).length) 255)) with
      | none => simpa [e] using h
      | some x => simpa [e] using Mem.wf_flashProgram h _ _ e

theorem Mem.wf_memLost {m : Mem} (h : m.wf = true) : (memLost m).wf = true := Tab.wf_filter _ _ _ h

theorem Mem.wf_mapPut {m : Mem} (h : m.wf = true) (e : Nat × Nat × Nat) : (mapPut m e).wf = true := by
  unfold mapPut
  split
  · exact Mem.wf_flashWrite (Mem.wf_flashWrite h _ _ _) _ _ _
  · exact h

theorem Mem.wf_mapFlush {x : MB} (h : x.1.wf = true) : (mapFlush x).1.wf = true :=
  foldl_keeps (fun m : Mem => m.wf = true) _ (fun _ e hx => Mem.wf_mapPut hx e) _ _ h

theorem Mem.wf_blockCopy {m : Mem} (h : m.wf = true) (e : EccEvt) : (blockCopy m e).wf = true := by
  unfold blockCopy
  split
  · split
    · exact foldl_keeps (fun m : Mem => m.wf = true) _ (fun _ _ hx => Mem.wf_putKeepParity hx _ _) _ _ h
    · exact h
  · exact h

theorem Mem.wf_upset {m : Mem} (h : m.wf = true) (a bitNo : Nat) : (upset m a bitNo).wf = true := by
  unfold upset
  dsimp only
  split
  · exact h
  · split
    · have k := Mem.wf_setSyn (Mem.wf_setByte h (a / 8 * 8 + bitNo / 8)
        (m.byte (a / 8 * 8 + bitNo / 8) ^^^ BitVec.ofNat 8 (2 ^ (bitNo % 8)))) (a / 8 * 8)
        (Tab.get m.syn 0 (a / 8 * 8) ^^^ wordColumn bitNo)
      split
      · exact k
      · exact Mem.wf_of_cells k rfl
    · split
      · exact Mem.wf_setSyn h _ _
      · split
        · exact Mem.wf_setMark h _ _
        · split
          · exact h
          · exact Mem.wf_of_cells h rfl

theorem wf_eccStep (t : Nat) (x : MB) (e : EccEvt) (h : x.1.wf = true) : (eccStep t x e).1.wf = true := by
  unfold eccStep
  dsimp only
  split
  · exact Mem.wf_blockCopy h e
  · exact h

/-- A read and a write with their effects on the device keep the form. -/
theorem wf_devRead (t : Nat) {x : MB} (h : x.1.wf = true) (a n : Nat) : (devRead t x a n).2.2.1.wf = true :=
  foldl_keeps (fun x : MB => x.1.wf = true) (eccStep t) (fun x e hx => wf_eccStep t x e hx) _ _ (Mem.wf_readBytes h a n)

theorem wf_devWrite (t : Nat) {x : MB} (h : x.1.wf = true) (a : Nat) (l : List Nat) : (devWrite t x a l).1.wf = true :=
  Mem.wf_sramWrite h a l (l.length + 1)

theorem wf_eccTestGo (t : Nat) {x : MB} (h : x.1.wf = true) (w : Writer) : (eccTestGo t x w).1.wf = true := by
  unfold eccTestGo
  dsimp only
  split
  · exact h
  · split
    · exact h
    · refine Mem.wf_setMark (Mem.wf_setSyn ?_ _ _) _ _
      split
      · exact Mem.wf_putKeepParity h _ _
      · exact wf_devWrite t h _ _

theorem wf_scrubWord (t : Nat) {x : MB} (h : x.1.wf = true) : (scrubWord t x).1.wf = true := by
  unfold scrubWord
  dsimp only
  split
  · exact h
  split
  · exact h
  · exact foldl_keeps (fun x : MB => x.1.wf = true) (eccStep t) (fun x e hx => wf_eccStep t x e hx) _ _ (Mem.wf_read64 h _)

end Sys2Proof.Machine
end

