-- ==== Sys2Proof/Laws/State.lean ====
section
/-! SUPPORT. The state's fields after each update, one lemma per field and update: proofs cite these and unfold no record. -/
namespace Sys2Proof.Machine

/-! State: queue, counter, memories and block after each way a command acts -/

@[simp] theorem State.actAny_pending (s : State) (f : Nat → Blk → Blk) : (s.actAny f).pending = s.pending := rfl
@[simp] theorem State.actAny_tick (s : State) (f : Nat → Blk → Blk) : (s.actAny f).tick = s.tick := rfl
@[simp] theorem State.actAny_mem (s : State) (f : Nat → Blk → Blk) : (s.actAny f).mem = s.mem := rfl
@[simp] theorem State.actAny_b (s : State) (f : Nat → Blk → Blk) : (s.actAny f).b = f s.tick s.b := rfl
@[simp] theorem State.actAnyX_pending (s : State) (f : Nat → MB → MB) : (s.actAnyX f).pending = s.pending := rfl
@[simp] theorem State.actAnyX_tick (s : State) (f : Nat → MB → MB) : (s.actAnyX f).tick = s.tick := rfl
@[simp] theorem State.actAnyX_mem (s : State) (f : Nat → MB → MB) : (s.actAnyX f).mem = (f s.tick (s.mem, s.b)).1 := rfl
@[simp] theorem State.actAnyX_b (s : State) (f : Nat → MB → MB) : (s.actAnyX f).b = (f s.tick (s.mem, s.b)).2 := rfl

@[simp] theorem State.act_pending (s : State) (f : Nat → Blk → Blk) : (s.act f).pending = s.pending := by
  unfold State.act; split <;> rfl
@[simp] theorem State.act_tick (s : State) (f : Nat → Blk → Blk) : (s.act f).tick = s.tick := by
  unfold State.act; split <;> rfl
@[simp] theorem State.act_mem (s : State) (f : Nat → Blk → Blk) : (s.act f).mem = s.mem := by
  unfold State.act; split <;> rfl
@[simp] theorem State.act_b (s : State) (f : Nat → Blk → Blk) : (s.act f).b = if running s.b then f s.tick s.b else s.b := by
  unfold State.act; split <;> rfl

@[simp] theorem State.actX_pending (s : State) (f : Nat → MB → MB) : (s.actX f).pending = s.pending := by
  unfold State.actX; split <;> rfl
@[simp] theorem State.actX_tick (s : State) (f : Nat → MB → MB) : (s.actX f).tick = s.tick := by
  unfold State.actX; split <;> rfl
@[simp] theorem State.actX_mem (s : State) (f : Nat → MB → MB) :
    (s.actX f).mem = if running s.b then (f s.tick (s.mem, s.b)).1 else s.mem := by
  unfold State.actX; split <;> rfl
@[simp] theorem State.actX_b (s : State) (f : Nat → MB → MB) :
    (s.actX f).b = if running s.b then (f s.tick (s.mem, s.b)).2 else s.b := by
  unfold State.actX; split <;> rfl

@[simp] theorem State.tickOn_pending (s : State) (f : Nat → MB → MB) : (s.tickOn f).pending = s.pending := rfl
@[simp] theorem State.tickOn_tick (s : State) (f : Nat → MB → MB) :
    (s.tickOn f).tick = if running s.b then s.tick + 1 else s.tick := rfl
@[simp] theorem State.tickOn_mem (s : State) (f : Nat → MB → MB) :
    (s.tickOn f).mem = (f (s.tickOn f).tick (s.mem, s.b)).1 := rfl
@[simp] theorem State.tickOn_b (s : State) (f : Nat → MB → MB) :
    (s.tickOn f).b = (f (s.tickOn f).tick (s.mem, s.b)).2 := rfl

@[simp] theorem State.powerOn_pending (s : State) (c : Bool) (f : MB → MB) : (s.powerOn c f).pending = s.pending := by
  unfold State.powerOn; split <;> rfl

/-! The block: a field set is read back, every other field reads as before -/

@[simp] theorem Blk.f_setF_same (b : Blk) (F : Fld) (i v : Nat) : (b.setF F i v).f F i = v % 2 ^ F.w := by
  simp [Blk.f, Blk.setF]

theorem Blk.f_setF_ne (b : Blk) {F G : Fld} {i j : Nat} (v : Nat) (h : F.key i ≠ G.key j) : (b.setF F i v).f G j = b.f G j := by
  simp [Blk.f, Blk.setF, Tab.get_put_ne _ _ _ _ h]

@[simp] theorem Blk.sig_setSig_same (b : Blk) (s : Sig) (v : Int) : (b.setSig s v).sig s = v := by
  simp [Blk.sig, Blk.setSig]

theorem Blk.sig_setSig_ne (b : Blk) {s g : Sig} (v : Int) (h : s.key ≠ g.key) : (b.setSig s v).sig g = b.sig g := by
  simp [Blk.sig, Blk.setSig, Tab.get_put_ne _ _ _ _ h]

@[simp] theorem Blk.brt_setBrt_same (b : Blk) (n : Nat) (x : Berth) : (b.setBrt n x).brt n = x := by
  simp [Blk.brt, Blk.setBrt]

theorem Blk.brt_setBrt_ne (b : Blk) {n j : Nat} (x : Berth) (h : n ≠ j) : (b.setBrt n x).brt j = b.brt j := by
  simp [Blk.brt, Blk.setBrt, Tab.get_put_ne _ _ _ _ h]

@[simp] theorem Blk.fd_setFd_same (b : Blk) (n : Nat) (x : Feed) : (b.setFd n x).fd n = x := by
  simp [Blk.fd, Blk.setFd]

theorem Blk.fd_setFd_ne (b : Blk) {n j : Nat} (x : Feed) (h : n ≠ j) : (b.setFd n x).fd j = b.fd j := by
  simp [Blk.fd, Blk.setFd, Tab.get_put_ne _ _ _ _ h]

@[simp] theorem Blk.lp_setLp_same (b : Blk) (n : Nat) (x : Loop) : (b.setLp n x).lp n = x := by
  simp [Blk.lp, Blk.setLp]

theorem Blk.lp_setLp_ne (b : Blk) {n j : Nat} (x : Loop) (h : n ≠ j) : (b.setLp n x).lp j = b.lp j := by
  simp [Blk.lp, Blk.setLp, Tab.get_put_ne _ _ _ _ h]

@[simp] theorem Blk.ph_setPh_same (b : Blk) (n : Nat) (x : Phase) : (b.setPh n x).ph n = x := by
  simp [Blk.ph, Blk.setPh]

theorem Blk.ph_setPh_ne (b : Blk) {n j : Nat} (x : Phase) (h : n ≠ j) : (b.setPh n x).ph j = b.ph j := by
  simp [Blk.ph, Blk.setPh, Tab.get_put_ne _ _ _ _ h]

@[simp] theorem Blk.bk_setBk_same (b : Blk) (n : Nat) (x : Buck) : (b.setBk n x).bk n = x := by
  simp [Blk.bk, Blk.setBk]

theorem Blk.bk_setBk_ne (b : Blk) {n j : Nat} (x : Buck) (h : n ≠ j) : (b.setBk n x).bk j = b.bk j := by
  simp [Blk.bk, Blk.setBk, Tab.get_put_ne _ _ _ _ h]

@[simp] theorem Blk.ld_setLd_same (b : Blk) (n : Nat) (x : Ldo) : (b.setLd n x).ld n = x := by
  simp [Blk.ld, Blk.setLd]

theorem Blk.ld_setLd_ne (b : Blk) {n j : Nat} (x : Ldo) (h : n ≠ j) : (b.setLd n x).ld j = b.ld j := by
  simp [Blk.ld, Blk.setLd, Tab.get_put_ne _ _ _ _ h]

@[simp] theorem Blk.mn_setMn_same (b : Blk) (n : Nat) (x : Mon) : (b.setMn n x).mn n = x := by
  simp [Blk.mn, Blk.setMn]

theorem Blk.mn_setMn_ne (b : Blk) {n j : Nat} (x : Mon) (h : n ≠ j) : (b.setMn n x).mn j = b.mn j := by
  simp [Blk.mn, Blk.setMn, Tab.get_put_ne _ _ _ _ h]

@[simp] theorem Blk.sn_setSn_same (b : Blk) (n : Nat) (x : Sens) : (b.setSn n x).sn n = x := by
  simp [Blk.sn, Blk.setSn]

theorem Blk.sn_setSn_ne (b : Blk) {n j : Nat} (x : Sens) (h : n ≠ j) : (b.setSn n x).sn j = b.sn j := by
  simp [Blk.sn, Blk.setSn, Tab.get_put_ne _ _ _ _ h]

@[simp] theorem Blk.th_setTh_same (b : Blk) (n : Nat) (x : Thr) : (b.setTh n x).th n = x := by
  simp [Blk.th, Blk.setTh]

theorem Blk.th_setTh_ne (b : Blk) {n j : Nat} (x : Thr) (h : n ≠ j) : (b.setTh n x).th j = b.th j := by
  simp [Blk.th, Blk.setTh, Tab.get_put_ne _ _ _ _ h]

@[simp] theorem Blk.gr_setGr_same (b : Blk) (n : Nat) (x : Grp) : (b.setGr n x).gr n = x := by
  simp [Blk.gr, Blk.setGr]

theorem Blk.gr_setGr_ne (b : Blk) {n j : Nat} (x : Grp) (h : n ≠ j) : (b.setGr n x).gr j = b.gr j := by
  simp [Blk.gr, Blk.setGr, Tab.get_put_ne _ _ _ _ h]

/-! Parts an update does not touch -/

@[simp] theorem Blk.setF_sig (b : Blk) (F : Fld) (i v : Nat) (g : Sig) : (b.setF F i v).sig g = b.sig g := rfl
@[simp] theorem Blk.setF_sample (b : Blk) (F : Fld) (i v : Nat) (c : Nat) : (b.setF F i v).sample c = b.sample c := rfl
@[simp] theorem Blk.setF_brt (b : Blk) (F : Fld) (i v : Nat) (j : Nat) : (b.setF F i v).brt j = b.brt j := rfl
@[simp] theorem Blk.setF_fd (b : Blk) (F : Fld) (i v : Nat) (j : Nat) : (b.setF F i v).fd j = b.fd j := rfl
@[simp] theorem Blk.setF_lp (b : Blk) (F : Fld) (i v : Nat) (j : Nat) : (b.setF F i v).lp j = b.lp j := rfl
@[simp] theorem Blk.setF_ph (b : Blk) (F : Fld) (i v : Nat) (j : Nat) : (b.setF F i v).ph j = b.ph j := rfl
@[simp] theorem Blk.setF_bk (b : Blk) (F : Fld) (i v : Nat) (j : Nat) : (b.setF F i v).bk j = b.bk j := rfl
@[simp] theorem Blk.setF_ld (b : Blk) (F : Fld) (i v : Nat) (j : Nat) : (b.setF F i v).ld j = b.ld j := rfl
@[simp] theorem Blk.setF_mn (b : Blk) (F : Fld) (i v : Nat) (j : Nat) : (b.setF F i v).mn j = b.mn j := rfl
@[simp] theorem Blk.setF_sn (b : Blk) (F : Fld) (i v : Nat) (j : Nat) : (b.setF F i v).sn j = b.sn j := rfl
@[simp] theorem Blk.setF_th (b : Blk) (F : Fld) (i v : Nat) (j : Nat) : (b.setF F i v).th j = b.th j := rfl
@[simp] theorem Blk.setF_gr (b : Blk) (F : Fld) (i v : Nat) (j : Nat) : (b.setF F i v).gr j = b.gr j := rfl
@[simp] theorem Blk.setF_dev (b : Blk) (F : Fld) (i v : Nat) : (b.setF F i v).dev = b.dev := rfl
@[simp] theorem Blk.setF_devEdge (b : Blk) (F : Fld) (i v : Nat) : (b.setF F i v).devEdge = b.devEdge := rfl
@[simp] theorem Blk.setF_evts (b : Blk) (F : Fld) (i v : Nat) : (b.setF F i v).evts = b.evts := rfl
@[simp] theorem Blk.setF_lines (b : Blk) (F : Fld) (i v : Nat) : (b.setF F i v).lines = b.lines := rfl
@[simp] theorem Blk.setF_staged (b : Blk) (F : Fld) (i v : Nat) : (b.setF F i v).staged = b.staged := rfl
@[simp] theorem Blk.setF_meOn (b : Blk) (F : Fld) (i v : Nat) : (b.setF F i v).meOn = b.meOn := rfl
@[simp] theorem Blk.setF_lockedMap (b : Blk) (F : Fld) (i v : Nat) : (b.setF F i v).lockedMap = b.lockedMap := rfl
@[simp] theorem Blk.setF_trips (b : Blk) (F : Fld) (i v : Nat) : (b.setF F i v).trips = b.trips := rfl
@[simp] theorem Blk.setF_tasks (b : Blk) (F : Fld) (i v : Nat) : (b.setF F i v).tasks = b.tasks := rfl
@[simp] theorem Blk.setF_seq (b : Blk) (F : Fld) (i v : Nat) : (b.setF F i v).seq = b.seq := rfl
@[simp] theorem Blk.setF_attn (b : Blk) (F : Fld) (i v : Nat) : (b.setF F i v).attn = b.attn := rfl
@[simp] theorem Blk.setF_keep (b : Blk) (F : Fld) (i v : Nat) : (b.setF F i v).keep = b.keep := rfl
@[simp] theorem Blk.setF_chg (b : Blk) (F : Fld) (i v : Nat) : (b.setF F i v).chg = b.chg := rfl
@[simp] theorem Blk.setF_gauge (b : Blk) (F : Fld) (i v : Nat) : (b.setF F i v).gauge = b.gauge := rfl
@[simp] theorem Blk.setF_biv (b : Blk) (F : Fld) (i v : Nat) : (b.setF F i v).biv = b.biv := rfl
@[simp] theorem Blk.setF_col (b : Blk) (F : Fld) (i v : Nat) : (b.setF F i v).col = b.col := rfl
@[simp] theorem Blk.setF_wd (b : Blk) (F : Fld) (i v : Nat) : (b.setF F i v).wd = b.wd := rfl
@[simp] theorem Blk.setF_log (b : Blk) (F : Fld) (i v : Nat) : (b.setF F i v).log = b.log := rfl
@[simp] theorem Blk.setF_quay (b : Blk) (F : Fld) (i v : Nat) : (b.setF F i v).quay = b.quay := rfl
@[simp] theorem Blk.setF_hq (b : Blk) (F : Fld) (i v : Nat) : (b.setF F i v).hq = b.hq := rfl
@[simp] theorem Blk.setF_msg (b : Blk) (F : Fld) (i v : Nat) : (b.setF F i v).msg = b.msg := rfl
@[simp] theorem Blk.setF_answer (b : Blk) (F : Fld) (i v : Nat) : (b.setF F i v).answer = b.answer := rfl
@[simp] theorem Blk.setF_lease (b : Blk) (F : Fld) (i v : Nat) : (b.setF F i v).lease = b.lease := rfl
@[simp] theorem Blk.setF_hw (b : Blk) (F : Fld) (i v : Nat) : (b.setF F i v).hw = b.hw := rfl
@[simp] theorem Blk.setF_out (b : Blk) (F : Fld) (i v : Nat) : (b.setF F i v).out = b.out := rfl
@[simp] theorem Blk.setF_later (b : Blk) (F : Fld) (i v : Nat) : (b.setF F i v).later = b.later := rfl

@[simp] theorem Blk.setSig_f (b : Blk) (s : Sig) (v : Int) (G : Fld) (j : Nat) : (b.setSig s v).f G j = b.f G j := rfl
@[simp] theorem Blk.setSig_sample (b : Blk) (s : Sig) (v : Int) (c : Nat) : (b.setSig s v).sample c = b.sample c := rfl
@[simp] theorem Blk.setSig_brt (b : Blk) (s : Sig) (v : Int) (j : Nat) : (b.setSig s v).brt j = b.brt j := rfl
@[simp] theorem Blk.setSig_fd (b : Blk) (s : Sig) (v : Int) (j : Nat) : (b.setSig s v).fd j = b.fd j := rfl
@[simp] theorem Blk.setSig_lp (b : Blk) (s : Sig) (v : Int) (j : Nat) : (b.setSig s v).lp j = b.lp j := rfl
@[simp] theorem Blk.setSig_ph (b : Blk) (s : Sig) (v : Int) (j : Nat) : (b.setSig s v).ph j = b.ph j := rfl
@[simp] theorem Blk.setSig_bk (b : Blk) (s : Sig) (v : Int) (j : Nat) : (b.setSig s v).bk j = b.bk j := rfl
@[simp] theorem Blk.setSig_ld (b : Blk) (s : Sig) (v : Int) (j : Nat) : (b.setSig s v).ld j = b.ld j := rfl
@[simp] theorem Blk.setSig_mn (b : Blk) (s : Sig) (v : Int) (j : Nat) : (b.setSig s v).mn j = b.mn j := rfl
@[simp] theorem Blk.setSig_sn (b : Blk) (s : Sig) (v : Int) (j : Nat) : (b.setSig s v).sn j = b.sn j := rfl
@[simp] theorem Blk.setSig_th (b : Blk) (s : Sig) (v : Int) (j : Nat) : (b.setSig s v).th j = b.th j := rfl
@[simp] theorem Blk.setSig_gr (b : Blk) (s : Sig) (v : Int) (j : Nat) : (b.setSig s v).gr j = b.gr j := rfl
@[simp] theorem Blk.setSig_dev (b : Blk) (s : Sig) (v : Int) : (b.setSig s v).dev = b.dev := rfl
@[simp] theorem Blk.setSig_devEdge (b : Blk) (s : Sig) (v : Int) : (b.setSig s v).devEdge = b.devEdge := rfl
@[simp] theorem Blk.setSig_evts (b : Blk) (s : Sig) (v : Int) : (b.setSig s v).evts = b.evts := rfl
@[simp] theorem Blk.setSig_lines (b : Blk) (s : Sig) (v : Int) : (b.setSig s v).lines = b.lines := rfl
@[simp] theorem Blk.setSig_staged (b : Blk) (s : Sig) (v : Int) : (b.setSig s v).staged = b.staged := rfl
@[simp] theorem Blk.setSig_meOn (b : Blk) (s : Sig) (v : Int) : (b.setSig s v).meOn = b.meOn := rfl
@[simp] theorem Blk.setSig_lockedMap (b : Blk) (s : Sig) (v : Int) : (b.setSig s v).lockedMap = b.lockedMap := rfl
@[simp] theorem Blk.setSig_trips (b : Blk) (s : Sig) (v : Int) : (b.setSig s v).trips = b.trips := rfl
@[simp] theorem Blk.setSig_tasks (b : Blk) (s : Sig) (v : Int) : (b.setSig s v).tasks = b.tasks := rfl
@[simp] theorem Blk.setSig_seq (b : Blk) (s : Sig) (v : Int) : (b.setSig s v).seq = b.seq := rfl
@[simp] theorem Blk.setSig_attn (b : Blk) (s : Sig) (v : Int) : (b.setSig s v).attn = b.attn := rfl
@[simp] theorem Blk.setSig_keep (b : Blk) (s : Sig) (v : Int) : (b.setSig s v).keep = b.keep := rfl
@[simp] theorem Blk.setSig_chg (b : Blk) (s : Sig) (v : Int) : (b.setSig s v).chg = b.chg := rfl
@[simp] theorem Blk.setSig_gauge (b : Blk) (s : Sig) (v : Int) : (b.setSig s v).gauge = b.gauge := rfl
@[simp] theorem Blk.setSig_biv (b : Blk) (s : Sig) (v : Int) : (b.setSig s v).biv = b.biv := rfl
@[simp] theorem Blk.setSig_col (b : Blk) (s : Sig) (v : Int) : (b.setSig s v).col = b.col := rfl
@[simp] theorem Blk.setSig_wd (b : Blk) (s : Sig) (v : Int) : (b.setSig s v).wd = b.wd := rfl
@[simp] theorem Blk.setSig_log (b : Blk) (s : Sig) (v : Int) : (b.setSig s v).log = b.log := rfl
@[simp] theorem Blk.setSig_quay (b : Blk) (s : Sig) (v : Int) : (b.setSig s v).quay = b.quay := rfl
@[simp] theorem Blk.setSig_hq (b : Blk) (s : Sig) (v : Int) : (b.setSig s v).hq = b.hq := rfl
@[simp] theorem Blk.setSig_msg (b : Blk) (s : Sig) (v : Int) : (b.setSig s v).msg = b.msg := rfl
@[simp] theorem Blk.setSig_answer (b : Blk) (s : Sig) (v : Int) : (b.setSig s v).answer = b.answer := rfl
@[simp] theorem Blk.setSig_lease (b : Blk) (s : Sig) (v : Int) : (b.setSig s v).lease = b.lease := rfl
@[simp] theorem Blk.setSig_hw (b : Blk) (s : Sig) (v : Int) : (b.setSig s v).hw = b.hw := rfl
@[simp] theorem Blk.setSig_out (b : Blk) (s : Sig) (v : Int) : (b.setSig s v).out = b.out := rfl
@[simp] theorem Blk.setSig_later (b : Blk) (s : Sig) (v : Int) : (b.setSig s v).later = b.later := rfl

@[simp] theorem Blk.setBrt_f (b : Blk) (n : Nat) (x : Berth) (G : Fld) (j : Nat) : (b.setBrt n x).f G j = b.f G j := rfl
@[simp] theorem Blk.setBrt_sig (b : Blk) (n : Nat) (x : Berth) (g : Sig) : (b.setBrt n x).sig g = b.sig g := rfl
@[simp] theorem Blk.setBrt_sample (b : Blk) (n : Nat) (x : Berth) (c : Nat) : (b.setBrt n x).sample c = b.sample c := rfl
@[simp] theorem Blk.setBrt_fd (b : Blk) (n : Nat) (x : Berth) (j : Nat) : (b.setBrt n x).fd j = b.fd j := rfl
@[simp] theorem Blk.setBrt_lp (b : Blk) (n : Nat) (x : Berth) (j : Nat) : (b.setBrt n x).lp j = b.lp j := rfl
@[simp] theorem Blk.setBrt_ph (b : Blk) (n : Nat) (x : Berth) (j : Nat) : (b.setBrt n x).ph j = b.ph j := rfl
@[simp] theorem Blk.setBrt_bk (b : Blk) (n : Nat) (x : Berth) (j : Nat) : (b.setBrt n x).bk j = b.bk j := rfl
@[simp] theorem Blk.setBrt_ld (b : Blk) (n : Nat) (x : Berth) (j : Nat) : (b.setBrt n x).ld j = b.ld j := rfl
@[simp] theorem Blk.setBrt_mn (b : Blk) (n : Nat) (x : Berth) (j : Nat) : (b.setBrt n x).mn j = b.mn j := rfl
@[simp] theorem Blk.setBrt_sn (b : Blk) (n : Nat) (x : Berth) (j : Nat) : (b.setBrt n x).sn j = b.sn j := rfl
@[simp] theorem Blk.setBrt_th (b : Blk) (n : Nat) (x : Berth) (j : Nat) : (b.setBrt n x).th j = b.th j := rfl
@[simp] theorem Blk.setBrt_gr (b : Blk) (n : Nat) (x : Berth) (j : Nat) : (b.setBrt n x).gr j = b.gr j := rfl
@[simp] theorem Blk.setBrt_dev (b : Blk) (n : Nat) (x : Berth) : (b.setBrt n x).dev = b.dev := rfl
@[simp] theorem Blk.setBrt_devEdge (b : Blk) (n : Nat) (x : Berth) : (b.setBrt n x).devEdge = b.devEdge := rfl
@[simp] theorem Blk.setBrt_evts (b : Blk) (n : Nat) (x : Berth) : (b.setBrt n x).evts = b.evts := rfl
@[simp] theorem Blk.setBrt_lines (b : Blk) (n : Nat) (x : Berth) : (b.setBrt n x).lines = b.lines := rfl
@[simp] theorem Blk.setBrt_staged (b : Blk) (n : Nat) (x : Berth) : (b.setBrt n x).staged = b.staged := rfl
@[simp] theorem Blk.setBrt_meOn (b : Blk) (n : Nat) (x : Berth) : (b.setBrt n x).meOn = b.meOn := rfl
@[simp] theorem Blk.setBrt_lockedMap (b : Blk) (n : Nat) (x : Berth) : (b.setBrt n x).lockedMap = b.lockedMap := rfl
@[simp] theorem Blk.setBrt_trips (b : Blk) (n : Nat) (x : Berth) : (b.setBrt n x).trips = b.trips := rfl
@[simp] theorem Blk.setBrt_tasks (b : Blk) (n : Nat) (x : Berth) : (b.setBrt n x).tasks = b.tasks := rfl
@[simp] theorem Blk.setBrt_seq (b : Blk) (n : Nat) (x : Berth) : (b.setBrt n x).seq = b.seq := rfl
@[simp] theorem Blk.setBrt_attn (b : Blk) (n : Nat) (x : Berth) : (b.setBrt n x).attn = b.attn := rfl
@[simp] theorem Blk.setBrt_keep (b : Blk) (n : Nat) (x : Berth) : (b.setBrt n x).keep = b.keep := rfl
@[simp] theorem Blk.setBrt_chg (b : Blk) (n : Nat) (x : Berth) : (b.setBrt n x).chg = b.chg := rfl
@[simp] theorem Blk.setBrt_gauge (b : Blk) (n : Nat) (x : Berth) : (b.setBrt n x).gauge = b.gauge := rfl
@[simp] theorem Blk.setBrt_biv (b : Blk) (n : Nat) (x : Berth) : (b.setBrt n x).biv = b.biv := rfl
@[simp] theorem Blk.setBrt_col (b : Blk) (n : Nat) (x : Berth) : (b.setBrt n x).col = b.col := rfl
@[simp] theorem Blk.setBrt_wd (b : Blk) (n : Nat) (x : Berth) : (b.setBrt n x).wd = b.wd := rfl
@[simp] theorem Blk.setBrt_log (b : Blk) (n : Nat) (x : Berth) : (b.setBrt n x).log = b.log := rfl
@[simp] theorem Blk.setBrt_quay (b : Blk) (n : Nat) (x : Berth) : (b.setBrt n x).quay = b.quay := rfl
@[simp] theorem Blk.setBrt_hq (b : Blk) (n : Nat) (x : Berth) : (b.setBrt n x).hq = b.hq := rfl
@[simp] theorem Blk.setBrt_msg (b : Blk) (n : Nat) (x : Berth) : (b.setBrt n x).msg = b.msg := rfl
@[simp] theorem Blk.setBrt_answer (b : Blk) (n : Nat) (x : Berth) : (b.setBrt n x).answer = b.answer := rfl
@[simp] theorem Blk.setBrt_lease (b : Blk) (n : Nat) (x : Berth) : (b.setBrt n x).lease = b.lease := rfl
@[simp] theorem Blk.setBrt_hw (b : Blk) (n : Nat) (x : Berth) : (b.setBrt n x).hw = b.hw := rfl
@[simp] theorem Blk.setBrt_out (b : Blk) (n : Nat) (x : Berth) : (b.setBrt n x).out = b.out := rfl
@[simp] theorem Blk.setBrt_later (b : Blk) (n : Nat) (x : Berth) : (b.setBrt n x).later = b.later := rfl

@[simp] theorem Blk.setFd_f (b : Blk) (n : Nat) (x : Feed) (G : Fld) (j : Nat) : (b.setFd n x).f G j = b.f G j := rfl
@[simp] theorem Blk.setFd_sig (b : Blk) (n : Nat) (x : Feed) (g : Sig) : (b.setFd n x).sig g = b.sig g := rfl
@[simp] theorem Blk.setFd_sample (b : Blk) (n : Nat) (x : Feed) (c : Nat) : (b.setFd n x).sample c = b.sample c := rfl
@[simp] theorem Blk.setFd_brt (b : Blk) (n : Nat) (x : Feed) (j : Nat) : (b.setFd n x).brt j = b.brt j := rfl
@[simp] theorem Blk.setFd_lp (b : Blk) (n : Nat) (x : Feed) (j : Nat) : (b.setFd n x).lp j = b.lp j := rfl
@[simp] theorem Blk.setFd_ph (b : Blk) (n : Nat) (x : Feed) (j : Nat) : (b.setFd n x).ph j = b.ph j := rfl
@[simp] theorem Blk.setFd_bk (b : Blk) (n : Nat) (x : Feed) (j : Nat) : (b.setFd n x).bk j = b.bk j := rfl
@[simp] theorem Blk.setFd_ld (b : Blk) (n : Nat) (x : Feed) (j : Nat) : (b.setFd n x).ld j = b.ld j := rfl
@[simp] theorem Blk.setFd_mn (b : Blk) (n : Nat) (x : Feed) (j : Nat) : (b.setFd n x).mn j = b.mn j := rfl
@[simp] theorem Blk.setFd_sn (b : Blk) (n : Nat) (x : Feed) (j : Nat) : (b.setFd n x).sn j = b.sn j := rfl
@[simp] theorem Blk.setFd_th (b : Blk) (n : Nat) (x : Feed) (j : Nat) : (b.setFd n x).th j = b.th j := rfl
@[simp] theorem Blk.setFd_gr (b : Blk) (n : Nat) (x : Feed) (j : Nat) : (b.setFd n x).gr j = b.gr j := rfl
@[simp] theorem Blk.setFd_dev (b : Blk) (n : Nat) (x : Feed) : (b.setFd n x).dev = b.dev := rfl
@[simp] theorem Blk.setFd_devEdge (b : Blk) (n : Nat) (x : Feed) : (b.setFd n x).devEdge = b.devEdge := rfl
@[simp] theorem Blk.setFd_evts (b : Blk) (n : Nat) (x : Feed) : (b.setFd n x).evts = b.evts := rfl
@[simp] theorem Blk.setFd_lines (b : Blk) (n : Nat) (x : Feed) : (b.setFd n x).lines = b.lines := rfl
@[simp] theorem Blk.setFd_staged (b : Blk) (n : Nat) (x : Feed) : (b.setFd n x).staged = b.staged := rfl
@[simp] theorem Blk.setFd_meOn (b : Blk) (n : Nat) (x : Feed) : (b.setFd n x).meOn = b.meOn := rfl
@[simp] theorem Blk.setFd_lockedMap (b : Blk) (n : Nat) (x : Feed) : (b.setFd n x).lockedMap = b.lockedMap := rfl
@[simp] theorem Blk.setFd_trips (b : Blk) (n : Nat) (x : Feed) : (b.setFd n x).trips = b.trips := rfl
@[simp] theorem Blk.setFd_tasks (b : Blk) (n : Nat) (x : Feed) : (b.setFd n x).tasks = b.tasks := rfl
@[simp] theorem Blk.setFd_seq (b : Blk) (n : Nat) (x : Feed) : (b.setFd n x).seq = b.seq := rfl
@[simp] theorem Blk.setFd_attn (b : Blk) (n : Nat) (x : Feed) : (b.setFd n x).attn = b.attn := rfl
@[simp] theorem Blk.setFd_keep (b : Blk) (n : Nat) (x : Feed) : (b.setFd n x).keep = b.keep := rfl
@[simp] theorem Blk.setFd_chg (b : Blk) (n : Nat) (x : Feed) : (b.setFd n x).chg = b.chg := rfl
@[simp] theorem Blk.setFd_gauge (b : Blk) (n : Nat) (x : Feed) : (b.setFd n x).gauge = b.gauge := rfl
@[simp] theorem Blk.setFd_biv (b : Blk) (n : Nat) (x : Feed) : (b.setFd n x).biv = b.biv := rfl
@[simp] theorem Blk.setFd_col (b : Blk) (n : Nat) (x : Feed) : (b.setFd n x).col = b.col := rfl
@[simp] theorem Blk.setFd_wd (b : Blk) (n : Nat) (x : Feed) : (b.setFd n x).wd = b.wd := rfl
@[simp] theorem Blk.setFd_log (b : Blk) (n : Nat) (x : Feed) : (b.setFd n x).log = b.log := rfl
@[simp] theorem Blk.setFd_quay (b : Blk) (n : Nat) (x : Feed) : (b.setFd n x).quay = b.quay := rfl
@[simp] theorem Blk.setFd_hq (b : Blk) (n : Nat) (x : Feed) : (b.setFd n x).hq = b.hq := rfl
@[simp] theorem Blk.setFd_msg (b : Blk) (n : Nat) (x : Feed) : (b.setFd n x).msg = b.msg := rfl
@[simp] theorem Blk.setFd_answer (b : Blk) (n : Nat) (x : Feed) : (b.setFd n x).answer = b.answer := rfl
@[simp] theorem Blk.setFd_lease (b : Blk) (n : Nat) (x : Feed) : (b.setFd n x).lease = b.lease := rfl
@[simp] theorem Blk.setFd_hw (b : Blk) (n : Nat) (x : Feed) : (b.setFd n x).hw = b.hw := rfl
@[simp] theorem Blk.setFd_out (b : Blk) (n : Nat) (x : Feed) : (b.setFd n x).out = b.out := rfl
@[simp] theorem Blk.setFd_later (b : Blk) (n : Nat) (x : Feed) : (b.setFd n x).later = b.later := rfl

@[simp] theorem Blk.setLp_f (b : Blk) (n : Nat) (x : Loop) (G : Fld) (j : Nat) : (b.setLp n x).f G j = b.f G j := rfl
@[simp] theorem Blk.setLp_sig (b : Blk) (n : Nat) (x : Loop) (g : Sig) : (b.setLp n x).sig g = b.sig g := rfl
@[simp] theorem Blk.setLp_sample (b : Blk) (n : Nat) (x : Loop) (c : Nat) : (b.setLp n x).sample c = b.sample c := rfl
@[simp] theorem Blk.setLp_brt (b : Blk) (n : Nat) (x : Loop) (j : Nat) : (b.setLp n x).brt j = b.brt j := rfl
@[simp] theorem Blk.setLp_fd (b : Blk) (n : Nat) (x : Loop) (j : Nat) : (b.setLp n x).fd j = b.fd j := rfl
@[simp] theorem Blk.setLp_ph (b : Blk) (n : Nat) (x : Loop) (j : Nat) : (b.setLp n x).ph j = b.ph j := rfl
@[simp] theorem Blk.setLp_bk (b : Blk) (n : Nat) (x : Loop) (j : Nat) : (b.setLp n x).bk j = b.bk j := rfl
@[simp] theorem Blk.setLp_ld (b : Blk) (n : Nat) (x : Loop) (j : Nat) : (b.setLp n x).ld j = b.ld j := rfl
@[simp] theorem Blk.setLp_mn (b : Blk) (n : Nat) (x : Loop) (j : Nat) : (b.setLp n x).mn j = b.mn j := rfl
@[simp] theorem Blk.setLp_sn (b : Blk) (n : Nat) (x : Loop) (j : Nat) : (b.setLp n x).sn j = b.sn j := rfl
@[simp] theorem Blk.setLp_th (b : Blk) (n : Nat) (x : Loop) (j : Nat) : (b.setLp n x).th j = b.th j := rfl
@[simp] theorem Blk.setLp_gr (b : Blk) (n : Nat) (x : Loop) (j : Nat) : (b.setLp n x).gr j = b.gr j := rfl
@[simp] theorem Blk.setLp_dev (b : Blk) (n : Nat) (x : Loop) : (b.setLp n x).dev = b.dev := rfl
@[simp] theorem Blk.setLp_devEdge (b : Blk) (n : Nat) (x : Loop) : (b.setLp n x).devEdge = b.devEdge := rfl
@[simp] theorem Blk.setLp_evts (b : Blk) (n : Nat) (x : Loop) : (b.setLp n x).evts = b.evts := rfl
@[simp] theorem Blk.setLp_lines (b : Blk) (n : Nat) (x : Loop) : (b.setLp n x).lines = b.lines := rfl
@[simp] theorem Blk.setLp_staged (b : Blk) (n : Nat) (x : Loop) : (b.setLp n x).staged = b.staged := rfl
@[simp] theorem Blk.setLp_meOn (b : Blk) (n : Nat) (x : Loop) : (b.setLp n x).meOn = b.meOn := rfl
@[simp] theorem Blk.setLp_lockedMap (b : Blk) (n : Nat) (x : Loop) : (b.setLp n x).lockedMap = b.lockedMap := rfl
@[simp] theorem Blk.setLp_trips (b : Blk) (n : Nat) (x : Loop) : (b.setLp n x).trips = b.trips := rfl
@[simp] theorem Blk.setLp_tasks (b : Blk) (n : Nat) (x : Loop) : (b.setLp n x).tasks = b.tasks := rfl
@[simp] theorem Blk.setLp_seq (b : Blk) (n : Nat) (x : Loop) : (b.setLp n x).seq = b.seq := rfl
@[simp] theorem Blk.setLp_attn (b : Blk) (n : Nat) (x : Loop) : (b.setLp n x).attn = b.attn := rfl
@[simp] theorem Blk.setLp_keep (b : Blk) (n : Nat) (x : Loop) : (b.setLp n x).keep = b.keep := rfl
@[simp] theorem Blk.setLp_chg (b : Blk) (n : Nat) (x : Loop) : (b.setLp n x).chg = b.chg := rfl
@[simp] theorem Blk.setLp_gauge (b : Blk) (n : Nat) (x : Loop) : (b.setLp n x).gauge = b.gauge := rfl
@[simp] theorem Blk.setLp_biv (b : Blk) (n : Nat) (x : Loop) : (b.setLp n x).biv = b.biv := rfl
@[simp] theorem Blk.setLp_col (b : Blk) (n : Nat) (x : Loop) : (b.setLp n x).col = b.col := rfl
@[simp] theorem Blk.setLp_wd (b : Blk) (n : Nat) (x : Loop) : (b.setLp n x).wd = b.wd := rfl
@[simp] theorem Blk.setLp_log (b : Blk) (n : Nat) (x : Loop) : (b.setLp n x).log = b.log := rfl
@[simp] theorem Blk.setLp_quay (b : Blk) (n : Nat) (x : Loop) : (b.setLp n x).quay = b.quay := rfl
@[simp] theorem Blk.setLp_hq (b : Blk) (n : Nat) (x : Loop) : (b.setLp n x).hq = b.hq := rfl
@[simp] theorem Blk.setLp_msg (b : Blk) (n : Nat) (x : Loop) : (b.setLp n x).msg = b.msg := rfl
@[simp] theorem Blk.setLp_answer (b : Blk) (n : Nat) (x : Loop) : (b.setLp n x).answer = b.answer := rfl
@[simp] theorem Blk.setLp_lease (b : Blk) (n : Nat) (x : Loop) : (b.setLp n x).lease = b.lease := rfl
@[simp] theorem Blk.setLp_hw (b : Blk) (n : Nat) (x : Loop) : (b.setLp n x).hw = b.hw := rfl
@[simp] theorem Blk.setLp_out (b : Blk) (n : Nat) (x : Loop) : (b.setLp n x).out = b.out := rfl
@[simp] theorem Blk.setLp_later (b : Blk) (n : Nat) (x : Loop) : (b.setLp n x).later = b.later := rfl

@[simp] theorem Blk.setPh_f (b : Blk) (n : Nat) (x : Phase) (G : Fld) (j : Nat) : (b.setPh n x).f G j = b.f G j := rfl
@[simp] theorem Blk.setPh_sig (b : Blk) (n : Nat) (x : Phase) (g : Sig) : (b.setPh n x).sig g = b.sig g := rfl
@[simp] theorem Blk.setPh_sample (b : Blk) (n : Nat) (x : Phase) (c : Nat) : (b.setPh n x).sample c = b.sample c := rfl
@[simp] theorem Blk.setPh_brt (b : Blk) (n : Nat) (x : Phase) (j : Nat) : (b.setPh n x).brt j = b.brt j := rfl
@[simp] theorem Blk.setPh_fd (b : Blk) (n : Nat) (x : Phase) (j : Nat) : (b.setPh n x).fd j = b.fd j := rfl
@[simp] theorem Blk.setPh_lp (b : Blk) (n : Nat) (x : Phase) (j : Nat) : (b.setPh n x).lp j = b.lp j := rfl
@[simp] theorem Blk.setPh_bk (b : Blk) (n : Nat) (x : Phase) (j : Nat) : (b.setPh n x).bk j = b.bk j := rfl
@[simp] theorem Blk.setPh_ld (b : Blk) (n : Nat) (x : Phase) (j : Nat) : (b.setPh n x).ld j = b.ld j := rfl
@[simp] theorem Blk.setPh_mn (b : Blk) (n : Nat) (x : Phase) (j : Nat) : (b.setPh n x).mn j = b.mn j := rfl
@[simp] theorem Blk.setPh_sn (b : Blk) (n : Nat) (x : Phase) (j : Nat) : (b.setPh n x).sn j = b.sn j := rfl
@[simp] theorem Blk.setPh_th (b : Blk) (n : Nat) (x : Phase) (j : Nat) : (b.setPh n x).th j = b.th j := rfl
@[simp] theorem Blk.setPh_gr (b : Blk) (n : Nat) (x : Phase) (j : Nat) : (b.setPh n x).gr j = b.gr j := rfl
@[simp] theorem Blk.setPh_dev (b : Blk) (n : Nat) (x : Phase) : (b.setPh n x).dev = b.dev := rfl
@[simp] theorem Blk.setPh_devEdge (b : Blk) (n : Nat) (x : Phase) : (b.setPh n x).devEdge = b.devEdge := rfl
@[simp] theorem Blk.setPh_evts (b : Blk) (n : Nat) (x : Phase) : (b.setPh n x).evts = b.evts := rfl
@[simp] theorem Blk.setPh_lines (b : Blk) (n : Nat) (x : Phase) : (b.setPh n x).lines = b.lines := rfl
@[simp] theorem Blk.setPh_staged (b : Blk) (n : Nat) (x : Phase) : (b.setPh n x).staged = b.staged := rfl
@[simp] theorem Blk.setPh_meOn (b : Blk) (n : Nat) (x : Phase) : (b.setPh n x).meOn = b.meOn := rfl
@[simp] theorem Blk.setPh_lockedMap (b : Blk) (n : Nat) (x : Phase) : (b.setPh n x).lockedMap = b.lockedMap := rfl
@[simp] theorem Blk.setPh_trips (b : Blk) (n : Nat) (x : Phase) : (b.setPh n x).trips = b.trips := rfl
@[simp] theorem Blk.setPh_tasks (b : Blk) (n : Nat) (x : Phase) : (b.setPh n x).tasks = b.tasks := rfl
@[simp] theorem Blk.setPh_seq (b : Blk) (n : Nat) (x : Phase) : (b.setPh n x).seq = b.seq := rfl
@[simp] theorem Blk.setPh_attn (b : Blk) (n : Nat) (x : Phase) : (b.setPh n x).attn = b.attn := rfl
@[simp] theorem Blk.setPh_keep (b : Blk) (n : Nat) (x : Phase) : (b.setPh n x).keep = b.keep := rfl
@[simp] theorem Blk.setPh_chg (b : Blk) (n : Nat) (x : Phase) : (b.setPh n x).chg = b.chg := rfl
@[simp] theorem Blk.setPh_gauge (b : Blk) (n : Nat) (x : Phase) : (b.setPh n x).gauge = b.gauge := rfl
@[simp] theorem Blk.setPh_biv (b : Blk) (n : Nat) (x : Phase) : (b.setPh n x).biv = b.biv := rfl
@[simp] theorem Blk.setPh_col (b : Blk) (n : Nat) (x : Phase) : (b.setPh n x).col = b.col := rfl
@[simp] theorem Blk.setPh_wd (b : Blk) (n : Nat) (x : Phase) : (b.setPh n x).wd = b.wd := rfl
@[simp] theorem Blk.setPh_log (b : Blk) (n : Nat) (x : Phase) : (b.setPh n x).log = b.log := rfl
@[simp] theorem Blk.setPh_quay (b : Blk) (n : Nat) (x : Phase) : (b.setPh n x).quay = b.quay := rfl
@[simp] theorem Blk.setPh_hq (b : Blk) (n : Nat) (x : Phase) : (b.setPh n x).hq = b.hq := rfl
@[simp] theorem Blk.setPh_msg (b : Blk) (n : Nat) (x : Phase) : (b.setPh n x).msg = b.msg := rfl
@[simp] theorem Blk.setPh_answer (b : Blk) (n : Nat) (x : Phase) : (b.setPh n x).answer = b.answer := rfl
@[simp] theorem Blk.setPh_lease (b : Blk) (n : Nat) (x : Phase) : (b.setPh n x).lease = b.lease := rfl
@[simp] theorem Blk.setPh_hw (b : Blk) (n : Nat) (x : Phase) : (b.setPh n x).hw = b.hw := rfl
@[simp] theorem Blk.setPh_out (b : Blk) (n : Nat) (x : Phase) : (b.setPh n x).out = b.out := rfl
@[simp] theorem Blk.setPh_later (b : Blk) (n : Nat) (x : Phase) : (b.setPh n x).later = b.later := rfl

@[simp] theorem Blk.setBk_f (b : Blk) (n : Nat) (x : Buck) (G : Fld) (j : Nat) : (b.setBk n x).f G j = b.f G j := rfl
@[simp] theorem Blk.setBk_sig (b : Blk) (n : Nat) (x : Buck) (g : Sig) : (b.setBk n x).sig g = b.sig g := rfl
@[simp] theorem Blk.setBk_sample (b : Blk) (n : Nat) (x : Buck) (c : Nat) : (b.setBk n x).sample c = b.sample c := rfl
@[simp] theorem Blk.setBk_brt (b : Blk) (n : Nat) (x : Buck) (j : Nat) : (b.setBk n x).brt j = b.brt j := rfl
@[simp] theorem Blk.setBk_fd (b : Blk) (n : Nat) (x : Buck) (j : Nat) : (b.setBk n x).fd j = b.fd j := rfl
@[simp] theorem Blk.setBk_lp (b : Blk) (n : Nat) (x : Buck) (j : Nat) : (b.setBk n x).lp j = b.lp j := rfl
@[simp] theorem Blk.setBk_ph (b : Blk) (n : Nat) (x : Buck) (j : Nat) : (b.setBk n x).ph j = b.ph j := rfl
@[simp] theorem Blk.setBk_ld (b : Blk) (n : Nat) (x : Buck) (j : Nat) : (b.setBk n x).ld j = b.ld j := rfl
@[simp] theorem Blk.setBk_mn (b : Blk) (n : Nat) (x : Buck) (j : Nat) : (b.setBk n x).mn j = b.mn j := rfl
@[simp] theorem Blk.setBk_sn (b : Blk) (n : Nat) (x : Buck) (j : Nat) : (b.setBk n x).sn j = b.sn j := rfl
@[simp] theorem Blk.setBk_th (b : Blk) (n : Nat) (x : Buck) (j : Nat) : (b.setBk n x).th j = b.th j := rfl
@[simp] theorem Blk.setBk_gr (b : Blk) (n : Nat) (x : Buck) (j : Nat) : (b.setBk n x).gr j = b.gr j := rfl
@[simp] theorem Blk.setBk_dev (b : Blk) (n : Nat) (x : Buck) : (b.setBk n x).dev = b.dev := rfl
@[simp] theorem Blk.setBk_devEdge (b : Blk) (n : Nat) (x : Buck) : (b.setBk n x).devEdge = b.devEdge := rfl
@[simp] theorem Blk.setBk_evts (b : Blk) (n : Nat) (x : Buck) : (b.setBk n x).evts = b.evts := rfl
@[simp] theorem Blk.setBk_lines (b : Blk) (n : Nat) (x : Buck) : (b.setBk n x).lines = b.lines := rfl
@[simp] theorem Blk.setBk_staged (b : Blk) (n : Nat) (x : Buck) : (b.setBk n x).staged = b.staged := rfl
@[simp] theorem Blk.setBk_meOn (b : Blk) (n : Nat) (x : Buck) : (b.setBk n x).meOn = b.meOn := rfl
@[simp] theorem Blk.setBk_lockedMap (b : Blk) (n : Nat) (x : Buck) : (b.setBk n x).lockedMap = b.lockedMap := rfl
@[simp] theorem Blk.setBk_trips (b : Blk) (n : Nat) (x : Buck) : (b.setBk n x).trips = b.trips := rfl
@[simp] theorem Blk.setBk_tasks (b : Blk) (n : Nat) (x : Buck) : (b.setBk n x).tasks = b.tasks := rfl
@[simp] theorem Blk.setBk_seq (b : Blk) (n : Nat) (x : Buck) : (b.setBk n x).seq = b.seq := rfl
@[simp] theorem Blk.setBk_attn (b : Blk) (n : Nat) (x : Buck) : (b.setBk n x).attn = b.attn := rfl
@[simp] theorem Blk.setBk_keep (b : Blk) (n : Nat) (x : Buck) : (b.setBk n x).keep = b.keep := rfl
@[simp] theorem Blk.setBk_chg (b : Blk) (n : Nat) (x : Buck) : (b.setBk n x).chg = b.chg := rfl
@[simp] theorem Blk.setBk_gauge (b : Blk) (n : Nat) (x : Buck) : (b.setBk n x).gauge = b.gauge := rfl
@[simp] theorem Blk.setBk_biv (b : Blk) (n : Nat) (x : Buck) : (b.setBk n x).biv = b.biv := rfl
@[simp] theorem Blk.setBk_col (b : Blk) (n : Nat) (x : Buck) : (b.setBk n x).col = b.col := rfl
@[simp] theorem Blk.setBk_wd (b : Blk) (n : Nat) (x : Buck) : (b.setBk n x).wd = b.wd := rfl
@[simp] theorem Blk.setBk_log (b : Blk) (n : Nat) (x : Buck) : (b.setBk n x).log = b.log := rfl
@[simp] theorem Blk.setBk_quay (b : Blk) (n : Nat) (x : Buck) : (b.setBk n x).quay = b.quay := rfl
@[simp] theorem Blk.setBk_hq (b : Blk) (n : Nat) (x : Buck) : (b.setBk n x).hq = b.hq := rfl
@[simp] theorem Blk.setBk_msg (b : Blk) (n : Nat) (x : Buck) : (b.setBk n x).msg = b.msg := rfl
@[simp] theorem Blk.setBk_answer (b : Blk) (n : Nat) (x : Buck) : (b.setBk n x).answer = b.answer := rfl
@[simp] theorem Blk.setBk_lease (b : Blk) (n : Nat) (x : Buck) : (b.setBk n x).lease = b.lease := rfl
@[simp] theorem Blk.setBk_hw (b : Blk) (n : Nat) (x : Buck) : (b.setBk n x).hw = b.hw := rfl
@[simp] theorem Blk.setBk_out (b : Blk) (n : Nat) (x : Buck) : (b.setBk n x).out = b.out := rfl
@[simp] theorem Blk.setBk_later (b : Blk) (n : Nat) (x : Buck) : (b.setBk n x).later = b.later := rfl

@[simp] theorem Blk.setLd_f (b : Blk) (n : Nat) (x : Ldo) (G : Fld) (j : Nat) : (b.setLd n x).f G j = b.f G j := rfl
@[simp] theorem Blk.setLd_sig (b : Blk) (n : Nat) (x : Ldo) (g : Sig) : (b.setLd n x).sig g = b.sig g := rfl
@[simp] theorem Blk.setLd_sample (b : Blk) (n : Nat) (x : Ldo) (c : Nat) : (b.setLd n x).sample c = b.sample c := rfl
@[simp] theorem Blk.setLd_brt (b : Blk) (n : Nat) (x : Ldo) (j : Nat) : (b.setLd n x).brt j = b.brt j := rfl
@[simp] theorem Blk.setLd_fd (b : Blk) (n : Nat) (x : Ldo) (j : Nat) : (b.setLd n x).fd j = b.fd j := rfl
@[simp] theorem Blk.setLd_lp (b : Blk) (n : Nat) (x : Ldo) (j : Nat) : (b.setLd n x).lp j = b.lp j := rfl
@[simp] theorem Blk.setLd_ph (b : Blk) (n : Nat) (x : Ldo) (j : Nat) : (b.setLd n x).ph j = b.ph j := rfl
@[simp] theorem Blk.setLd_bk (b : Blk) (n : Nat) (x : Ldo) (j : Nat) : (b.setLd n x).bk j = b.bk j := rfl
@[simp] theorem Blk.setLd_mn (b : Blk) (n : Nat) (x : Ldo) (j : Nat) : (b.setLd n x).mn j = b.mn j := rfl
@[simp] theorem Blk.setLd_sn (b : Blk) (n : Nat) (x : Ldo) (j : Nat) : (b.setLd n x).sn j = b.sn j := rfl
@[simp] theorem Blk.setLd_th (b : Blk) (n : Nat) (x : Ldo) (j : Nat) : (b.setLd n x).th j = b.th j := rfl
@[simp] theorem Blk.setLd_gr (b : Blk) (n : Nat) (x : Ldo) (j : Nat) : (b.setLd n x).gr j = b.gr j := rfl
@[simp] theorem Blk.setLd_dev (b : Blk) (n : Nat) (x : Ldo) : (b.setLd n x).dev = b.dev := rfl
@[simp] theorem Blk.setLd_devEdge (b : Blk) (n : Nat) (x : Ldo) : (b.setLd n x).devEdge = b.devEdge := rfl
@[simp] theorem Blk.setLd_evts (b : Blk) (n : Nat) (x : Ldo) : (b.setLd n x).evts = b.evts := rfl
@[simp] theorem Blk.setLd_lines (b : Blk) (n : Nat) (x : Ldo) : (b.setLd n x).lines = b.lines := rfl
@[simp] theorem Blk.setLd_staged (b : Blk) (n : Nat) (x : Ldo) : (b.setLd n x).staged = b.staged := rfl
@[simp] theorem Blk.setLd_meOn (b : Blk) (n : Nat) (x : Ldo) : (b.setLd n x).meOn = b.meOn := rfl
@[simp] theorem Blk.setLd_lockedMap (b : Blk) (n : Nat) (x : Ldo) : (b.setLd n x).lockedMap = b.lockedMap := rfl
@[simp] theorem Blk.setLd_trips (b : Blk) (n : Nat) (x : Ldo) : (b.setLd n x).trips = b.trips := rfl
@[simp] theorem Blk.setLd_tasks (b : Blk) (n : Nat) (x : Ldo) : (b.setLd n x).tasks = b.tasks := rfl
@[simp] theorem Blk.setLd_seq (b : Blk) (n : Nat) (x : Ldo) : (b.setLd n x).seq = b.seq := rfl
@[simp] theorem Blk.setLd_attn (b : Blk) (n : Nat) (x : Ldo) : (b.setLd n x).attn = b.attn := rfl
@[simp] theorem Blk.setLd_keep (b : Blk) (n : Nat) (x : Ldo) : (b.setLd n x).keep = b.keep := rfl
@[simp] theorem Blk.setLd_chg (b : Blk) (n : Nat) (x : Ldo) : (b.setLd n x).chg = b.chg := rfl
@[simp] theorem Blk.setLd_gauge (b : Blk) (n : Nat) (x : Ldo) : (b.setLd n x).gauge = b.gauge := rfl
@[simp] theorem Blk.setLd_biv (b : Blk) (n : Nat) (x : Ldo) : (b.setLd n x).biv = b.biv := rfl
@[simp] theorem Blk.setLd_col (b : Blk) (n : Nat) (x : Ldo) : (b.setLd n x).col = b.col := rfl
@[simp] theorem Blk.setLd_wd (b : Blk) (n : Nat) (x : Ldo) : (b.setLd n x).wd = b.wd := rfl
@[simp] theorem Blk.setLd_log (b : Blk) (n : Nat) (x : Ldo) : (b.setLd n x).log = b.log := rfl
@[simp] theorem Blk.setLd_quay (b : Blk) (n : Nat) (x : Ldo) : (b.setLd n x).quay = b.quay := rfl
@[simp] theorem Blk.setLd_hq (b : Blk) (n : Nat) (x : Ldo) : (b.setLd n x).hq = b.hq := rfl
@[simp] theorem Blk.setLd_msg (b : Blk) (n : Nat) (x : Ldo) : (b.setLd n x).msg = b.msg := rfl
@[simp] theorem Blk.setLd_answer (b : Blk) (n : Nat) (x : Ldo) : (b.setLd n x).answer = b.answer := rfl
@[simp] theorem Blk.setLd_lease (b : Blk) (n : Nat) (x : Ldo) : (b.setLd n x).lease = b.lease := rfl
@[simp] theorem Blk.setLd_hw (b : Blk) (n : Nat) (x : Ldo) : (b.setLd n x).hw = b.hw := rfl
@[simp] theorem Blk.setLd_out (b : Blk) (n : Nat) (x : Ldo) : (b.setLd n x).out = b.out := rfl
@[simp] theorem Blk.setLd_later (b : Blk) (n : Nat) (x : Ldo) : (b.setLd n x).later = b.later := rfl

@[simp] theorem Blk.setMn_f (b : Blk) (n : Nat) (x : Mon) (G : Fld) (j : Nat) : (b.setMn n x).f G j = b.f G j := rfl
@[simp] theorem Blk.setMn_sig (b : Blk) (n : Nat) (x : Mon) (g : Sig) : (b.setMn n x).sig g = b.sig g := rfl
@[simp] theorem Blk.setMn_sample (b : Blk) (n : Nat) (x : Mon) (c : Nat) : (b.setMn n x).sample c = b.sample c := rfl
@[simp] theorem Blk.setMn_brt (b : Blk) (n : Nat) (x : Mon) (j : Nat) : (b.setMn n x).brt j = b.brt j := rfl
@[simp] theorem Blk.setMn_fd (b : Blk) (n : Nat) (x : Mon) (j : Nat) : (b.setMn n x).fd j = b.fd j := rfl
@[simp] theorem Blk.setMn_lp (b : Blk) (n : Nat) (x : Mon) (j : Nat) : (b.setMn n x).lp j = b.lp j := rfl
@[simp] theorem Blk.setMn_ph (b : Blk) (n : Nat) (x : Mon) (j : Nat) : (b.setMn n x).ph j = b.ph j := rfl
@[simp] theorem Blk.setMn_bk (b : Blk) (n : Nat) (x : Mon) (j : Nat) : (b.setMn n x).bk j = b.bk j := rfl
@[simp] theorem Blk.setMn_ld (b : Blk) (n : Nat) (x : Mon) (j : Nat) : (b.setMn n x).ld j = b.ld j := rfl
@[simp] theorem Blk.setMn_sn (b : Blk) (n : Nat) (x : Mon) (j : Nat) : (b.setMn n x).sn j = b.sn j := rfl
@[simp] theorem Blk.setMn_th (b : Blk) (n : Nat) (x : Mon) (j : Nat) : (b.setMn n x).th j = b.th j := rfl
@[simp] theorem Blk.setMn_gr (b : Blk) (n : Nat) (x : Mon) (j : Nat) : (b.setMn n x).gr j = b.gr j := rfl
@[simp] theorem Blk.setMn_dev (b : Blk) (n : Nat) (x : Mon) : (b.setMn n x).dev = b.dev := rfl
@[simp] theorem Blk.setMn_devEdge (b : Blk) (n : Nat) (x : Mon) : (b.setMn n x).devEdge = b.devEdge := rfl
@[simp] theorem Blk.setMn_evts (b : Blk) (n : Nat) (x : Mon) : (b.setMn n x).evts = b.evts := rfl
@[simp] theorem Blk.setMn_lines (b : Blk) (n : Nat) (x : Mon) : (b.setMn n x).lines = b.lines := rfl
@[simp] theorem Blk.setMn_staged (b : Blk) (n : Nat) (x : Mon) : (b.setMn n x).staged = b.staged := rfl
@[simp] theorem Blk.setMn_meOn (b : Blk) (n : Nat) (x : Mon) : (b.setMn n x).meOn = b.meOn := rfl
@[simp] theorem Blk.setMn_lockedMap (b : Blk) (n : Nat) (x : Mon) : (b.setMn n x).lockedMap = b.lockedMap := rfl
@[simp] theorem Blk.setMn_trips (b : Blk) (n : Nat) (x : Mon) : (b.setMn n x).trips = b.trips := rfl
@[simp] theorem Blk.setMn_tasks (b : Blk) (n : Nat) (x : Mon) : (b.setMn n x).tasks = b.tasks := rfl
@[simp] theorem Blk.setMn_seq (b : Blk) (n : Nat) (x : Mon) : (b.setMn n x).seq = b.seq := rfl
@[simp] theorem Blk.setMn_attn (b : Blk) (n : Nat) (x : Mon) : (b.setMn n x).attn = b.attn := rfl
@[simp] theorem Blk.setMn_keep (b : Blk) (n : Nat) (x : Mon) : (b.setMn n x).keep = b.keep := rfl
@[simp] theorem Blk.setMn_chg (b : Blk) (n : Nat) (x : Mon) : (b.setMn n x).chg = b.chg := rfl
@[simp] theorem Blk.setMn_gauge (b : Blk) (n : Nat) (x : Mon) : (b.setMn n x).gauge = b.gauge := rfl
@[simp] theorem Blk.setMn_biv (b : Blk) (n : Nat) (x : Mon) : (b.setMn n x).biv = b.biv := rfl
@[simp] theorem Blk.setMn_col (b : Blk) (n : Nat) (x : Mon) : (b.setMn n x).col = b.col := rfl
@[simp] theorem Blk.setMn_wd (b : Blk) (n : Nat) (x : Mon) : (b.setMn n x).wd = b.wd := rfl
@[simp] theorem Blk.setMn_log (b : Blk) (n : Nat) (x : Mon) : (b.setMn n x).log = b.log := rfl
@[simp] theorem Blk.setMn_quay (b : Blk) (n : Nat) (x : Mon) : (b.setMn n x).quay = b.quay := rfl
@[simp] theorem Blk.setMn_hq (b : Blk) (n : Nat) (x : Mon) : (b.setMn n x).hq = b.hq := rfl
@[simp] theorem Blk.setMn_msg (b : Blk) (n : Nat) (x : Mon) : (b.setMn n x).msg = b.msg := rfl
@[simp] theorem Blk.setMn_answer (b : Blk) (n : Nat) (x : Mon) : (b.setMn n x).answer = b.answer := rfl
@[simp] theorem Blk.setMn_lease (b : Blk) (n : Nat) (x : Mon) : (b.setMn n x).lease = b.lease := rfl
@[simp] theorem Blk.setMn_hw (b : Blk) (n : Nat) (x : Mon) : (b.setMn n x).hw = b.hw := rfl
@[simp] theorem Blk.setMn_out (b : Blk) (n : Nat) (x : Mon) : (b.setMn n x).out = b.out := rfl
@[simp] theorem Blk.setMn_later (b : Blk) (n : Nat) (x : Mon) : (b.setMn n x).later = b.later := rfl

@[simp] theorem Blk.setSn_f (b : Blk) (n : Nat) (x : Sens) (G : Fld) (j : Nat) : (b.setSn n x).f G j = b.f G j := rfl
@[simp] theorem Blk.setSn_sig (b : Blk) (n : Nat) (x : Sens) (g : Sig) : (b.setSn n x).sig g = b.sig g := rfl
@[simp] theorem Blk.setSn_sample (b : Blk) (n : Nat) (x : Sens) (c : Nat) : (b.setSn n x).sample c = b.sample c := rfl
@[simp] theorem Blk.setSn_brt (b : Blk) (n : Nat) (x : Sens) (j : Nat) : (b.setSn n x).brt j = b.brt j := rfl
@[simp] theorem Blk.setSn_fd (b : Blk) (n : Nat) (x : Sens) (j : Nat) : (b.setSn n x).fd j = b.fd j := rfl
@[simp] theorem Blk.setSn_lp (b : Blk) (n : Nat) (x : Sens) (j : Nat) : (b.setSn n x).lp j = b.lp j := rfl
@[simp] theorem Blk.setSn_ph (b : Blk) (n : Nat) (x : Sens) (j : Nat) : (b.setSn n x).ph j = b.ph j := rfl
@[simp] theorem Blk.setSn_bk (b : Blk) (n : Nat) (x : Sens) (j : Nat) : (b.setSn n x).bk j = b.bk j := rfl
@[simp] theorem Blk.setSn_ld (b : Blk) (n : Nat) (x : Sens) (j : Nat) : (b.setSn n x).ld j = b.ld j := rfl
@[simp] theorem Blk.setSn_mn (b : Blk) (n : Nat) (x : Sens) (j : Nat) : (b.setSn n x).mn j = b.mn j := rfl
@[simp] theorem Blk.setSn_th (b : Blk) (n : Nat) (x : Sens) (j : Nat) : (b.setSn n x).th j = b.th j := rfl
@[simp] theorem Blk.setSn_gr (b : Blk) (n : Nat) (x : Sens) (j : Nat) : (b.setSn n x).gr j = b.gr j := rfl
@[simp] theorem Blk.setSn_dev (b : Blk) (n : Nat) (x : Sens) : (b.setSn n x).dev = b.dev := rfl
@[simp] theorem Blk.setSn_devEdge (b : Blk) (n : Nat) (x : Sens) : (b.setSn n x).devEdge = b.devEdge := rfl
@[simp] theorem Blk.setSn_evts (b : Blk) (n : Nat) (x : Sens) : (b.setSn n x).evts = b.evts := rfl
@[simp] theorem Blk.setSn_lines (b : Blk) (n : Nat) (x : Sens) : (b.setSn n x).lines = b.lines := rfl
@[simp] theorem Blk.setSn_staged (b : Blk) (n : Nat) (x : Sens) : (b.setSn n x).staged = b.staged := rfl
@[simp] theorem Blk.setSn_meOn (b : Blk) (n : Nat) (x : Sens) : (b.setSn n x).meOn = b.meOn := rfl
@[simp] theorem Blk.setSn_lockedMap (b : Blk) (n : Nat) (x : Sens) : (b.setSn n x).lockedMap = b.lockedMap := rfl
@[simp] theorem Blk.setSn_trips (b : Blk) (n : Nat) (x : Sens) : (b.setSn n x).trips = b.trips := rfl
@[simp] theorem Blk.setSn_tasks (b : Blk) (n : Nat) (x : Sens) : (b.setSn n x).tasks = b.tasks := rfl
@[simp] theorem Blk.setSn_seq (b : Blk) (n : Nat) (x : Sens) : (b.setSn n x).seq = b.seq := rfl
@[simp] theorem Blk.setSn_attn (b : Blk) (n : Nat) (x : Sens) : (b.setSn n x).attn = b.attn := rfl
@[simp] theorem Blk.setSn_keep (b : Blk) (n : Nat) (x : Sens) : (b.setSn n x).keep = b.keep := rfl
@[simp] theorem Blk.setSn_chg (b : Blk) (n : Nat) (x : Sens) : (b.setSn n x).chg = b.chg := rfl
@[simp] theorem Blk.setSn_gauge (b : Blk) (n : Nat) (x : Sens) : (b.setSn n x).gauge = b.gauge := rfl
@[simp] theorem Blk.setSn_biv (b : Blk) (n : Nat) (x : Sens) : (b.setSn n x).biv = b.biv := rfl
@[simp] theorem Blk.setSn_col (b : Blk) (n : Nat) (x : Sens) : (b.setSn n x).col = b.col := rfl
@[simp] theorem Blk.setSn_wd (b : Blk) (n : Nat) (x : Sens) : (b.setSn n x).wd = b.wd := rfl
@[simp] theorem Blk.setSn_log (b : Blk) (n : Nat) (x : Sens) : (b.setSn n x).log = b.log := rfl
@[simp] theorem Blk.setSn_quay (b : Blk) (n : Nat) (x : Sens) : (b.setSn n x).quay = b.quay := rfl
@[simp] theorem Blk.setSn_hq (b : Blk) (n : Nat) (x : Sens) : (b.setSn n x).hq = b.hq := rfl
@[simp] theorem Blk.setSn_msg (b : Blk) (n : Nat) (x : Sens) : (b.setSn n x).msg = b.msg := rfl
@[simp] theorem Blk.setSn_answer (b : Blk) (n : Nat) (x : Sens) : (b.setSn n x).answer = b.answer := rfl
@[simp] theorem Blk.setSn_lease (b : Blk) (n : Nat) (x : Sens) : (b.setSn n x).lease = b.lease := rfl
@[simp] theorem Blk.setSn_hw (b : Blk) (n : Nat) (x : Sens) : (b.setSn n x).hw = b.hw := rfl
@[simp] theorem Blk.setSn_out (b : Blk) (n : Nat) (x : Sens) : (b.setSn n x).out = b.out := rfl
@[simp] theorem Blk.setSn_later (b : Blk) (n : Nat) (x : Sens) : (b.setSn n x).later = b.later := rfl

@[simp] theorem Blk.setTh_f (b : Blk) (n : Nat) (x : Thr) (G : Fld) (j : Nat) : (b.setTh n x).f G j = b.f G j := rfl
@[simp] theorem Blk.setTh_sig (b : Blk) (n : Nat) (x : Thr) (g : Sig) : (b.setTh n x).sig g = b.sig g := rfl
@[simp] theorem Blk.setTh_sample (b : Blk) (n : Nat) (x : Thr) (c : Nat) : (b.setTh n x).sample c = b.sample c := rfl
@[simp] theorem Blk.setTh_brt (b : Blk) (n : Nat) (x : Thr) (j : Nat) : (b.setTh n x).brt j = b.brt j := rfl
@[simp] theorem Blk.setTh_fd (b : Blk) (n : Nat) (x : Thr) (j : Nat) : (b.setTh n x).fd j = b.fd j := rfl
@[simp] theorem Blk.setTh_lp (b : Blk) (n : Nat) (x : Thr) (j : Nat) : (b.setTh n x).lp j = b.lp j := rfl
@[simp] theorem Blk.setTh_ph (b : Blk) (n : Nat) (x : Thr) (j : Nat) : (b.setTh n x).ph j = b.ph j := rfl
@[simp] theorem Blk.setTh_bk (b : Blk) (n : Nat) (x : Thr) (j : Nat) : (b.setTh n x).bk j = b.bk j := rfl
@[simp] theorem Blk.setTh_ld (b : Blk) (n : Nat) (x : Thr) (j : Nat) : (b.setTh n x).ld j = b.ld j := rfl
@[simp] theorem Blk.setTh_mn (b : Blk) (n : Nat) (x : Thr) (j : Nat) : (b.setTh n x).mn j = b.mn j := rfl
@[simp] theorem Blk.setTh_sn (b : Blk) (n : Nat) (x : Thr) (j : Nat) : (b.setTh n x).sn j = b.sn j := rfl
@[simp] theorem Blk.setTh_gr (b : Blk) (n : Nat) (x : Thr) (j : Nat) : (b.setTh n x).gr j = b.gr j := rfl
@[simp] theorem Blk.setTh_dev (b : Blk) (n : Nat) (x : Thr) : (b.setTh n x).dev = b.dev := rfl
@[simp] theorem Blk.setTh_devEdge (b : Blk) (n : Nat) (x : Thr) : (b.setTh n x).devEdge = b.devEdge := rfl
@[simp] theorem Blk.setTh_evts (b : Blk) (n : Nat) (x : Thr) : (b.setTh n x).evts = b.evts := rfl
@[simp] theorem Blk.setTh_lines (b : Blk) (n : Nat) (x : Thr) : (b.setTh n x).lines = b.lines := rfl
@[simp] theorem Blk.setTh_staged (b : Blk) (n : Nat) (x : Thr) : (b.setTh n x).staged = b.staged := rfl
@[simp] theorem Blk.setTh_meOn (b : Blk) (n : Nat) (x : Thr) : (b.setTh n x).meOn = b.meOn := rfl
@[simp] theorem Blk.setTh_lockedMap (b : Blk) (n : Nat) (x : Thr) : (b.setTh n x).lockedMap = b.lockedMap := rfl
@[simp] theorem Blk.setTh_trips (b : Blk) (n : Nat) (x : Thr) : (b.setTh n x).trips = b.trips := rfl
@[simp] theorem Blk.setTh_tasks (b : Blk) (n : Nat) (x : Thr) : (b.setTh n x).tasks = b.tasks := rfl
@[simp] theorem Blk.setTh_seq (b : Blk) (n : Nat) (x : Thr) : (b.setTh n x).seq = b.seq := rfl
@[simp] theorem Blk.setTh_attn (b : Blk) (n : Nat) (x : Thr) : (b.setTh n x).attn = b.attn := rfl
@[simp] theorem Blk.setTh_keep (b : Blk) (n : Nat) (x : Thr) : (b.setTh n x).keep = b.keep := rfl
@[simp] theorem Blk.setTh_chg (b : Blk) (n : Nat) (x : Thr) : (b.setTh n x).chg = b.chg := rfl
@[simp] theorem Blk.setTh_gauge (b : Blk) (n : Nat) (x : Thr) : (b.setTh n x).gauge = b.gauge := rfl
@[simp] theorem Blk.setTh_biv (b : Blk) (n : Nat) (x : Thr) : (b.setTh n x).biv = b.biv := rfl
@[simp] theorem Blk.setTh_col (b : Blk) (n : Nat) (x : Thr) : (b.setTh n x).col = b.col := rfl
@[simp] theorem Blk.setTh_wd (b : Blk) (n : Nat) (x : Thr) : (b.setTh n x).wd = b.wd := rfl
@[simp] theorem Blk.setTh_log (b : Blk) (n : Nat) (x : Thr) : (b.setTh n x).log = b.log := rfl
@[simp] theorem Blk.setTh_quay (b : Blk) (n : Nat) (x : Thr) : (b.setTh n x).quay = b.quay := rfl
@[simp] theorem Blk.setTh_hq (b : Blk) (n : Nat) (x : Thr) : (b.setTh n x).hq = b.hq := rfl
@[simp] theorem Blk.setTh_msg (b : Blk) (n : Nat) (x : Thr) : (b.setTh n x).msg = b.msg := rfl
@[simp] theorem Blk.setTh_answer (b : Blk) (n : Nat) (x : Thr) : (b.setTh n x).answer = b.answer := rfl
@[simp] theorem Blk.setTh_lease (b : Blk) (n : Nat) (x : Thr) : (b.setTh n x).lease = b.lease := rfl
@[simp] theorem Blk.setTh_hw (b : Blk) (n : Nat) (x : Thr) : (b.setTh n x).hw = b.hw := rfl
@[simp] theorem Blk.setTh_out (b : Blk) (n : Nat) (x : Thr) : (b.setTh n x).out = b.out := rfl
@[simp] theorem Blk.setTh_later (b : Blk) (n : Nat) (x : Thr) : (b.setTh n x).later = b.later := rfl

@[simp] theorem Blk.setGr_f (b : Blk) (n : Nat) (x : Grp) (G : Fld) (j : Nat) : (b.setGr n x).f G j = b.f G j := rfl
@[simp] theorem Blk.setGr_sig (b : Blk) (n : Nat) (x : Grp) (g : Sig) : (b.setGr n x).sig g = b.sig g := rfl
@[simp] theorem Blk.setGr_sample (b : Blk) (n : Nat) (x : Grp) (c : Nat) : (b.setGr n x).sample c = b.sample c := rfl
@[simp] theorem Blk.setGr_brt (b : Blk) (n : Nat) (x : Grp) (j : Nat) : (b.setGr n x).brt j = b.brt j := rfl
@[simp] theorem Blk.setGr_fd (b : Blk) (n : Nat) (x : Grp) (j : Nat) : (b.setGr n x).fd j = b.fd j := rfl
@[simp] theorem Blk.setGr_lp (b : Blk) (n : Nat) (x : Grp) (j : Nat) : (b.setGr n x).lp j = b.lp j := rfl
@[simp] theorem Blk.setGr_ph (b : Blk) (n : Nat) (x : Grp) (j : Nat) : (b.setGr n x).ph j = b.ph j := rfl
@[simp] theorem Blk.setGr_bk (b : Blk) (n : Nat) (x : Grp) (j : Nat) : (b.setGr n x).bk j = b.bk j := rfl
@[simp] theorem Blk.setGr_ld (b : Blk) (n : Nat) (x : Grp) (j : Nat) : (b.setGr n x).ld j = b.ld j := rfl
@[simp] theorem Blk.setGr_mn (b : Blk) (n : Nat) (x : Grp) (j : Nat) : (b.setGr n x).mn j = b.mn j := rfl
@[simp] theorem Blk.setGr_sn (b : Blk) (n : Nat) (x : Grp) (j : Nat) : (b.setGr n x).sn j = b.sn j := rfl
@[simp] theorem Blk.setGr_th (b : Blk) (n : Nat) (x : Grp) (j : Nat) : (b.setGr n x).th j = b.th j := rfl
@[simp] theorem Blk.setGr_dev (b : Blk) (n : Nat) (x : Grp) : (b.setGr n x).dev = b.dev := rfl
@[simp] theorem Blk.setGr_devEdge (b : Blk) (n : Nat) (x : Grp) : (b.setGr n x).devEdge = b.devEdge := rfl
@[simp] theorem Blk.setGr_evts (b : Blk) (n : Nat) (x : Grp) : (b.setGr n x).evts = b.evts := rfl
@[simp] theorem Blk.setGr_lines (b : Blk) (n : Nat) (x : Grp) : (b.setGr n x).lines = b.lines := rfl
@[simp] theorem Blk.setGr_staged (b : Blk) (n : Nat) (x : Grp) : (b.setGr n x).staged = b.staged := rfl
@[simp] theorem Blk.setGr_meOn (b : Blk) (n : Nat) (x : Grp) : (b.setGr n x).meOn = b.meOn := rfl
@[simp] theorem Blk.setGr_lockedMap (b : Blk) (n : Nat) (x : Grp) : (b.setGr n x).lockedMap = b.lockedMap := rfl
@[simp] theorem Blk.setGr_trips (b : Blk) (n : Nat) (x : Grp) : (b.setGr n x).trips = b.trips := rfl
@[simp] theorem Blk.setGr_tasks (b : Blk) (n : Nat) (x : Grp) : (b.setGr n x).tasks = b.tasks := rfl
@[simp] theorem Blk.setGr_seq (b : Blk) (n : Nat) (x : Grp) : (b.setGr n x).seq = b.seq := rfl
@[simp] theorem Blk.setGr_attn (b : Blk) (n : Nat) (x : Grp) : (b.setGr n x).attn = b.attn := rfl
@[simp] theorem Blk.setGr_keep (b : Blk) (n : Nat) (x : Grp) : (b.setGr n x).keep = b.keep := rfl
@[simp] theorem Blk.setGr_chg (b : Blk) (n : Nat) (x : Grp) : (b.setGr n x).chg = b.chg := rfl
@[simp] theorem Blk.setGr_gauge (b : Blk) (n : Nat) (x : Grp) : (b.setGr n x).gauge = b.gauge := rfl
@[simp] theorem Blk.setGr_biv (b : Blk) (n : Nat) (x : Grp) : (b.setGr n x).biv = b.biv := rfl
@[simp] theorem Blk.setGr_col (b : Blk) (n : Nat) (x : Grp) : (b.setGr n x).col = b.col := rfl
@[simp] theorem Blk.setGr_wd (b : Blk) (n : Nat) (x : Grp) : (b.setGr n x).wd = b.wd := rfl
@[simp] theorem Blk.setGr_log (b : Blk) (n : Nat) (x : Grp) : (b.setGr n x).log = b.log := rfl
@[simp] theorem Blk.setGr_quay (b : Blk) (n : Nat) (x : Grp) : (b.setGr n x).quay = b.quay := rfl
@[simp] theorem Blk.setGr_hq (b : Blk) (n : Nat) (x : Grp) : (b.setGr n x).hq = b.hq := rfl
@[simp] theorem Blk.setGr_msg (b : Blk) (n : Nat) (x : Grp) : (b.setGr n x).msg = b.msg := rfl
@[simp] theorem Blk.setGr_answer (b : Blk) (n : Nat) (x : Grp) : (b.setGr n x).answer = b.answer := rfl
@[simp] theorem Blk.setGr_lease (b : Blk) (n : Nat) (x : Grp) : (b.setGr n x).lease = b.lease := rfl
@[simp] theorem Blk.setGr_hw (b : Blk) (n : Nat) (x : Grp) : (b.setGr n x).hw = b.hw := rfl
@[simp] theorem Blk.setGr_out (b : Blk) (n : Nat) (x : Grp) : (b.setGr n x).out = b.out := rfl
@[simp] theorem Blk.setGr_later (b : Blk) (n : Nat) (x : Grp) : (b.setGr n x).later = b.later := rfl

@[simp] theorem Blk.raiseFor_f (b : Blk) (t k d : Nat) (o : Obj) (G : Fld) (j : Nat) : (b.raiseFor t k d o).f G j = b.f G j := rfl
@[simp] theorem Blk.raiseFor_sig (b : Blk) (t k d : Nat) (o : Obj) (g : Sig) : (b.raiseFor t k d o).sig g = b.sig g := rfl
@[simp] theorem Blk.raiseFor_sample (b : Blk) (t k d : Nat) (o : Obj) (c : Nat) : (b.raiseFor t k d o).sample c = b.sample c := rfl
@[simp] theorem Blk.raiseFor_brt (b : Blk) (t k d : Nat) (o : Obj) (j : Nat) : (b.raiseFor t k d o).brt j = b.brt j := rfl
@[simp] theorem Blk.raiseFor_fd (b : Blk) (t k d : Nat) (o : Obj) (j : Nat) : (b.raiseFor t k d o).fd j = b.fd j := rfl
@[simp] theorem Blk.raiseFor_lp (b : Blk) (t k d : Nat) (o : Obj) (j : Nat) : (b.raiseFor t k d o).lp j = b.lp j := rfl
@[simp] theorem Blk.raiseFor_ph (b : Blk) (t k d : Nat) (o : Obj) (j : Nat) : (b.raiseFor t k d o).ph j = b.ph j := rfl
@[simp] theorem Blk.raiseFor_bk (b : Blk) (t k d : Nat) (o : Obj) (j : Nat) : (b.raiseFor t k d o).bk j = b.bk j := rfl
@[simp] theorem Blk.raiseFor_ld (b : Blk) (t k d : Nat) (o : Obj) (j : Nat) : (b.raiseFor t k d o).ld j = b.ld j := rfl
@[simp] theorem Blk.raiseFor_mn (b : Blk) (t k d : Nat) (o : Obj) (j : Nat) : (b.raiseFor t k d o).mn j = b.mn j := rfl
@[simp] theorem Blk.raiseFor_sn (b : Blk) (t k d : Nat) (o : Obj) (j : Nat) : (b.raiseFor t k d o).sn j = b.sn j := rfl
@[simp] theorem Blk.raiseFor_th (b : Blk) (t k d : Nat) (o : Obj) (j : Nat) : (b.raiseFor t k d o).th j = b.th j := rfl
@[simp] theorem Blk.raiseFor_gr (b : Blk) (t k d : Nat) (o : Obj) (j : Nat) : (b.raiseFor t k d o).gr j = b.gr j := rfl
@[simp] theorem Blk.raiseFor_dev (b : Blk) (t k d : Nat) (o : Obj) : (b.raiseFor t k d o).dev = b.dev := rfl
@[simp] theorem Blk.raiseFor_devEdge (b : Blk) (t k d : Nat) (o : Obj) : (b.raiseFor t k d o).devEdge = b.devEdge := rfl
@[simp] theorem Blk.raiseFor_evts (b : Blk) (t k d : Nat) (o : Obj) : (b.raiseFor t k d o).evts = b.evts := rfl
@[simp] theorem Blk.raiseFor_staged (b : Blk) (t k d : Nat) (o : Obj) : (b.raiseFor t k d o).staged = b.staged := rfl
@[simp] theorem Blk.raiseFor_meOn (b : Blk) (t k d : Nat) (o : Obj) : (b.raiseFor t k d o).meOn = b.meOn := rfl
@[simp] theorem Blk.raiseFor_lockedMap (b : Blk) (t k d : Nat) (o : Obj) : (b.raiseFor t k d o).lockedMap = b.lockedMap := rfl
@[simp] theorem Blk.raiseFor_trips (b : Blk) (t k d : Nat) (o : Obj) : (b.raiseFor t k d o).trips = b.trips := rfl
@[simp] theorem Blk.raiseFor_tasks (b : Blk) (t k d : Nat) (o : Obj) : (b.raiseFor t k d o).tasks = b.tasks := rfl
@[simp] theorem Blk.raiseFor_seq (b : Blk) (t k d : Nat) (o : Obj) : (b.raiseFor t k d o).seq = b.seq := rfl
@[simp] theorem Blk.raiseFor_attn (b : Blk) (t k d : Nat) (o : Obj) : (b.raiseFor t k d o).attn = b.attn := rfl
@[simp] theorem Blk.raiseFor_keep (b : Blk) (t k d : Nat) (o : Obj) : (b.raiseFor t k d o).keep = b.keep := rfl
@[simp] theorem Blk.raiseFor_chg (b : Blk) (t k d : Nat) (o : Obj) : (b.raiseFor t k d o).chg = b.chg := rfl
@[simp] theorem Blk.raiseFor_gauge (b : Blk) (t k d : Nat) (o : Obj) : (b.raiseFor t k d o).gauge = b.gauge := rfl
@[simp] theorem Blk.raiseFor_biv (b : Blk) (t k d : Nat) (o : Obj) : (b.raiseFor t k d o).biv = b.biv := rfl
@[simp] theorem Blk.raiseFor_col (b : Blk) (t k d : Nat) (o : Obj) : (b.raiseFor t k d o).col = b.col := rfl
@[simp] theorem Blk.raiseFor_wd (b : Blk) (t k d : Nat) (o : Obj) : (b.raiseFor t k d o).wd = b.wd := rfl
@[simp] theorem Blk.raiseFor_log (b : Blk) (t k d : Nat) (o : Obj) : (b.raiseFor t k d o).log = b.log := rfl
@[simp] theorem Blk.raiseFor_quay (b : Blk) (t k d : Nat) (o : Obj) : (b.raiseFor t k d o).quay = b.quay := rfl
@[simp] theorem Blk.raiseFor_hq (b : Blk) (t k d : Nat) (o : Obj) : (b.raiseFor t k d o).hq = b.hq := rfl
@[simp] theorem Blk.raiseFor_msg (b : Blk) (t k d : Nat) (o : Obj) : (b.raiseFor t k d o).msg = b.msg := rfl
@[simp] theorem Blk.raiseFor_answer (b : Blk) (t k d : Nat) (o : Obj) : (b.raiseFor t k d o).answer = b.answer := rfl
@[simp] theorem Blk.raiseFor_lease (b : Blk) (t k d : Nat) (o : Obj) : (b.raiseFor t k d o).lease = b.lease := rfl
@[simp] theorem Blk.raiseFor_hw (b : Blk) (t k d : Nat) (o : Obj) : (b.raiseFor t k d o).hw = b.hw := rfl
@[simp] theorem Blk.raiseFor_out (b : Blk) (t k d : Nat) (o : Obj) : (b.raiseFor t k d o).out = b.out := rfl
@[simp] theorem Blk.raiseFor_later (b : Blk) (t k d : Nat) (o : Obj) : (b.raiseFor t k d o).later = b.later := rfl

@[simp] theorem Blk.dropLines_f (b : Blk) (t : Nat) (o : Obj) (G : Fld) (j : Nat) : (b.dropLines t o).f G j = b.f G j := rfl
@[simp] theorem Blk.dropLines_sig (b : Blk) (t : Nat) (o : Obj) (g : Sig) : (b.dropLines t o).sig g = b.sig g := rfl
@[simp] theorem Blk.dropLines_sample (b : Blk) (t : Nat) (o : Obj) (c : Nat) : (b.dropLines t o).sample c = b.sample c := rfl
@[simp] theorem Blk.dropLines_brt (b : Blk) (t : Nat) (o : Obj) (j : Nat) : (b.dropLines t o).brt j = b.brt j := rfl
@[simp] theorem Blk.dropLines_fd (b : Blk) (t : Nat) (o : Obj) (j : Nat) : (b.dropLines t o).fd j = b.fd j := rfl
@[simp] theorem Blk.dropLines_lp (b : Blk) (t : Nat) (o : Obj) (j : Nat) : (b.dropLines t o).lp j = b.lp j := rfl
@[simp] theorem Blk.dropLines_ph (b : Blk) (t : Nat) (o : Obj) (j : Nat) : (b.dropLines t o).ph j = b.ph j := rfl
@[simp] theorem Blk.dropLines_bk (b : Blk) (t : Nat) (o : Obj) (j : Nat) : (b.dropLines t o).bk j = b.bk j := rfl
@[simp] theorem Blk.dropLines_ld (b : Blk) (t : Nat) (o : Obj) (j : Nat) : (b.dropLines t o).ld j = b.ld j := rfl
@[simp] theorem Blk.dropLines_mn (b : Blk) (t : Nat) (o : Obj) (j : Nat) : (b.dropLines t o).mn j = b.mn j := rfl
@[simp] theorem Blk.dropLines_sn (b : Blk) (t : Nat) (o : Obj) (j : Nat) : (b.dropLines t o).sn j = b.sn j := rfl
@[simp] theorem Blk.dropLines_th (b : Blk) (t : Nat) (o : Obj) (j : Nat) : (b.dropLines t o).th j = b.th j := rfl
@[simp] theorem Blk.dropLines_gr (b : Blk) (t : Nat) (o : Obj) (j : Nat) : (b.dropLines t o).gr j = b.gr j := rfl
@[simp] theorem Blk.dropLines_dev (b : Blk) (t : Nat) (o : Obj) : (b.dropLines t o).dev = b.dev := rfl
@[simp] theorem Blk.dropLines_devEdge (b : Blk) (t : Nat) (o : Obj) : (b.dropLines t o).devEdge = b.devEdge := rfl
@[simp] theorem Blk.dropLines_evts (b : Blk) (t : Nat) (o : Obj) : (b.dropLines t o).evts = b.evts := rfl
@[simp] theorem Blk.dropLines_staged (b : Blk) (t : Nat) (o : Obj) : (b.dropLines t o).staged = b.staged := rfl
@[simp] theorem Blk.dropLines_meOn (b : Blk) (t : Nat) (o : Obj) : (b.dropLines t o).meOn = b.meOn := rfl
@[simp] theorem Blk.dropLines_lockedMap (b : Blk) (t : Nat) (o : Obj) : (b.dropLines t o).lockedMap = b.lockedMap := rfl
@[simp] theorem Blk.dropLines_trips (b : Blk) (t : Nat) (o : Obj) : (b.dropLines t o).trips = b.trips := rfl
@[simp] theorem Blk.dropLines_tasks (b : Blk) (t : Nat) (o : Obj) : (b.dropLines t o).tasks = b.tasks := rfl
@[simp] theorem Blk.dropLines_seq (b : Blk) (t : Nat) (o : Obj) : (b.dropLines t o).seq = b.seq := rfl
@[simp] theorem Blk.dropLines_attn (b : Blk) (t : Nat) (o : Obj) : (b.dropLines t o).attn = b.attn := rfl
@[simp] theorem Blk.dropLines_keep (b : Blk) (t : Nat) (o : Obj) : (b.dropLines t o).keep = b.keep := rfl
@[simp] theorem Blk.dropLines_chg (b : Blk) (t : Nat) (o : Obj) : (b.dropLines t o).chg = b.chg := rfl
@[simp] theorem Blk.dropLines_gauge (b : Blk) (t : Nat) (o : Obj) : (b.dropLines t o).gauge = b.gauge := rfl
@[simp] theorem Blk.dropLines_biv (b : Blk) (t : Nat) (o : Obj) : (b.dropLines t o).biv = b.biv := rfl
@[simp] theorem Blk.dropLines_col (b : Blk) (t : Nat) (o : Obj) : (b.dropLines t o).col = b.col := rfl
@[simp] theorem Blk.dropLines_wd (b : Blk) (t : Nat) (o : Obj) : (b.dropLines t o).wd = b.wd := rfl
@[simp] theorem Blk.dropLines_log (b : Blk) (t : Nat) (o : Obj) : (b.dropLines t o).log = b.log := rfl
@[simp] theorem Blk.dropLines_quay (b : Blk) (t : Nat) (o : Obj) : (b.dropLines t o).quay = b.quay := rfl
@[simp] theorem Blk.dropLines_hq (b : Blk) (t : Nat) (o : Obj) : (b.dropLines t o).hq = b.hq := rfl
@[simp] theorem Blk.dropLines_msg (b : Blk) (t : Nat) (o : Obj) : (b.dropLines t o).msg = b.msg := rfl
@[simp] theorem Blk.dropLines_answer (b : Blk) (t : Nat) (o : Obj) : (b.dropLines t o).answer = b.answer := rfl
@[simp] theorem Blk.dropLines_lease (b : Blk) (t : Nat) (o : Obj) : (b.dropLines t o).lease = b.lease := rfl
@[simp] theorem Blk.dropLines_hw (b : Blk) (t : Nat) (o : Obj) : (b.dropLines t o).hw = b.hw := rfl
@[simp] theorem Blk.dropLines_out (b : Blk) (t : Nat) (o : Obj) : (b.dropLines t o).out = b.out := rfl
@[simp] theorem Blk.dropLines_later (b : Blk) (t : Nat) (o : Obj) : (b.dropLines t o).later = b.later := rfl

@[simp] theorem Blk.acted_f (b : Blk) (t : Nat) (o : Obj) (p st : Nat) (G : Fld) (j : Nat) : (b.acted t o p st).f G j = b.f G j := rfl
@[simp] theorem Blk.acted_sig (b : Blk) (t : Nat) (o : Obj) (p st : Nat) (g : Sig) : (b.acted t o p st).sig g = b.sig g := rfl
@[simp] theorem Blk.acted_sample (b : Blk) (t : Nat) (o : Obj) (p st : Nat) (c : Nat) : (b.acted t o p st).sample c = b.sample c := rfl
@[simp] theorem Blk.acted_brt (b : Blk) (t : Nat) (o : Obj) (p st : Nat) (j : Nat) : (b.acted t o p st).brt j = b.brt j := rfl
@[simp] theorem Blk.acted_fd (b : Blk) (t : Nat) (o : Obj) (p st : Nat) (j : Nat) : (b.acted t o p st).fd j = b.fd j := rfl
@[simp] theorem Blk.acted_lp (b : Blk) (t : Nat) (o : Obj) (p st : Nat) (j : Nat) : (b.acted t o p st).lp j = b.lp j := rfl
@[simp] theorem Blk.acted_ph (b : Blk) (t : Nat) (o : Obj) (p st : Nat) (j : Nat) : (b.acted t o p st).ph j = b.ph j := rfl
@[simp] theorem Blk.acted_bk (b : Blk) (t : Nat) (o : Obj) (p st : Nat) (j : Nat) : (b.acted t o p st).bk j = b.bk j := rfl
@[simp] theorem Blk.acted_ld (b : Blk) (t : Nat) (o : Obj) (p st : Nat) (j : Nat) : (b.acted t o p st).ld j = b.ld j := rfl
@[simp] theorem Blk.acted_mn (b : Blk) (t : Nat) (o : Obj) (p st : Nat) (j : Nat) : (b.acted t o p st).mn j = b.mn j := rfl
@[simp] theorem Blk.acted_sn (b : Blk) (t : Nat) (o : Obj) (p st : Nat) (j : Nat) : (b.acted t o p st).sn j = b.sn j := rfl
@[simp] theorem Blk.acted_th (b : Blk) (t : Nat) (o : Obj) (p st : Nat) (j : Nat) : (b.acted t o p st).th j = b.th j := rfl
@[simp] theorem Blk.acted_gr (b : Blk) (t : Nat) (o : Obj) (p st : Nat) (j : Nat) : (b.acted t o p st).gr j = b.gr j := rfl
@[simp] theorem Blk.acted_dev (b : Blk) (t : Nat) (o : Obj) (p st : Nat) : (b.acted t o p st).dev = b.dev := rfl
@[simp] theorem Blk.acted_devEdge (b : Blk) (t : Nat) (o : Obj) (p st : Nat) : (b.acted t o p st).devEdge = b.devEdge := rfl
@[simp] theorem Blk.acted_staged (b : Blk) (t : Nat) (o : Obj) (p st : Nat) : (b.acted t o p st).staged = b.staged := rfl
@[simp] theorem Blk.acted_meOn (b : Blk) (t : Nat) (o : Obj) (p st : Nat) : (b.acted t o p st).meOn = b.meOn := rfl
@[simp] theorem Blk.acted_lockedMap (b : Blk) (t : Nat) (o : Obj) (p st : Nat) : (b.acted t o p st).lockedMap = b.lockedMap := rfl
@[simp] theorem Blk.acted_trips (b : Blk) (t : Nat) (o : Obj) (p st : Nat) : (b.acted t o p st).trips = b.trips := rfl
@[simp] theorem Blk.acted_tasks (b : Blk) (t : Nat) (o : Obj) (p st : Nat) : (b.acted t o p st).tasks = b.tasks := rfl
@[simp] theorem Blk.acted_seq (b : Blk) (t : Nat) (o : Obj) (p st : Nat) : (b.acted t o p st).seq = b.seq := rfl
@[simp] theorem Blk.acted_attn (b : Blk) (t : Nat) (o : Obj) (p st : Nat) : (b.acted t o p st).attn = b.attn := rfl
@[simp] theorem Blk.acted_keep (b : Blk) (t : Nat) (o : Obj) (p st : Nat) : (b.acted t o p st).keep = b.keep := rfl
@[simp] theorem Blk.acted_chg (b : Blk) (t : Nat) (o : Obj) (p st : Nat) : (b.acted t o p st).chg = b.chg := rfl
@[simp] theorem Blk.acted_gauge (b : Blk) (t : Nat) (o : Obj) (p st : Nat) : (b.acted t o p st).gauge = b.gauge := rfl
@[simp] theorem Blk.acted_biv (b : Blk) (t : Nat) (o : Obj) (p st : Nat) : (b.acted t o p st).biv = b.biv := rfl
@[simp] theorem Blk.acted_col (b : Blk) (t : Nat) (o : Obj) (p st : Nat) : (b.acted t o p st).col = b.col := rfl
@[simp] theorem Blk.acted_wd (b : Blk) (t : Nat) (o : Obj) (p st : Nat) : (b.acted t o p st).wd = b.wd := rfl
@[simp] theorem Blk.acted_log (b : Blk) (t : Nat) (o : Obj) (p st : Nat) : (b.acted t o p st).log = b.log := rfl
@[simp] theorem Blk.acted_quay (b : Blk) (t : Nat) (o : Obj) (p st : Nat) : (b.acted t o p st).quay = b.quay := rfl
@[simp] theorem Blk.acted_hq (b : Blk) (t : Nat) (o : Obj) (p st : Nat) : (b.acted t o p st).hq = b.hq := rfl
@[simp] theorem Blk.acted_msg (b : Blk) (t : Nat) (o : Obj) (p st : Nat) : (b.acted t o p st).msg = b.msg := rfl
@[simp] theorem Blk.acted_answer (b : Blk) (t : Nat) (o : Obj) (p st : Nat) : (b.acted t o p st).answer = b.answer := rfl
@[simp] theorem Blk.acted_lease (b : Blk) (t : Nat) (o : Obj) (p st : Nat) : (b.acted t o p st).lease = b.lease := rfl
@[simp] theorem Blk.acted_hw (b : Blk) (t : Nat) (o : Obj) (p st : Nat) : (b.acted t o p st).hw = b.hw := rfl
@[simp] theorem Blk.acted_out (b : Blk) (t : Nat) (o : Obj) (p st : Nat) : (b.acted t o p st).out = b.out := rfl
@[simp] theorem Blk.acted_later (b : Blk) (t : Nat) (o : Obj) (p st : Nat) : (b.acted t o p st).later = b.later := rfl

@[simp] theorem Blk.raiseFor_lines (b : Blk) (t k d : Nat) (o : Obj) : (b.raiseFor t k d o).lines = b.lines ++ [⟨k, d, o, t⟩] := rfl

end Sys2Proof.Machine
end

