-- ==== Sys2Proof/WellFormed.lean ====
section
/-! DEFINITION. Which terms of Instr stand for a command of the device: words of 32 bits, addresses of the address space, bytes,
signals that exist. Operands that name an instance are of a type of their range. -/
namespace Sys2Proof

open Sys2Proof.Machine

/-- The channels of the table Channel codes, as ranges. -/
def channelRanges : List (Nat × Nat) :=
  [(0x000, 0x067), (0x068, 0x06D), (0x070, 0x07F), (0x080, 0x08C), (0x090, 0x0CF), (0x0D8, 0x0DB)]

/-- A channel of the converters. -/
def channelOk (c : Nat) : Bool := channelRanges.any fun r => decide (r.1 ≤ c) && decide (c ≤ r.2)

/-- A signal of the device: its index lies in the range of its kind. -/
def signalOk : Sig → Bool
  | .cal c | .raw c => channelOk c
  | .dev k c | .rawDev k c => decide (k < 3) && channelOk c
  | .parity k c => decide (k < 3) && (channelOk c || (decide (0x3F0 ≤ c) && decide (c < 0x3F4)))
  | .ref k j => decide (k < 3) && decide (j < 4)
  | .vsel k => decide (k < 12)
  | .foghorn | .packDet | .addrSel | .keepFwd | .hrpllLock | .xin | .lockstep | .otpPulses | .flashFail
  | .vio | .avdd | .vddc | .pllLock => true
  | .feedFwd n | .hwGnd n | .hwQuiet n => decide (n < 2)
  | .ldoLimit n | .engOverrun n | .engFinish n => decide (n < 6)
  | .monShadow n => decide (n < 32)
  | .engUpset k =>
    let kind := (k - 0x1000) / 0x400
    let i := (k - 0x1000) % 0x400 / 8
    decide (k < 128 ∧ k % 16 < 14) || decide (128 ≤ k ∧ k < 136) ||
      (decide (0x1000 ≤ k) &&
        [(1, 8, 3), (2, 1, 6), (3, 6, 4), (4, 6, 3), (5, 32, 2), (6, 1, 1)].any fun r =>
          r.1 == kind && decide (i < r.2.1 ∧ k % 8 < r.2.2))
  | .engSlip spare kind inst w => decide (spare < 2) && decide (kind < 7) && decide (inst < 8) && decide (w < 7)
  | .buckPeakAt n | .buckZeroAt n | .buckNegAt n => decide (n < 8)
  | .domainDev d => decide (d < 11)
  | .injection u => decide (u < 40)
  | .otpFail c => decide (c < 3)
  | .otpSpareFail r => decide (r < 64)
  | .dieHot q | .dieCool q => decide (q < 4)
  | .upset a => decide (a < 0x18000 ∨ 0x20000000 ≤ a ∧ a < 0x20100000 ∨ 0x10000000 ≤ a ∧ a < 0x10800000)

/-- A host port of a writer is one of the four. -/
def writerOk : Writer → Bool
  | .port p => decide (p < 4)
  | _ => true

/-- A word, an address or a key of 32 bits; a list of bytes. -/
def wordOk (v : Nat) : Bool := decide (v < 0x100000000)
def bytesOk (l : List Nat) : Bool := l.all fun x => decide (x < 256)

/-- The checks by constructor; a row without an operand to check is well-formed. -/
def Instr.wf : Instr → Bool
  | .tick ins => ins.all fun i => signalOk i.1
  | .lowWordRead _ a | .rcRead a | .pilotException _ a => wordOk a
  | .registerWrite w a v => writerOk w && wordOk a && wordOk v
  | .coefWrite _ _ v | .ldoCodeWrite _ v => wordOk v
  | .accLatch _ m | .trackerLatch _ m | .sensorBrokenClear _ m => wordOk m
  | .authRead (some l) => bytesOk l
  | .gaugeCommit crc => decide (crc < 0x10000)
  | .rtcStageWrite w _ v | .faultStatusClear w _ v => writerOk w && wordOk v
  | .rtcSet w | .safeExit w | .wdLock w | .wdCheckin w _ | .wdKeyA w | .wdKeyB w | .wdKeyOther w | .eccTestGo w
  | .eccTestRead w => writerOk w
  | .otpCmdProgram w k | .otpCmdIncrement w k | .otpCmdFinalise w k => writerOk w && wordOk k
  | .logSnap tag _ => wordOk tag
  | .spiWriteFrame l | .spiReadFrame l | .twWrite _ l _ | .twRead _ l => bytesOk l
  | .hawserFrameRelay _ l _ | .beaconReceive _ l | .tickFrameReceive _ l _ | .linkFrame _ l _ | .faultFrameReceive _ l
  | .tokenFrameReceive _ l | .relayReqReceive _ l | .relayRspReceive _ l => bytesOk l
  | .twBusClear _ n | .twHungRetry _ n => decide (n < 16)
  | _ => true

end Sys2Proof
end

