-- ==== Sys2Proof/Tests/Slice0.lean ====
section
/-! SUPPORT. The author's own tests: well-formedness refuses an ill-formed term for each of its checks; worked examples of the spec;
and, for every statement with hypotheses, concrete states and operands that meet them, clause by clause, at the ends of their
ranges. -/
namespace Sys2Proof.Tests

open Sys2Proof Sys2Proof.Machine

set_option Elab.async false
set_option linter.unusedVariables false

/-- The registers of a small state: fields by instance and value, all others at reset. -/
def regsOf (l : List (Fld × Nat × Nat)) : Tab Nat := (l.foldl (fun b x => Blk.setF b x.1 x.2.1 x.2.2) {}).regs

/-- The inputs of a small state. -/
def envOf (l : List (Sig × Int)) : Tab Int := (l.foldl (fun b x => Blk.setSig b x.1 x.2) {}).env

/-- A request of port 0 on quay 0 that arrived in tick 3, with the header and the CRC of R418. -/
def request (op : Nat) (pay : List Nat) (lease : Nat := 0) : Req :=
  let h := leBytes 2 op ++ [0, 9] ++ leBytes 2 pay.length ++ leBytes 2 lease ++ [1, 2, 3, 4, 0, 0, 0, 0] ++ pay
  ⟨0, 0, 3, h ++ leBytes 4 (crc32 h), false, []⟩

/-- A device in a state, with the fields and the tick given and all else as after reset; and one that holds a request open. -/
def dev (d : DevState) (r : List (Fld × Nat × Nat)) (t : Nat := 0) : State :=
  { tick := t, b := { dev := d, devEdge := d, regs := regsOf r } }
def heard (q : Req) (s : State) : State :=
  { s with b := { s.b.setF HOST_PORT_CFG.CLASS 0 2 with msg := some q, quaysOpen := true } }

/-- A record of a type, all else 0. -/
def record (ty : Nat) : LogRec := ⟨ty, 0, 0, 0, 0, 0, 0, [], []⟩

/-- A record that leaves most bytes of its slot at 0xFF. -/
def fullRecord : LogRec := { record 0xFF with det := List.replicate 24 255, items := List.replicate 48 0xFFFFFFFF }

/-- A pack's answer with status 0 and its CRC-8 (R266). -/
def packAnswer : List Nat := let l := [0, 8] ++ List.replicate 72 5; l ++ [crc8 ([0, 0x11, 1] ++ l)]

/-! Well-formedness -/

theorem test_wf_refuses :
    [Instr.tick [(.cal 0x6E, 0)], .tick [(.dev 3 0, 0)], .tick [(.upset 0x20100000, 1)], .tick [(.upset 0x10800000, 1)],
      .lowWordRead 4 0x100000000, .rcRead 0x100000000, .pilotException 0 0x100000000].all (fun c => !c.wf) = true ∧
    [Instr.registerWrite (.port 4) 0 0, .registerWrite .pilot 0x100000000 0, .registerWrite .pilot 0 0x100000000,
      .coefWrite 0 0 0x100000000, .ldoCodeWrite 0 0x100000000, .accLatch 0 0x100000000, .trackerLatch 0 0x100000000,
      .sensorBrokenClear 2 0x100000000, .authRead (some [256]), .gaugeCommit 0x10000].all (fun c => !c.wf) = true ∧
    [Instr.rtcStageWrite (.port 4) 0 0, .rtcStageWrite .pilot 0 0x100000000, .faultStatusClear (.port 4) 0 0,
      .faultStatusClear .pilot 0 0x100000000, .rtcSet (.port 4), .safeExit (.port 4), .wdLock (.port 4), .wdCheckin (.port 4) 0,
      .wdKeyA (.port 4), .wdKeyB (.port 4), .wdKeyOther (.port 4), .eccTestGo (.port 4),
      .eccTestRead (.port 4)].all (fun c => !c.wf) = true ∧
    [Instr.otpCmdProgram (.port 4) 0, .otpCmdProgram .keeper 0x100000000, .otpCmdIncrement .keeper 0x100000000,
      .otpCmdFinalise .keeper 0x100000000, .logSnap 0x100000000 0, .spiWriteFrame [256], .spiReadFrame [256],
      .twWrite 0 [256] true, .twRead 0 [256], .twBusClear 0 16, .twHungRetry 0 16].all (fun c => !c.wf) = true ∧
    [Instr.hawserFrameRelay 0 [256] 0, .beaconReceive 0 [256], .tickFrameReceive 0 [256] 0, .linkFrame 0 [256] 0,
      .faultFrameReceive 0 [256], .tokenFrameReceive 0 [256], .relayReqReceive 0 [256],
      .relayRspReceive 0 [256]].all (fun c => !c.wf) = true := by decide +kernel

theorem test_wf_accepts :
    [Instr.tick [(.cal 0x6D, 0), (.upset 0x200FFFF8, 1), (.otpSpareFail 63, 1)], .lowWordRead 4 0xFFFFFFFF,
      .registerWrite (.port 3) 0xFFFFFFFC 0xFFFFFFFF, .authRead none, .gaugeCommit 0xFFFF, .spiWriteFrame [255], .twBusClear 1 15,
      .relayRspReceive 1 []].all Instr.wf = true := by decide +kernel

/-- The table gives no row a bit: every word spells no command. -/
theorem test_words_spell_nothing : decodeTableWord 0 0 = none ∧ decodeTableWord 32 5 = none := by decide

/-! Worked examples of the spec -/

/-- Chapter 16: the PEC of a two-wire read of DEV_ID is 0x25. -/
theorem test_pec_of_dev_id_read : crc8 [0x80, 0x00, 0x00, 0x04, 0x81, 0x03, 0x01, 0x24, 0x96] = 0x25 := by decide +kernel

/-- Chapter 13: CLEAR_COUNT is 34 with words 0x410 and 0x411 at 0xFFFF_FFFF and 7; one more programs bit 3 of word 0x411. -/
theorem test_counter_increment :
    let b : Blk := { otp := [(0x410, 0xFFFFFFFF), (0x411, 7), (0x1410, 0xFFFFFFFF), (0x1411, 7), (0x2410, 0xFFFFFFFF), (0x2411, 7)] }
    b.counter 2 = 34 ∧ (otpIncrement b 2).counter 2 = 35 ∧ (otpIncrement b 2).otpRead 0x411 = 15 := by decide +kernel

/-- FIPS 180-4's own example: the digest of "abc" (0x61, 0x62, 0x63) begins 0xBA7816BF. -/
theorem test_sha256_abc : (sha256 [0x61, 0x62, 0x63]).take 4 = [0xBA, 0x78, 0x16, 0xBF] := by decide +kernel

/-- R324, R327: a poisoned quay word inverts the check byte of a read; a write of the whole word clears its mark, one of 7 bytes does not. -/
theorem test_poisoned_quay_word :
    let b : Blk := { quay := [(0, { psn := [1] })] }
    winPoison b 0 0x100F 1 = true ∧ winPoison b 0 0x1000 8 = false ∧
    winPoison (winStore b 0 0x1008 (List.replicate 8 7)) 0 0x1008 1 = false ∧
    winPoison (winStore b 0 0x1009 (List.replicate 7 7)) 0 0x1008 1 = true := by decide +kernel

/-! Witnesses for the statements -/

theorem correctable_word : ∃ v, Mem.decode { syn := [(0x20000000, 1)] } 0x20000000 = .fixed v := by
  unfold Mem.decode
  rcases h : (List.range 64).find? fun i => wordColumn i == 1 with _ | i
  · exact ⟨_, by simp [h, Mem.poisoned, Tab.get]; rfl⟩
  · exact ⟨_, by simp [h, Mem.poisoned, Tab.get]; rfl⟩

theorem plain_at {a : Nat} (h : ((findReg a).all fun x => x.1.flds.all fun F => decide (F.acc ≠ .rc)) = true) :
    ∀ (d : RegD) (i : Nat), findReg a = some (d, i) → ∀ F ∈ d.flds, F.acc ≠ .rc := by
  intro d i e F hF
  rw [e] at h
  simpa using List.all_eq_true.mp h F hF


theorem clean_words {b : Blk} {a : Nat}
    (h : ([a, a + 4].all fun x => (engKey x).all fun k => (engDecode b k).any fun y => !y.2) = true) :
    ∀ a' k : Nat, (a' = a ∨ a' = a + 4) → engKey a' = some k → ∃ v, engDecode b k = some (v, false) := by
  intro a' k ha hk
  have hx : ((engKey a').all fun k => (engDecode b k).any fun y => !y.2) = true :=
    List.all_eq_true.mp h a' (by simpa using ha)
  rw [hk] at hx
  rcases he : engDecode b k with _ | ⟨v, p⟩
  · simp [he] at hx
  · exact ⟨v, by simp [he] at hx; rw [hx]⟩

theorem test_BeatsRoundsAndClockSources_TickDoesItsWork :
    (∃ (s : State) (ins : List (Sig × Int)) (x : MB),
      x = ins.foldl (latchInput (s.tick + b2n (running s.b))) (s.mem, { s.b with out := [] }) ∧ running s.b = true) ∧
    (∃ (s : State) (ins : List (Sig × Int)) (x : MB) (c : Nat) (v : Int),
      x = ins.foldl (latchInput (s.tick + b2n (running s.b))) (s.mem, { s.b with out := [] }) ∧ ins = [(.cal c, v)] ∧
      running s.b = false ∧ s.b.dev = .standby) ∧
    (∃ (s : State) (ins : List (Sig × Int)) (x : MB) (n : Nat),
      x = ins.foldl (latchInput (s.tick + b2n (running s.b))) (s.mem, { s.b with out := [] }) ∧ s.b.dev = .powerup ∧ s.b.up = some n) ∧
    (∃ (s : State) (ins : List (Sig × Int)) (x : MB),
      x = ins.foldl (latchInput (s.tick + b2n (running s.b))) (s.mem, { s.b with out := [] }) ∧ s.b.dev = .powerup ∧ s.b.up = none) ∧
    (∃ (s : State) (ins : List (Sig × Int)) (x : MB),
      x = ins.foldl (latchInput (s.tick + b2n (running s.b))) (s.mem, { s.b with out := [] }) ∧ s.b.dev = .off) :=
  ⟨⟨{ b := { dev := .run } }, [], _, rfl, by decide +kernel⟩,
   ⟨{ b := { dev := .standby } }, [(.cal 7, -3)], _, 7, -3, rfl, rfl, by decide +kernel⟩,
   ⟨{ b := { dev := .powerup, up := some 1999 } }, [], _, 1999, rfl, rfl, rfl⟩,
   ⟨{ b := { dev := .powerup } }, [], _, rfl, rfl, rfl⟩, ⟨{ b := { dev := .off } }, [], _, rfl, rfl⟩⟩

theorem test_BeatsRoundsAndClockSources_BeatRoundAndSlowRound :
    (∃ (s : State), running s.b = true ∧ s.tick % 16 = 0 ∧ s.b.beatAt ≠ s.tick + 1 ∧ (∀ n : Fin 8, lSwitching (s.b.lst n) = false)) ∧
    (∃ (s : State), running s.b = true ∧ (s.tick % 16 ≠ 0 ∨ s.b.beatAt = s.tick + 1)) ∧
    (∃ (s : State), running s.b = true ∧ s.tick % 2048 = 0 ∧ s.b.roundAt ≠ s.tick + 1) ∧
    (∃ (s : State), running s.b = true ∧ (s.tick % 2048 ≠ 0 ∨ s.b.roundAt = s.tick + 1)) ∧
    (∃ (s : State), running s.b = true ∧ s.tick % 524288 = 0 ∧ s.b.slowAt ≠ s.tick + 1 ∧ twinUnread s.b = false) ∧
    (∃ (s : State), running s.b = true ∧ (s.tick % 524288 ≠ 0 ∨ s.b.slowAt = s.tick + 1)) :=
  ⟨⟨dev .run [] 16, by decide +kernel⟩,
   ⟨dev .run [] 15, by decide +kernel⟩,
   ⟨dev .run [] 2048, by decide +kernel⟩,
   ⟨dev .run [] 2047, by decide +kernel⟩,
   ⟨dev .run [] 524288, by decide +kernel⟩,
   ⟨dev .run [] 524287, by decide +kernel⟩⟩

theorem test_BeatsRoundsAndClockSources_BeatBalancesPhasesAndCounts :
    ∃ (s : State) (n : Fin 8) (act : List Nat) (mean : Rat) (bound : Rat) (c : Rat), running s.b = true ∧ s.tick % 16 = 0 ∧ s.b.beatAt ≠
      s.tick + 1 ∧ lSwitching (s.b.lst n) = true ∧ (∀ m : Fin 8, m ≠ n → lSwitching (s.b.lst m) = false) ∧ act = activePhases s.b n ∧
      mean = meanOf (act.map fun p => (s.b.ph p).avg) ∧ bound = (min (s.b.f LOOP_SHARE.TRIM_MAX n) 16000 : Nat) ∧ c = meanOf (act.map
      fun p => (s.b.ph p).trim + (s.b.f LOOP_SHARE.KSHARE n : Rat) / 256 * (mean - (s.b.ph p).avg)) :=
  ⟨{ dev .run [(PHASE_CFG.LOOP, 23, 7), (PHASE_STAT.ACTIVE, 23, 1), (LOOP_SHED.SHED_A, 7, 1), (LOOP_STATE.STATE, 7, 2),
    (LOOP_SHARE.TRIM_MAX, 7, 0)] 16 with b.phase := [(23, { trim := 5 })] }, 7, [23], 0, 0, 5, by decide +kernel⟩

theorem test_BeatsRoundsAndClockSources_ClockSourcesFail :
    (∃ (s : State), running s.b = true ∧ s.b.sparesLeft 12 ≠ 0) ∧
    (∃ (s : State), running s.b = true ∧ s.b.sparesLeft 12 = 0) ∧
    (∃ (s : State), running s.b = false) :=
  ⟨⟨dev .run [], by decide +kernel⟩,
   ⟨{ dev .run [] with b.otp := [(1120, 2), (5216, 2), (9312, 2)] }, by decide +kernel⟩,
   ⟨dev .standby [], by decide +kernel⟩⟩

theorem test_ReadsLatchAndWritesWait_ReadsLatchAndClear :
    (∃ (s : State) (r : Fin 5), running s.b = true ∧ (r = 4 ∨ portUp s.b r = true)) ∧
    (∃ (s : State) (r : Fin 4), running s.b = true ∧ portUp s.b r = false) ∧
    (∃ (s : State) (a : Nat), (∀ a' k : Nat, (a' = a ∨ a' = a + 4) → engKey a' = some k → ∃ v, engDecode s.b k = some (v, false)) ∧
      running s.b = true ∧ onPair 0 a = true) ∧
    (∃ (s : State) (r : Fin 5) (a : Nat), running s.b = true ∧ a ≠ 0x40000000 ∧ onPair 0 a = false) ∧
    (∃ (s : State) (a : Nat) (d : RegD) (i : Nat) (F : Fld), running s.b = true ∧ findReg a = some (d, i) ∧ F ∈ d.flds ∧ F.acc = .rc ∧
      ownRead a = false) ∧
    (∃ (s : State) (a : Nat), running s.b = true ∧ findReg a = none) :=
  ⟨⟨dev .run [], 4, by decide +kernel⟩,
   ⟨dev .run [(HOST_PORT_CFG.CLASS, 3, 3)], 3, by decide +kernel⟩,
   ⟨dev .run [], 0x40110100, clean_words (by decide +kernel), by decide +kernel⟩,
   ⟨dev .run [], 4, 0x40000004, by decide +kernel⟩,
   ⟨dev .run [(BERTH_FT_STAT.FT_COUNT, 1, 65535)], 0x40010184, ((findReg 0x40010184).getD (⟨0, 0, 0, []⟩, 0)).1, 1,
     BERTH_FT_STAT.FT_COUNT, by decide +kernel⟩,
   ⟨dev .run [], 2, by decide +kernel⟩⟩

theorem test_ReadsLatchAndWritesWait_WritesWaitForTheEdge :
    (∃ (s : State) (a : Nat) (v : Nat), running s.b = true ∧ mapped a = true) ∧
    (∃ (s : State) (a : Nat) (v : Nat), running s.b = true ∧ mapped a = false) ∧
    (∃ (s : State) (a : Nat) (v : Nat) (p : Fin 4), running s.b = true ∧ portUp s.b p = true ∧ winListed a = true ∧ a % 4 = 0) ∧
    (∃ (s : State) (a : Nat) (v : Nat) (p : Nat), running s.b = true ∧ (portUp s.b p = false ∨ winAccepts s.b p a 4 = false)) ∧
    (∃ (t : Nat) (m : Mem) (b : Blk) (o : Nat) (v : Nat), b.staged = [⟨.pilot, o, FEED_VNET_WIN.QUAL.base, v⟩]) :=
  ⟨⟨dev .run [], 0x40010000, 7, by decide +kernel⟩,
   ⟨dev .run [], 0x3FFFFFFC, 7, by decide +kernel⟩,
   ⟨dev .run [(HOST_PORT_CFG.CLASS, 3, 1)], 0x20, 1, 3, by decide +kernel⟩,
   ⟨dev .run [], 0, 0, 4, by decide +kernel⟩,
   ⟨7, {}, { staged := [⟨.pilot, 3, FEED_VNET_WIN.QUAL.base, 9⟩] }, 3, 9, by decide +kernel⟩⟩

theorem test_BerthFollowsItsOnBit_BerthOnRequestActs :
    (∃ (s : State) (nn : Fin 32) (o : Fin 4), running s.b = true ∧ s.b.barred (22 + nn) = false ∧ s.b.bst nn = bOFF ∧ Fresh s (.berth
      nn)) ∧
    (∃ (s : State) (nn : Fin 32) (o : Fin 4), running s.b = true ∧ s.b.barred (22 + nn) = false ∧ (s.b.bst nn = bPENDING ∨ s.b.bst nn =
      bINRUSH ∨ s.b.bst nn = bON ∨ s.b.bst nn = bHELD)) ∧
    (∃ (s : State) (nn : Fin 32) (o : Fin 4), running s.b = true ∧ (s.b.safeNow = true ∨ s.b.lineBars (22 + nn) = true)) :=
  ⟨⟨dev .run [(BERTH_STATE.STATE, 31, 0)], 31, 3, by decide +kernel⟩,
   ⟨dev .run [(BERTH_STATE.STATE, 31, 1)], 31, 3, by decide +kernel⟩,
   ⟨dev .safe [], 31, 3, by decide +kernel⟩⟩

theorem test_BerthFollowsItsOnBit_BerthOffRequestActs :
    (∃ (s : State) (nn : Fin 32) (o : Fin 4), running s.b = true ∧ Fresh s (.berth nn) ∧ s.b.bst nn = bPENDING) ∧
    (∃ (s : State) (nn : Fin 32) (o : Fin 4), running s.b = true ∧ Fresh s (.berth nn) ∧ (s.b.bst nn = bINRUSH ∨ s.b.bst nn = bON ∨
      s.b.bst nn = bHELD)) ∧
    (∃ (s : State) (nn : Fin 32) (o : Fin 4), running s.b = true ∧ Fresh s (.berth nn) ∧ (s.b.bst nn = bTRIPPED ∨ s.b.bst nn = bLOCKED)) ∧
    (∃ (s : State) (nn : Fin 32) (o : Fin 4), running s.b = true ∧ Fresh s (.berth nn) ∧ s.b.bst nn = bOFF) :=
  ⟨⟨dev .run [(BERTH_STATE.STATE, 31, 1)], 31, 3, by decide +kernel⟩,
   ⟨dev .run [(BERTH_STATE.STATE, 31, 2)], 31, 3, by decide +kernel⟩,
   ⟨dev .run [(BERTH_STATE.STATE, 31, 4)], 31, 3, by decide +kernel⟩,
   ⟨dev .run [(BERTH_STATE.STATE, 31, 0)], 31, 3, by decide +kernel⟩⟩

theorem test_ToggleReArmsOrIsRefused :
    (∃ (s : State) (nn : Fin 32) (o : Fin 4) (z : Nat), running s.b = true ∧ s.b.barred (22 + nn) = false ∧ (s.b.brt nn).zeroAt = some z
      ∧ z < s.tick ∧ s.b.bst nn = bTRIPPED ∧ s.b.dev = .run ∧ (s.b.brt nn).tc < s.b.twRearm nn * 6553600) ∧
    (∃ (s : State) (nn : Fin 32) (o : Fin 4) (z : Nat), running s.b = true ∧ s.b.barred (22 + nn) = false ∧ (s.b.brt nn).zeroAt = some z
      ∧ z < s.tick ∧ s.b.bst nn = bLOCKED ∧ (o = 1 ∨ o = 2) ∧ s.b.dev = .run ∧ (s.b.brt nn).tc < s.b.twRearm nn * 6553600) ∧
    (∃ (s : State) (nn : Fin 32) (o : Fin 4) (z : Nat), running s.b = true ∧ s.b.barred (22 + nn) = false ∧ (s.b.brt nn).zeroAt = some z
      ∧ z < s.tick ∧ (s.b.bst nn = bTRIPPED ∨ s.b.bst nn = bLOCKED) ∧ toggleReason s.b nn o ≠ 0) ∧
    (∃ (s : State) (nn : Fin 32) (o : Fin 4) (z : Nat), running s.b = true ∧ s.b.barred (22 + nn) = false ∧ (s.b.brt nn).zeroAt = some z
      ∧ z < s.tick ∧ s.b.bst nn = bLOCKED ∧ (o = 0 ∨ o = 3)) ∧
    (∃ (s : State) (nn : Fin 32) (o : Fin 4) (z : Nat), running s.b = true ∧ s.b.barred (22 + nn) = false ∧ (s.b.brt nn).zeroAt = some z
      ∧ z < s.tick ∧ s.b.bst nn = bTRIPPED ∧ s.b.dev ≠ .run) ∧
    (∃ (s : State) (nn : Fin 32) (o : Fin 4) (z : Nat), running s.b = true ∧ s.b.barred (22 + nn) = false ∧ (s.b.brt nn).zeroAt = some z
      ∧ z < s.tick ∧ s.b.bst nn = bTRIPPED ∧ s.b.dev = .run ∧ s.b.twRearm nn * 6553600 ≤ (s.b.brt nn).tc) :=
  ⟨⟨{ dev .run [(BERTH_STATE.STATE, 31, 4)] 3 with b.berth := [(31, { zeroAt := some 2 })] }, 31, 3, 2, by decide +kernel⟩,
   ⟨{ dev .run [(BERTH_STATE.STATE, 31, 5)] 3 with b.berth := [(31, { zeroAt := some 2 })] }, 31, 1, 2, by decide +kernel⟩,
   ⟨{ dev .run [(BERTH_STATE.STATE, 31, 4)] 3 with b.berth := [(31, { zeroAt := some 2, tc := 1000000000000 })] }, 31, 3, 2,
     by decide +kernel⟩,
   ⟨{ dev .run [(BERTH_STATE.STATE, 31, 5)] 3 with b.berth := [(31, { zeroAt := some 2 })] }, 31, 0, 2, by decide +kernel⟩,
   ⟨{ dev .ready [(BERTH_STATE.STATE, 31, 4)] 3 with b.berth := [(31, { zeroAt := some 2 })] }, 31, 3, 2, by decide +kernel⟩,
   ⟨{ dev .run [(BERTH_STATE.STATE, 31, 4)] 3 with b.berth := [(31, { zeroAt := some 2, tc := 1000000000000 })] }, 31, 3, 2,
     by decide +kernel⟩⟩

theorem test_ToggleReArmsOrIsRefused_BerthWaitsEnd :
    (∃ (s : State) (nn : Fin 32), running s.b = true ∧ (s.b.brt nn).holding = true ∧ (s.b.brt nn).holdLeft = 0) ∧
    (∃ (s : State) (nn : Fin 32), running s.b = true ∧ 0 < (s.b.brt nn).holdLeft) ∧
    (∃ (s : State) (nn : Fin 32), running s.b = true ∧ (s.b.brt nn).winLeft = some 0) ∧
    (∃ (s : State) (nn : Fin 32), running s.b = true ∧ (s.b.brt nn).winLeft ≠ some 0) :=
  ⟨⟨{ dev .run [] with b.berth := [(31, { holding := true, holdLeft := 0 })] }, 31, by decide +kernel⟩,
   ⟨{ dev .run [] with b.berth := [(31, { holdLeft := 1 })] }, 31, by decide +kernel⟩,
   ⟨{ dev .run [] with b.berth := [(31, { winLeft := some 0 })] }, 31, by decide +kernel⟩,
   ⟨dev .run [], 31, by decide +kernel⟩⟩

theorem test_TokensServeAndInrushEnds_TokenGrantServesByClass :
    (∃ (s : State) (nn : Fin 32), running s.b = true ∧ s.b.safeNow = false ∧ (∀ tok < 6, tokenHeld s.tick s.b tok = false) ∧ (∀ m : Fin
      32, s.b.bst m = bPENDING → Fresh s (.berth m)) ∧ s.b.bst nn = bPENDING ∧ (s.b.brt nn).holding = false ∧ (∀ m : Fin 32, s.b.bst m =
      bPENDING → (s.b.brt m).holding = false → s.b.f BERTH_CFG.CLASS nn < s.b.f BERTH_CFG.CLASS m ∨ (s.b.f BERTH_CFG.CLASS nn = s.b.f
      BERTH_CFG.CLASS m ∧ nn ≤ m))) ∧
    (∃ (s : State) (nn : Fin 32), running s.b = true ∧ s.b.safeNow = false ∧ s.b.bst nn ≠ bPENDING) ∧
    (∃ (s : State), running s.b = true ∧ s.b.safeNow = false ∧ (∀ nn : Fin 32, s.b.bst nn ≠ bPENDING)) :=
  ⟨⟨{ dev .run [(BERTH_STATE.STATE, 31, 1), (BERTH_STATE.STATE, 30, 1), (BERTH_CFG.CLASS, 30, 3), (BERTH_CFG.CLASS, 31, 2)] with b.berth := [(31, { holding := false })] },
     31, by decide +kernel⟩,
   ⟨dev .run [(BERTH_STATE.STATE, 31, 2)], 31, by decide +kernel⟩,
   ⟨dev .run [], by decide +kernel⟩⟩

theorem test_TokensServeAndInrushEnds_InrushEnds :
    (∃ (s : State) (nn : Fin 32), running s.b = true ∧ Fresh s (.berth nn) ∧ s.b.bst nn = bINRUSH ∧ 16 ≤ (s.b.brt nn).done ∧ s.b.f
      BERTH_PSTAT.FT_LATCH nn = 0) ∧
    (∃ (s : State) (nn : Fin 32), running s.b = true ∧ Fresh s (.berth nn) ∧ s.b.bst nn = bINRUSH ∧ (s.b.brt nn).done < 16 ∧ s.b.f
      BERTH_INRUSH_T.TMAX nn * 2000 < (s.b.brt nn).inTicks) ∧
    (∃ (s : State) (nn : Fin 32), running s.b = true ∧ Fresh s (.berth nn) ∧ s.b.bst nn = bINRUSH ∧ (s.b.brt nn).inTicks ≤ s.b.f
      BERTH_INRUSH_T.TMAX nn * 2000) :=
  ⟨⟨{ dev .run [(BERTH_STATE.STATE, 31, 2), (BERTH_PSTAT.FT_LATCH, 31, 0)] with b.berth := [(31, { done := 16 })] }, 31,
     by decide +kernel⟩,
   ⟨{ dev .run [(BERTH_STATE.STATE, 31, 2), (BERTH_INRUSH_T.TMAX, 31, 1)] with b.berth := [(31, { done := 15, inTicks := 2001 })] }, 31,
     by decide +kernel⟩,
   ⟨dev .run [(BERTH_STATE.STATE, 31, 2)], 31, by decide +kernel⟩⟩

theorem test_TokensServeAndInrushEnds_HeldBerthsReleaseBelowHoldMinimum :
    (∃ (s : State) (nn : Fin 32), running s.b = true ∧ s.b.sig (.cal 0x70) * 2 < 7000 ∧ s.b.bst nn = bHELD ∧ Fresh s (.berth nn)) ∧
    (∃ (s : State) (nn : Fin 32), running s.b = true ∧ s.b.sig (.cal 0x70) * 2 < 7000 ∧ s.b.bst nn ≠ bHELD ∧ Fresh s (.berth nn)) ∧
    (∃ (s : State), running s.b = true ∧ 7000 ≤ s.b.sig (.cal 0x70) * 2) :=
  ⟨⟨{ dev .run [(BERTH_STATE.STATE, 31, 6)] with b.env := envOf [(.cal 0x70, 3499)] }, 31, by decide +kernel⟩,
   ⟨{ dev .run [(BERTH_STATE.STATE, 31, 7)] with b.env := envOf [(.cal 0x70, 3499)] }, 31, by decide +kernel⟩,
   ⟨{ dev .run [] with b.env := envOf [(.cal 0x70, 3500)] }, by decide +kernel⟩⟩

theorem test_FastTripLatchesAndSinks :
    (∃ (s : State) (nn : Fin 32) (uv : Int), running s.b = true ∧ Fresh s (.berth nn) ∧ ((s.b.bst nn = bINRUSH ∨ s.b.bst nn = bON) ∧
      (s.b.ftApplied BERTH_FT.FT_CODE nn : Int) * 500 < uv ∨ s.b.bst nn = bHELD ∧ (s.b.ftApplied BERTH_FT.FT_HELD nn : Int) * 500 < uv)) ∧
    (∃ (s : State) (nn : Fin 32) (uv : Int), running s.b = true ∧ Fresh s (.berth nn) ∧ (s.b.bst nn = bINRUSH ∨ s.b.bst nn = bON) ∧
      s.b.f BERTH_FT.REV_EN nn = 1 ∧ uv < -((s.b.ftApplied BERTH_FT.FT_CODE nn : Int) * 500)) ∧
    (∃ (s : State) (nn : Fin 32) (uv : Int), running s.b = true ∧ Fresh s (.berth nn) ∧ s.b.bst nn = bHELD ∧ s.b.f BERTH_FT.REV_EN nn =
      1 ∧ uv < -((s.b.ftApplied BERTH_FT.FT_HELD nn : Int) * 500)) ∧
    (∃ (s : State) (nn : Fin 32) (uv : Int), running s.b = true ∧ Fresh s (.berth nn) ∧ (s.b.bst nn = bINRUSH ∨ s.b.bst nn = bON) ∧ 0 ≤
      uv ∧ uv ≤ (s.b.ftApplied BERTH_FT.FT_CODE nn : Int) * 500) ∧
    (∃ (s : State) (nn : Fin 32) (uv : Int), running s.b = true ∧ Fresh s (.berth nn) ∧ s.b.bst nn = bHELD ∧ 0 ≤ uv ∧ uv ≤
      (s.b.ftApplied BERTH_FT.FT_HELD nn : Int) * 500) ∧
    (∃ (s : State) (nn : Fin 32) (uv : Int), running s.b = true ∧ Fresh s (.berth nn) ∧ (s.b.bst nn = bOFF ∨ s.b.bst nn = bPENDING ∨
      s.b.bst nn = bTRIPPED ∨ s.b.bst nn = bLOCKED)) :=
  ⟨⟨dev .run [(BERTH_STATE.STATE, 31, 2), (BERTH_FT.FT_CODE, 31, 8), (BERTH_PLIM.FT_MAX, 31, 200)], 31, 4001, by decide +kernel⟩,
   ⟨dev .run [(BERTH_STATE.STATE, 31, 2), (BERTH_FT.REV_EN, 31, 1), (BERTH_FT.FT_CODE, 31, 200), (BERTH_PLIM.FT_MAX, 31, 200)], 31,
     -100001, by decide +kernel⟩,
   ⟨dev .run [(BERTH_STATE.STATE, 31, 6), (BERTH_FT.REV_EN, 31, 1), (BERTH_FT.FT_HELD, 31, 200), (BERTH_PLIM.FT_MAX, 31, 200)], 31,
     -100001, by decide +kernel⟩,
   ⟨dev .run [(BERTH_STATE.STATE, 31, 2), (BERTH_FT.FT_CODE, 31, 8)], 31, 4000, by decide +kernel⟩,
   ⟨dev .run [(BERTH_STATE.STATE, 31, 6), (BERTH_FT.FT_HELD, 31, 8)], 31, 4000, by decide +kernel⟩,
   ⟨dev .run [(BERTH_STATE.STATE, 31, 0)], 31, 0, by decide +kernel⟩⟩

theorem test_FastTripLatchesAndSinks_TripLatchRefusesGateDrive :
    ∃ (b : Blk) (nn : Fin 32) (st : Nat) (g : Gate), b.f BERTH_PSTAT.FT_LATCH nn = 1 :=
  ⟨{ regs := regsOf [(BERTH_PSTAT.FT_LATCH, 31, 1)] }, 31, 0, .full, by decide +kernel⟩

theorem test_FeedsBlockAndVnetIsWatched_FeedsBlockAndRearm :
    (∃ (s : State) (n : Fin 2) (uv : Int), uv < -((s.b.f FEED_CFG.REV_MV n : Int) * 1000) ∧ (s.b.fd n).blocked = false ∧ s.b.f
      FEED_STATUS.STATE n ≠ 3) ∧
    (∃ (s : State) (n : Fin 2) (uv : Int), -((s.b.f FEED_CFG.REV_MV n : Int) * 1000) ≤ uv) ∧
    (∃ (s : State) (n : Fin 2), (s.b.fd n).blocked = true ∧ 2 ≤ (s.b.fd n).rearm) ∧
    (∃ (s : State) (n : Fin 2), (s.b.fd n).rearm < 2) ∧
    (∃ (s : State) (n : Fin 2), running s.b = true ∧ s.b.f FEED_STATUS.STATE n = 3) :=
  ⟨⟨{ dev .run [(FEED_STATUS.STATE, 1, 4), (FEED_CFG.REV_MV, 1, 5)] with b.feed := [(1, { blocked := false })] }, 1, -5001,
     by decide +kernel⟩,
   ⟨dev .run [(FEED_CFG.REV_MV, 1, 5)], 1, -5000, by decide +kernel⟩,
   ⟨{ dev .run [] with b.feed := [(1, { blocked := true, rearm := 2 })] }, 1, by decide +kernel⟩,
   ⟨{ dev .run [] with b.feed := [(1, { rearm := 1 })] }, 1, by decide +kernel⟩,
   ⟨dev .run [(FEED_STATUS.STATE, 1, 3)], 1, by decide +kernel⟩⟩

theorem test_FeedsBlockAndVnetIsWatched_VnetSourcesOncePerRun :
    (∃ (s : State), running s.b = true ∧ atLeast1 (s.b.f FEED_VNET_WIN.QUAL 0) ≤ s.b.vnetUv.n ∧ s.b.vnetUv.raised = false) ∧
    (∃ (s : State), running s.b = true ∧ s.b.vnetUv.raised = true) ∧
    (∃ (s : State), running s.b = true ∧ s.b.vnetUv.n < s.b.f FEED_VNET_WIN.QUAL 0) ∧
    (∃ (s : State), running s.b = true ∧ atLeast1 (s.b.f FEED_VNET_WIN.QUAL 0) ≤ s.b.vnetOv.n ∧ s.b.vnetOv.raised = false) ∧
    (∃ (s : State), running s.b = true ∧ s.b.vnetOv.raised = true) ∧
    (∃ (s : State), running s.b = true ∧ s.b.vnetOv.n < s.b.f FEED_VNET_WIN.QUAL 0) :=
  ⟨⟨{ dev .run [(FEED_VNET_WIN.QUAL, 0, 0)] with b.vnetUv := { n := 1, raised := false } }, by decide +kernel⟩,
   ⟨{ dev .run [] with b.vnetUv := { raised := true } }, by decide +kernel⟩,
   ⟨{ dev .run [(FEED_VNET_WIN.QUAL, 0, 3)] with b.vnetUv := { n := 2 } }, by decide +kernel⟩,
   ⟨{ dev .run [(FEED_VNET_WIN.QUAL, 0, 0)] with b.vnetOv := { n := 1, raised := false } }, by decide +kernel⟩,
   ⟨{ dev .run [] with b.vnetOv := { raised := true } }, by decide +kernel⟩,
   ⟨{ dev .run [(FEED_VNET_WIN.QUAL, 0, 3)] with b.vnetOv := { n := 2 } }, by decide +kernel⟩⟩

theorem test_LoopFollowsItsEnable_LoopEnableBeginsPrecheck :
    (∃ (s : State) (n : Fin 8), running s.b = true ∧ Fresh s (.loop n) ∧ s.b.barred n = false ∧ s.b.lst n = lDISABLED) ∧
    (∃ (s : State) (n : Fin 8), running s.b = true ∧ Fresh s (.loop n) ∧ s.b.barred n = false ∧ s.b.lst n ≠ lDISABLED) ∧
    (∃ (s : State) (n : Fin 8), running s.b = true ∧ Fresh s (.loop n) ∧ (s.b.safeNow = true ∨ s.b.lineBars n = true)) :=
  ⟨⟨dev .run [(LOOP_STATE.STATE, 7, 0)], 7, by decide +kernel⟩,
   ⟨dev .run [(LOOP_STATE.STATE, 7, 1)], 7, by decide +kernel⟩,
   ⟨dev .safe [], 7, by decide +kernel⟩⟩

theorem test_LoopFollowsItsEnable_LoopDisableStops :
    (∃ (s : State) (n : Fin 8), running s.b = true ∧ Fresh s (.loop n) ∧ s.b.lst n = lFAULTED) ∧
    (∃ (s : State) (n : Fin 8), running s.b = true ∧ Fresh s (.loop n) ∧ (s.b.lst n = lPRECHECK ∨ s.b.f LOOP_CFG.STOP_MODE n = 1 ∧
      (s.b.lst n = lSOFTSTART ∨ s.b.lst n = lREGULATING ∨ s.b.lst n = lBURST ∨ s.b.lst n = lOPEN ∨ s.b.lst n = lSTOPPING))) ∧
    (∃ (s : State) (n : Fin 8), running s.b = true ∧ Fresh s (.loop n) ∧ s.b.f LOOP_CFG.STOP_MODE n = 0 ∧ (s.b.lst n = lSOFTSTART ∨
      s.b.lst n = lREGULATING ∨ s.b.lst n = lBURST ∨ s.b.lst n = lOPEN)) ∧
    (∃ (s : State) (n : Fin 8), running s.b = true ∧ Fresh s (.loop n) ∧ (s.b.lst n = lDISABLED ∨ s.b.lst n = lSTOPPING ∧ s.b.f
      LOOP_CFG.STOP_MODE n = 0)) :=
  ⟨⟨dev .run [(LOOP_STATE.STATE, 7, 6)], 7, by decide +kernel⟩,
   ⟨dev .run [(LOOP_STATE.STATE, 7, 1)], 7, by decide +kernel⟩,
   ⟨dev .run [(LOOP_CFG.STOP_MODE, 7, 0), (LOOP_STATE.STATE, 7, 2)], 7, by decide +kernel⟩,
   ⟨dev .run [(LOOP_STATE.STATE, 7, 0)], 7, by decide +kernel⟩⟩

theorem test_LoopStartsAndMovesComplete_LoopStartAdvances :
    (∃ (s : State) (n : Fin 8), running s.b = true ∧ Fresh s (.loop n) ∧ s.b.lst n = lPRECHECK ∧ 400 ≤ (s.b.lp n).preTicks) ∧
    (∃ (s : State) (n : Fin 8), running s.b = true ∧ Fresh s (.loop n) ∧ (s.b.lp n).preTicks < 400) ∧
    (∃ (s : State) (n : Fin 8), running s.b = true ∧ Fresh s (.loop n) ∧ s.b.lst n = lSOFTSTART ∧ 16 ≤ (s.b.lp n).inside) ∧
    (∃ (s : State) (n : Fin 8), running s.b = true ∧ Fresh s (.loop n) ∧ (s.b.lp n).inside < 16) :=
  ⟨⟨{ dev .run [(LOOP_STATE.STATE, 7, 1)] with b.loop := [(7, { preTicks := 400 })] }, 7, by decide +kernel⟩,
   ⟨{ dev .run [] with b.loop := [(7, { preTicks := 399 })] }, 7, by decide +kernel⟩,
   ⟨{ dev .run [(LOOP_STATE.STATE, 7, 2)] with b.loop := [(7, { inside := 16 })] }, 7, by decide +kernel⟩,
   ⟨{ dev .run [] with b.loop := [(7, { inside := 15 })] }, 7, by decide +kernel⟩⟩

theorem test_LoopStartsAndMovesComplete_ProfileCompleteEndsMoveAndStop :
    (∃ (s : State) (k : Fin 15) (n : Fin 8), running s.b = true ∧ k.val = n.val ∧ profDone s.tick s.b n = true ∧ s.b.lst n ≠ lSTOPPING) ∧
    (∃ (s : State) (k : Fin 15) (n : Fin 8), running s.b = true ∧ k.val = n.val ∧ profDone s.tick s.b n = true ∧ s.b.lst n = lSTOPPING ∧
      Fresh s (.loop n)) ∧
    (∃ (s : State) (k : Fin 15) (n : Fin 8), running s.b = true ∧ k.val = n.val ∧ profDone s.tick s.b n = false) ∧
    (∃ (s : State) (k : Fin 15), running s.b = true ∧ 8 ≤ k.val ∧ k.val < 14) :=
  ⟨⟨{ dev .run [(LOOP_STATE.STATE, 7, 3)] with b.loop := [(7, { prof := {} })] }, 7, 7, by decide +kernel⟩,
   ⟨{ dev .run [(LOOP_STATE.STATE, 7, 7)] with b.loop := [(7, { prof := {} })] }, 7, 7, by decide +kernel⟩,
   ⟨{ dev .run [] with b.loop := [(7, { prof := { v := 1 } })] }, 7, 7, by decide +kernel⟩,
   ⟨dev .run [], 13, by decide +kernel⟩⟩

theorem test_LoopShedsBurstsAndMoves_PhaseShedTakesHighestRank :
    (∃ (s : State) (n : Fin 8) (p : Fin 24), running s.b = true ∧ s.b.f LOOP_SHED_N.SHED_BEATS n ≤ (s.b.lp n).shedBeats ∧ s.b.f
      LOOP_SHED.SHED_A n ≠ 0 ∧ s.b.f LOOP_SHED_N.NMIN n < (activePhases s.b n).length ∧ (s.b.lst n = lSOFTSTART ∨ s.b.lst n =
      lREGULATING ∨ s.b.lst n = lBURST ∨ s.b.lst n = lSTOPPING) ∧ p.val ∈ activePhases s.b n ∧ (∀ q ∈ activePhases s.b n, s.b.f
      PHASE_CFG.SHED_RANK q < s.b.f PHASE_CFG.SHED_RANK p ∨ s.b.f PHASE_CFG.SHED_RANK q = s.b.f PHASE_CFG.SHED_RANK p ∧ q ≤ p)) ∧
    (∃ (s : State) (n : Fin 8), running s.b = true ∧ (s.b.lp n).shedBeats < s.b.f LOOP_SHED_N.SHED_BEATS n) ∧
    (∃ (s : State) (n : Fin 8), running s.b = true ∧ (activePhases s.b n).length ≤ s.b.f LOOP_SHED_N.NMIN n) :=
  ⟨⟨{ dev .run [(LOOP_SHED_N.SHED_BEATS, 7, 2), (LOOP_SHED.SHED_A, 7, 1), (LOOP_STATE.STATE, 7, 2), (LOOP_SHED_N.NMIN, 7, 1),
     (PHASE_CFG.LOOP, 22, 7), (PHASE_CFG.LOOP, 23, 7), (PHASE_STAT.ACTIVE, 22, 1), (PHASE_STAT.ACTIVE, 23, 1)] with b.loop := [(7, { shedBeats := 2 })] },
     7, 23, by decide +kernel⟩,
   ⟨{ dev .run [(LOOP_SHED_N.SHED_BEATS, 7, 3)] with b.loop := [(7, { shedBeats := 2 })] }, 7, by decide +kernel⟩,
   ⟨dev .run [], 7, by decide +kernel⟩⟩

theorem test_LoopShedsBurstsAndMoves_BurstEntryNeedsIdleLoop :
    (∃ (s : State) (n : Fin 8), running s.b = true ∧ Fresh s (.loop n) ∧ s.b.lst n = lREGULATING ∧ s.b.f LOOP_CFG.BURST_EN n = 1 ∧
      (activePhases s.b n).length = s.b.f LOOP_SHED_N.NMIN n ∧ s.b.f LOOP_SHED_N.SHED_BEATS n ≤ (s.b.lp n).burstBeats ∧ s.b.f
      LOOP_STATE.MOVING n = 0) ∧
    (∃ (s : State) (n : Fin 8), running s.b = true ∧ Fresh s (.loop n) ∧ (s.b.lst n ≠ lREGULATING ∨ s.b.f LOOP_CFG.BURST_EN n = 0 ∨
      s.b.f LOOP_STATE.MOVING n = 1)) :=
  ⟨⟨{ dev .run [(LOOP_STATE.STATE, 7, 3), (LOOP_CFG.BURST_EN, 7, 1), (LOOP_SHED_N.SHED_BEATS, 7, 2), (LOOP_STATE.MOVING, 7, 0),
     (LOOP_SHED_N.NMIN, 7, 1), (PHASE_CFG.LOOP, 23, 7), (PHASE_STAT.ACTIVE, 23, 1)] with b.loop := [(7, { burstBeats := 2 })] }, 7,
     by decide +kernel⟩,
   ⟨dev .run [(LOOP_STATE.STATE, 7, 4)], 7, by decide +kernel⟩⟩

theorem test_LoopShedsBurstsAndMoves_QualifiedIndexStartsMove :
    (∃ (s : State) (n : Fin 8), running s.b = true ∧ s.b.f LOOP_CFG.VSEL_QUAL n + 1 ≤ (s.b.lp n).rawRun ∧ (s.b.lp n).enfIdx = none ∧
      s.b.f LOOP_CTL.FORCE_EN n = 0 ∧ s.b.f LOOP_STATE.RAW_IDX n ≠ s.b.f LOOP_STATE.IDX n ∧ (s.b.lst n = lSOFTSTART ∨ s.b.lst n =
      lREGULATING)) ∧
    (∃ (s : State) (n : Fin 8), running s.b = true ∧ s.b.f LOOP_CFG.VSEL_QUAL n + 1 ≤ (s.b.lp n).rawRun ∧ (s.b.lp n).enfIdx = some
      (s.b.f LOOP_STATE.IDX n)) ∧
    (∃ (s : State) (n : Fin 8), running s.b = true ∧ s.b.f LOOP_CFG.VSEL_QUAL n + 1 ≤ (s.b.lp n).rawRun ∧ (s.b.lp n).enfIdx = none ∧
      s.b.f LOOP_CTL.FORCE_EN n = 1 ∧ s.b.f LOOP_CTL.FORCE_IDX n = s.b.f LOOP_STATE.IDX n) :=
  ⟨⟨{ dev .run [(LOOP_CTL.FORCE_EN, 7, 0), (LOOP_STATE.RAW_IDX, 7, 1), (LOOP_STATE.IDX, 7, 0), (LOOP_STATE.STATE, 7, 2),
     (LOOP_CFG.VSEL_QUAL, 7, 3)] with b.loop := [(7, { enfIdx := none, rawRun := 4 })] }, 7, by decide +kernel⟩,
   ⟨{ dev .run [(LOOP_CFG.VSEL_QUAL, 7, 3), (LOOP_STATE.IDX, 7, 5)] with b.loop := [(7, { rawRun := 4, enfIdx := some 5 })] }, 7,
     by decide +kernel⟩,
   ⟨{ dev .run [(LOOP_CTL.FORCE_EN, 7, 1), (LOOP_CTL.FORCE_IDX, 7, 0), (LOOP_STATE.IDX, 7, 0), (LOOP_CFG.VSEL_QUAL, 7, 3)] with b.loop := [(7, { enfIdx := none, rawRun := 4 })] },
     7, by decide +kernel⟩⟩

theorem test_RailAndEngineFaultsAct_RailFaultsStopTheLoop :
    (∃ (s : State) (n : Fin 8), running s.b = true ∧ Fresh s (.loop n) ∧ (s.b.lst n = lSOFTSTART ∨ s.b.lst n = lREGULATING ∨ s.b.lst n =
      lBURST ∨ s.b.lst n = lOPEN ∨ s.b.lst n = lSTOPPING) ∧ atLeast1 (s.b.f LOOP_WIN.QUAL n) ≤ (s.b.lp n).ov) ∧
    (∃ (s : State) (n : Fin 8), running s.b = true ∧ Fresh s (.loop n) ∧ (s.b.lst n = lSOFTSTART ∨ s.b.lst n = lREGULATING ∨ s.b.lst n =
      lBURST ∨ s.b.lst n = lOPEN ∨ s.b.lst n = lSTOPPING) ∧ atLeast1 (s.b.f LOOP_ILIM2.OC_QUAL n) ≤ (s.b.lp n).oc) ∧
    (∃ (s : State) (n : Fin 8), running s.b = true ∧ Fresh s (.loop n) ∧ (s.b.lst n = lSOFTSTART ∨ s.b.lst n = lREGULATING ∨ s.b.lst n =
      lBURST ∨ s.b.lst n = lOPEN ∨ s.b.lst n = lSTOPPING) ∧ s.b.lst n ≠ lSTOPPING ∧ atLeast1 (s.b.f LOOP_WIN.QUAL n) ≤ (s.b.lp n).uv) ∧
    (∃ (s : State) (n : Fin 8), running s.b = true ∧ Fresh s (.loop n) ∧ (s.b.lst n = lSOFTSTART ∨ s.b.lst n = lREGULATING ∨ s.b.lst n =
      lBURST ∨ s.b.lst n = lOPEN ∨ s.b.lst n = lSTOPPING) ∧ s.b.lst n = lSTOPPING) ∧
    (∃ (s : State) (n : Fin 8), running s.b = true ∧ Fresh s (.loop n) ∧ s.b.lst n = lOPEN ∧ 2000 < (s.b.lp n).openFor) ∧
    (∃ (s : State) (n : Fin 8), running s.b = true ∧ Fresh s (.loop n) ∧ (s.b.lp n).openFor ≤ 2000) ∧
    (∃ (s : State) (n : Fin 8), running s.b = true ∧ Fresh s (.loop n) ∧ (s.b.lp n).ov < s.b.f LOOP_WIN.QUAL n) ∧
    (∃ (s : State) (n : Fin 8), running s.b = true ∧ Fresh s (.loop n) ∧ (s.b.lp n).oc < s.b.f LOOP_ILIM2.OC_QUAL n) :=
  ⟨⟨{ dev .run [(LOOP_STATE.STATE, 7, 2), (LOOP_WIN.QUAL, 7, 0)] with b.loop := [(7, { ov := 1 })] }, 7, by decide +kernel⟩,
   ⟨{ dev .run [(LOOP_STATE.STATE, 7, 2), (LOOP_ILIM2.OC_QUAL, 7, 0)] with b.loop := [(7, { oc := 1 })] }, 7, by decide +kernel⟩,
   ⟨{ dev .run [(LOOP_STATE.STATE, 7, 2), (LOOP_WIN.QUAL, 7, 0)] with b.loop := [(7, { uv := 1 })] }, 7, by decide +kernel⟩,
   ⟨dev .run [(LOOP_STATE.STATE, 7, 7)], 7, by decide +kernel⟩,
   ⟨{ dev .run [(LOOP_STATE.STATE, 7, 5)] with b.loop := [(7, { openFor := 2001 })] }, 7, by decide +kernel⟩,
   ⟨{ dev .run [] with b.loop := [(7, { openFor := 2000 })] }, 7, by decide +kernel⟩,
   ⟨{ dev .run [(LOOP_WIN.QUAL, 7, 3)] with b.loop := [(7, { ov := 2 })] }, 7, by decide +kernel⟩,
   ⟨{ dev .run [(LOOP_ILIM2.OC_QUAL, 7, 3)] with b.loop := [(7, { oc := 2 })] }, 7, by decide +kernel⟩⟩

theorem test_RailAndEngineFaultsAct_StructuralVerdictAttributesTheFault :
    (∃ (s : State), running s.b = true ∧ s.b.f ENG_OFFLINE.RESULT 0 = 1 ∧ s.b.sparesLeft 5 ≠ 0) ∧
    (∃ (s : State), running s.b = true ∧ s.b.f ENG_OFFLINE.RESULT 0 = 1 ∧ s.b.sparesLeft 5 = 0) ∧
    (∃ (s : State) (p : Bool), running s.b = true ∧ s.b.f ENG_OFFLINE.RESULT 0 ≠ 1) :=
  ⟨⟨dev .run [(ENG_OFFLINE.RESULT, 0, 1)], by decide +kernel⟩,
   ⟨{ dev .run [(ENG_OFFLINE.RESULT, 0, 1)] with b.otp := [(1064, 2), (5160, 2), (9256, 2)] }, by decide +kernel⟩,
   ⟨dev .run [(ENG_OFFLINE.RESULT, 0, 0)], true, by decide +kernel⟩⟩

theorem test_LoopOpensAndIsRetuned_LoopOpensAndReleases :
    (∃ (s : State) (n : Fin 8), running s.b = true ∧ Fresh s (.loop n) ∧ (s.b.lst n = lSOFTSTART ∨ s.b.lst n = lREGULATING ∨ s.b.lst n =
      lBURST)) ∧
    (∃ (s : State) (n : Fin 8), running s.b = true ∧ Fresh s (.loop n) ∧ s.b.lst n = lOPEN ∧ s.b.f ENG_LOOP_CTL.OPEN_REQ n = 0 ∧ s.b.f
      ENG_LOOP_STAT.POISON n = 0 ∧ (s.b.f ENG_LOOP_STAT.OPEN_SRC n = 1 ∨ (s.b.lp n).samplePoison = false)) ∧
    (∃ (s : State) (n : Fin 8), running s.b = true ∧ Fresh s (.loop n) ∧ s.b.f ENG_LOOP_CTL.OPEN_REQ n = 1) ∧
    (∃ (s : State) (n : Fin 8), running s.b = true ∧ Fresh s (.loop n) ∧ s.b.f ENG_LOOP_STAT.POISON n ≠ 0) :=
  ⟨⟨dev .run [(LOOP_STATE.STATE, 7, 2)], 7, by decide +kernel⟩,
   ⟨dev .run [(LOOP_STATE.STATE, 7, 5), (ENG_LOOP_CTL.OPEN_REQ, 7, 0), (ENG_LOOP_STAT.POISON, 7, 0), (ENG_LOOP_STAT.OPEN_SRC, 7, 1)], 7,
     by decide +kernel⟩,
   ⟨dev .run [(ENG_LOOP_CTL.OPEN_REQ, 7, 1)], 7, by decide +kernel⟩,
   ⟨dev .run [(ENG_LOOP_STAT.POISON, 7, 1)], 7, by decide +kernel⟩⟩

theorem test_LoopOpensAndIsRetuned_CoefficientsOnlyOpenOrDisabled :
    (∃ (s : State) (n : Fin 8) (w : Fin 8) (v : Nat), running s.b = true ∧ s.b.f ENG_LOOP_CFG.LIVE_TUNE n = 0 ∧ (s.b.lst n = lOPEN ∨
      s.b.lst n = lDISABLED)) ∧
    (∃ (s : State) (n : Fin 8) (w : Fin 8) (v : Nat), running s.b = true ∧ s.b.f ENG_LOOP_CFG.LIVE_TUNE n = 1) ∧
    (∃ (s : State) (n : Fin 8) (w : Fin 8) (v : Nat), running s.b = true ∧ s.b.f ENG_LOOP_CFG.LIVE_TUNE n = 0 ∧ s.b.lst n ≠ lOPEN ∧
      s.b.lst n ≠ lDISABLED) :=
  ⟨⟨dev .run [(ENG_LOOP_CFG.LIVE_TUNE, 7, 0), (LOOP_STATE.STATE, 7, 5)], 7, 7, 0, by decide +kernel⟩,
   ⟨dev .run [(ENG_LOOP_CFG.LIVE_TUNE, 7, 1)], 7, 7, 0, by decide +kernel⟩,
   ⟨dev .run [(ENG_LOOP_CFG.LIVE_TUNE, 7, 0), (LOOP_STATE.STATE, 7, 6)], 7, 7, 0, by decide +kernel⟩⟩

theorem test_BucksActAsStated_BuckEnableAndDisable :
    (∃ (s : State) (n : Fin 8), running s.b = true ∧ Fresh s (.buck n) ∧ s.b.barred (8 + n) = false ∧ s.b.ist n = iDISABLED) ∧
    (∃ (s : State) (n : Fin 8), running s.b = true ∧ Fresh s (.buck n) ∧ s.b.barred (8 + n) = false ∧ s.b.ist n ≠ iDISABLED) ∧
    (∃ (s : State) (n : Fin 8), running s.b = true ∧ Fresh s (.buck n) ∧ (s.b.safeNow = true ∨ s.b.lineBars (8 + n) = true)) ∧
    (∃ (s : State) (n : Fin 8), running s.b = true ∧ Fresh s (.buck n) ∧ (s.b.ist n = iSOFTSTART ∨ s.b.ist n = iREGULATING ∨ s.b.ist n =
      iOPEN)) ∧
    (∃ (s : State) (n : Fin 8), running s.b = true ∧ Fresh s (.buck n) ∧ s.b.ist n = iFAULTED) :=
  ⟨⟨dev .run [(IB_STATE.STATE, 7, 0)], 7, by decide +kernel⟩,
   ⟨dev .run [(IB_STATE.STATE, 7, 1)], 7, by decide +kernel⟩,
   ⟨dev .safe [], 7, by decide +kernel⟩,
   ⟨dev .run [(IB_STATE.STATE, 7, 1)], 7, by decide +kernel⟩,
   ⟨dev .run [(IB_STATE.STATE, 7, 4)], 7, by decide +kernel⟩⟩

theorem test_BucksActAsStated_BuckEventsFollowTheirCounts :
    (∃ (s : State) (n : Fin 8), running s.b = true ∧ Fresh s (.buck n) ∧ (s.b.ist n = iSOFTSTART ∨ s.b.ist n = iREGULATING ∨ s.b.ist n =
      iOPEN) ∧ atLeast1 (s.b.f IB_WIN.QUAL n) ≤ (s.b.bk n).ov) ∧
    (∃ (s : State) (n : Fin 8), running s.b = true ∧ Fresh s (.buck n) ∧ (s.b.ist n = iSOFTSTART ∨ s.b.ist n = iREGULATING ∨ s.b.ist n =
      iOPEN) ∧ atLeast1 (s.b.f IB_WIN.QUAL n) ≤ (s.b.bk n).uv) ∧
    (∃ (s : State) (n : Fin 8), running s.b = true ∧ Fresh s (.buck n) ∧ (s.b.ist n = iSOFTSTART ∨ s.b.ist n = iREGULATING ∨ s.b.ist n =
      iOPEN) ∧ atLeast1 (s.b.f IB_ILIM.OC_QUAL n) ≤ (s.b.bk n).oc) ∧
    (∃ (s : State) (n : Fin 8) (mv : Int), running s.b = true ∧ Fresh s (.buck n) ∧ (s.b.ist n = iSOFTSTART ∨ s.b.ist n = iREGULATING ∨
      s.b.ist n = iOPEN) ∧ mv < 7200) ∧
    (∃ (s : State) (n : Fin 8) (mc : Int), running s.b = true ∧ Fresh s (.buck n) ∧ (s.b.ist n = iSOFTSTART ∨ s.b.ist n = iREGULATING ∨
      s.b.ist n = iOPEN) ∧ 170000 < mc) ∧
    (∃ (s : State) (n : Fin 8), running s.b = true ∧ Fresh s (.buck n) ∧ s.b.ist n = iOPEN ∧ 2000 < (s.b.bk n).openTicks) ∧
    (∃ (s : State) (n : Fin 8), running s.b = true ∧ Fresh s (.buck n) ∧ s.b.ist n = iSOFTSTART ∧ atLeast1 (s.b.f IB_RAMP.SS_TMAX n) *
      2000 < (s.b.bk n).ssTicks ∧ (s.b.bk n).inside < 16) ∧
    (∃ (s : State) (n : Fin 8), running s.b = true ∧ Fresh s (.buck n) ∧ s.b.ist n = iSOFTSTART ∧ 16 ≤ (s.b.bk n).inside) ∧
    (∃ (s : State) (n : Fin 8) (mv : Int), running s.b = true ∧ Fresh s (.buck n) ∧ 7200 ≤ mv) ∧
    (∃ (s : State) (n : Fin 8) (mc : Int), running s.b = true ∧ Fresh s (.buck n) ∧ mc ≤ 170000) :=
  ⟨⟨{ dev .run [(IB_STATE.STATE, 7, 1), (IB_WIN.QUAL, 7, 0)] with b.buck := [(7, { ov := 1 })] }, 7, by decide +kernel⟩,
   ⟨{ dev .run [(IB_STATE.STATE, 7, 1), (IB_WIN.QUAL, 7, 0)] with b.buck := [(7, { uv := 1 })] }, 7, by decide +kernel⟩,
   ⟨{ dev .run [(IB_STATE.STATE, 7, 1), (IB_ILIM.OC_QUAL, 7, 0)] with b.buck := [(7, { oc := 1 })] }, 7, by decide +kernel⟩,
   ⟨dev .run [(IB_STATE.STATE, 7, 1)], 7, 7199, by decide +kernel⟩,
   ⟨dev .run [(IB_STATE.STATE, 7, 1)], 7, 170001, by decide +kernel⟩,
   ⟨{ dev .run [(IB_STATE.STATE, 7, 3)] with b.buck := [(7, { openTicks := 2001 })] }, 7, by decide +kernel⟩,
   ⟨{ dev .run [(IB_STATE.STATE, 7, 1), (IB_RAMP.SS_TMAX, 7, 0)] with b.buck := [(7, { inside := 15, ssTicks := 2001 })] }, 7,
     by decide +kernel⟩,
   ⟨{ dev .run [(IB_STATE.STATE, 7, 1)] with b.buck := [(7, { inside := 16 })] }, 7, by decide +kernel⟩,
   ⟨dev .run [], 7, 7200, by decide +kernel⟩,
   ⟨dev .run [], 7, 170000, by decide +kernel⟩⟩

theorem test_LdosActAsStated_LdoCommandsAct :
    (∃ (s : State) (n : Fin 6), running s.b = true ∧ Fresh s (.ldo n) ∧ s.b.barred (16 + n) = false ∧ s.b.dst n = iDISABLED) ∧
    (∃ (s : State) (n : Fin 6), running s.b = true ∧ Fresh s (.ldo n) ∧ (s.b.safeNow = true ∨ s.b.lineBars (16 + n) = true)) ∧
    (∃ (s : State) (n : Fin 6), running s.b = true ∧ Fresh s (.ldo n) ∧ (s.b.dst n = iSOFTSTART ∨ s.b.dst n = iREGULATING) ∧ 4 ≤ (s.b.ld
      n).uv) ∧
    (∃ (s : State) (n : Fin 6), running s.b = true ∧ Fresh s (.ldo n) ∧ (s.b.dst n = iSOFTSTART ∨ s.b.dst n = iREGULATING) ∧ 4 ≤ (s.b.ld
      n).ov) ∧
    (∃ (s : State) (n : Fin 6), running s.b = true ∧ Fresh s (.ldo n) ∧ (s.b.dst n = iSOFTSTART ∨ s.b.dst n = iREGULATING) ∧ 64 ≤
      (s.b.ld n).oc) ∧
    (∃ (s : State) (n : Fin 6) (mc : Int), running s.b = true ∧ Fresh s (.ldo n) ∧ (s.b.dst n = iSOFTSTART ∨ s.b.dst n = iREGULATING) ∧
      170000 < mc) ∧
    (∃ (s : State) (n : Fin 6), running s.b = true ∧ Fresh s (.ldo n) ∧ (s.b.ld n).uv < 4) ∧
    (∃ (s : State) (n : Fin 6), running s.b = true ∧ Fresh s (.ldo n) ∧ (s.b.ld n).ov < 4) ∧
    (∃ (s : State) (n : Fin 6), running s.b = true ∧ Fresh s (.ldo n) ∧ (s.b.ld n).oc < 64) ∧
    (∃ (s : State) (n : Fin 6), running s.b = true ∧ Fresh s (.ldo n) ∧ s.b.dst n = iSOFTSTART ∧ 16 ≤ (s.b.ld n).inside) ∧
    (∃ (s : State) (n : Fin 6) (v : Nat), running s.b = true ∧ Fresh s (.ldo n)) :=
  ⟨⟨dev .run [(LDO_STATE.STATE, 5, 0)], 5, by decide +kernel⟩,
   ⟨dev .safe [], 5, by decide +kernel⟩,
   ⟨{ dev .run [(LDO_STATE.STATE, 5, 1)] with b.ldo := [(5, { uv := 4 })] }, 5, by decide +kernel⟩,
   ⟨{ dev .run [(LDO_STATE.STATE, 5, 1)] with b.ldo := [(5, { ov := 4 })] }, 5, by decide +kernel⟩,
   ⟨{ dev .run [(LDO_STATE.STATE, 5, 1)] with b.ldo := [(5, { oc := 64 })] }, 5, by decide +kernel⟩,
   ⟨dev .run [(LDO_STATE.STATE, 5, 1)], 5, 170001, by decide +kernel⟩,
   ⟨{ dev .run [] with b.ldo := [(5, { uv := 3 })] }, 5, by decide +kernel⟩,
   ⟨{ dev .run [] with b.ldo := [(5, { ov := 3 })] }, 5, by decide +kernel⟩,
   ⟨{ dev .run [] with b.ldo := [(5, { oc := 63 })] }, 5, by decide +kernel⟩,
   ⟨{ dev .run [(LDO_STATE.STATE, 5, 1)] with b.ldo := [(5, { inside := 16 })] }, 5, by decide +kernel⟩,
   ⟨dev .run [], 5, 0, by decide +kernel⟩⟩

theorem test_DisputesAndCoreTestsDecide_DisputeDecidedByMajority :
    (∃ (s : State) (x : Int) (y : Int) (z : Int), running s.b = true ∧ s.b.f ADC_STATUS.SUBST 0 = 0 ∧ s.b.adc.dec = [(0, x, y, z)] ∧ ¬
      beyond (s.b.f ADC_CFG.SHD_TOL 0) x y ∧ ¬ beyond (s.b.f ADC_CFG.SHD_TOL 0) x z ∧ ¬ beyond (s.b.f ADC_CFG.SHD_TOL 0) y z) ∧
    (∃ (s : State) (x : Int) (y : Int) (z : Int), running s.b = true ∧ s.b.f ADC_STATUS.SUBST 0 = 0 ∧ s.b.adc.dec = [(0, x, y, z)] ∧
      s.b.sparesLeft 4 ≠ 0 ∧ ¬ beyond (s.b.f ADC_CFG.SHD_TOL 0) x z ∧ beyond (s.b.f ADC_CFG.SHD_TOL 0) x y ∧ beyond (s.b.f
      ADC_CFG.SHD_TOL 0) y z) ∧
    (∃ (s : State) (x : Int) (y : Int) (z : Int), running s.b = true ∧ s.b.f ADC_STATUS.SUBST 0 = 0 ∧ s.b.adc.dec = [(0, x, y, z)] ∧
      s.b.sparesLeft 4 ≠ 0 ∧ ¬ beyond (s.b.f ADC_CFG.SHD_TOL 0) y z ∧ beyond (s.b.f ADC_CFG.SHD_TOL 0) x y ∧ beyond (s.b.f
      ADC_CFG.SHD_TOL 0) x z) ∧
    (∃ (s : State) (x : Int) (y : Int) (z : Int), running s.b = true ∧ s.b.f ADC_STATUS.SUBST 0 = 0 ∧ s.b.adc.dec = [(0, x, y, z)] ∧ ¬
      beyond (s.b.f ADC_CFG.SHD_TOL 0) x y ∧ beyond (s.b.f ADC_CFG.SHD_TOL 0) x z ∧ beyond (s.b.f ADC_CFG.SHD_TOL 0) y z) ∧
    (∃ (s : State) (x : Int) (y : Int) (z : Int), running s.b = true ∧ s.b.f ADC_STATUS.SUBST 0 = 0 ∧ s.b.adc.dec = [(0, x, y, z)] ∧
      beyond (s.b.f ADC_CFG.SHD_TOL 0) x y ∧ beyond (s.b.f ADC_CFG.SHD_TOL 0) x z ∧ beyond (s.b.f ADC_CFG.SHD_TOL 0) y z) ∧
    (∃ (s : State) (x : Int) (y : Int) (z : Int), running s.b = true ∧ s.b.f ADC_STATUS.SUBST 0 = 0 ∧ s.b.adc.dec = [(1, x, y, z)] ∧ ¬
      beyond (s.b.f ADC_CFG.CHK_TOL 0) x y ∧ beyond (s.b.f ADC_CFG.CHK_TOL 0) x z ∧ beyond (s.b.f ADC_CFG.CHK_TOL 0) y z) ∧
    (∃ (s : State) (x : Int) (y : Int) (z : Int), running s.b = true ∧ s.b.f ADC_STATUS.SUBST 0 = 0 ∧ s.b.adc.dec = []) :=
  ⟨⟨{ dev .run [(ADC_STATUS.SUBST, 0, 0)] with b.adc := { dec := [(0, 5, 5, 5)] } }, 5, 5, 5, by decide +kernel⟩,
   ⟨{ dev .run [(ADC_STATUS.SUBST, 0, 0)] with b.adc := { dec := [(0, 0, 70000, 0)] } }, 0, 70000, 0, by decide +kernel⟩,
   ⟨{ dev .run [(ADC_STATUS.SUBST, 0, 0)] with b.adc := { dec := [(0, 70000, 0, 0)] } }, 70000, 0, 0, by decide +kernel⟩,
   ⟨{ dev .run [(ADC_STATUS.SUBST, 0, 0)] with b.adc := { dec := [(0, 0, 0, 70000)] } }, 0, 0, 70000, by decide +kernel⟩,
   ⟨{ dev .run [(ADC_STATUS.SUBST, 0, 0)] with b.adc := { dec := [(0, 0, 70000, 140000)] } }, 0, 70000, 140000, by decide +kernel⟩,
   ⟨{ dev .run [(ADC_STATUS.SUBST, 0, 0)] with b.adc := { dec := [(1, 0, 0, 70000)] } }, 0, 0, 70000, by decide +kernel⟩,
   ⟨{ dev .run [(ADC_STATUS.SUBST, 0, 0)] with b.adc := { dec := [] } }, 0, 0, 0, by decide +kernel⟩⟩

theorem test_DisputesAndCoreTestsDecide_MonitorCoreTestOutcome :
    (∃ (s : State) (nn : Nat) (r : Nat), running s.b = true ∧ s.b.mons.test = some (nn, 0, r)) ∧
    (∃ (s : State) (nn : Fin 32) (r : Nat) (x : Fin 2), running s.b = true ∧ s.b.mons.test = some (nn.val, 0, r) ∧ unusedCore s.b = some
      x.val ∧ s.b.f MON_STAT.CORE nn = 0) ∧
    (∃ (s : State) (p : Bool) (q : Bool) (nn : Nat) (k : Nat) (r : Nat), running s.b = true ∧ (s.b.mons.test = none ∨ s.b.mons.test =
      some (nn, k + 1, r))) :=
  ⟨⟨{ dev .run [] with b.mons := { test := some (0, 0, 0) } }, 0, 0, by decide +kernel⟩,
   ⟨{ dev .run [(MON_STAT.CORE, 31, 0), (CMP_CFG.SP0_MON, 0, 3), (CMP_CFG.SP1_MON, 0, 255)] with b.mons := { test := some (31, 0, 0) } },
     31, 0, 1, by decide +kernel⟩,
   ⟨{ dev .run [] with b.mons := { test := none } }, true, true, 0, 0, 0, by decide +kernel⟩⟩

theorem test_AccumulatorsAndLegacyReads_LatchesShowAndRestart :
    (∃ (s : State) (k : Fin 4) (m : Nat) (j : Fin 32), running s.b = true ∧ bit m j = true ∧ s.b.f ACC_CFG.EN (32 * k + j) = 1) ∧
    (∃ (s : State) (k : Fin 4) (m : Nat) (j : Fin 32), running s.b = true ∧ (bit m j = false ∨ s.b.f ACC_CFG.EN (32 * k + j) = 0)) ∧
    (∃ (s : State) (k : Fin 4) (m : Nat) (j : Fin 32), running s.b = true ∧ bit m j = true ∧ s.b.f ACC_TRK_CFG.EN (32 * k + j) = 1) ∧
    (∃ (s : State) (k : Fin 4) (m : Nat) (j : Fin 32), running s.b = true ∧ (bit m j = false ∨ s.b.f ACC_TRK_CFG.EN (32 * k + j) = 0)) :=
  ⟨⟨dev .run [(ACC_CFG.EN, 127, 1)], 3, 0x80000000, 31, by decide +kernel⟩,
   ⟨dev .run [], 3, 0, 31, by decide +kernel⟩,
   ⟨dev .run [(ACC_TRK_CFG.EN, 127, 1)], 3, 0x80000000, 31, by decide +kernel⟩,
   ⟨dev .run [], 3, 0, 31, by decide +kernel⟩⟩

theorem test_AccumulatorsAndLegacyReads_LegacyReadClearsOwnPort :
    (∃ (s : State) (p : Fin 4) (q : Fin 4), running s.b = true ∧ portUp s.b p = false) ∧
    (∃ (s : State) (p : Fin 4) (q : Fin 4), running s.b = true ∧ portUp s.b p = true) :=
  ⟨⟨dev .run [(HOST_PORT_CFG.CLASS, 3, 3)], 3, 3, by decide +kernel⟩,
   ⟨dev .run [], 3, 3, by decide +kernel⟩⟩

theorem test_MonitorsRaiseAndWake_MonitorSourcesOncePerRun :
    (∃ (s : State) (nn : Fin 32), running s.b = true ∧ s.b.f MON_CFG.FLT_UV nn = 1 ∧ atLeast1 (s.b.f MON_CFG.MQUAL nn) ≤ (s.b.mn
      nn).uv.n ∧ (s.b.mn nn).uv.raised = false) ∧
    (∃ (s : State) (nn : Fin 32), running s.b = true ∧ (s.b.f MON_CFG.FLT_UV nn = 0 ∨ (s.b.mn nn).uv.raised = true ∨ (s.b.mn nn).uv.n <
      s.b.f MON_CFG.MQUAL nn)) ∧
    (∃ (s : State) (nn : Fin 32), running s.b = true ∧ s.b.f MON_CFG.FLT_OV nn = 1 ∧ atLeast1 (s.b.f MON_CFG.MQUAL nn) ≤ (s.b.mn
      nn).ov.n ∧ (s.b.mn nn).ov.raised = false) ∧
    (∃ (s : State) (nn : Fin 32), running s.b = true ∧ (s.b.f MON_CFG.FLT_OV nn = 0 ∨ (s.b.mn nn).ov.raised = true ∨ (s.b.mn nn).ov.n <
      s.b.f MON_CFG.MQUAL nn)) :=
  ⟨⟨{ dev .run [(MON_CFG.FLT_UV, 31, 1), (MON_CFG.MQUAL, 31, 0)] with b.mon := [(31, { uv := { n := 1, raised := false } })] }, 31,
     by decide +kernel⟩,
   ⟨dev .run [(MON_CFG.FLT_UV, 31, 0)], 31, by decide +kernel⟩,
   ⟨{ dev .run [(MON_CFG.FLT_OV, 31, 1), (MON_CFG.MQUAL, 31, 0)] with b.mon := [(31, { ov := { n := 1, raised := false } })] }, 31,
     by decide +kernel⟩,
   ⟨dev .run [(MON_CFG.FLT_OV, 31, 0)], 31, by decide +kernel⟩⟩

theorem test_MonitorsRaiseAndWake_StandbySampleWatches :
    (∃ (s : State) (nn : Fin 32), s.b.dev = .standby ∧ s.b.f MON_CFG.STBY_EN nn = 1 ∧ monCompare s.b nn ≠ 1) ∧
    (∃ (s : State) (nn : Fin 32), s.b.dev = .standby ∧ (s.b.f MON_CFG.STBY_EN nn = 0 ∨ monCompare s.b nn = 1)) ∧
    (∃ (s : State), s.b.dev = .standby ∧ 1 ≤ s.b.biv.cur ∧ bit (s.b.f BIV_WAKE_CFG.WAKE_EN 0) 2 = true ∧ s.b.f GAUGE_CFG.IWAKE 0 * s.b.f
      ADC_PSHUNT.SHUNT 0 < 200 * (s.b.sig (.cal 0x79)).natAbs) ∧
    (∃ (s : State), s.b.dev ≠ .standby) :=
  ⟨⟨dev .standby [(MON_CFG.STBY_EN, 31, 1), (MON_THR.LO, 31, 1), (MON_THR.HI, 31, 2)], 31, by decide +kernel⟩,
   ⟨dev .standby [(MON_CFG.STBY_EN, 31, 0)], 31, by decide +kernel⟩,
   ⟨{ dev .standby [(BIV_WAKE_CFG.WAKE_EN, 0, 4), (GAUGE_CFG.IWAKE, 0, 1), (ADC_PSHUNT.SHUNT, 0, 200)] with b.env := envOf [(.cal 0x79, -2)], b.biv := { cur := 1 } },
     by decide +kernel⟩,
   ⟨dev .run [], by decide +kernel⟩⟩

theorem test_TemperatureAndThrottling_BrokenMarksClearedByOwner :
    (∃ (s : State) (o : Fin 4) (m : Nat), running s.b = true ∧ o = 2) ∧
    (∃ (s : State) (o : Fin 4) (m : Nat), running s.b = true ∧ o ≠ 2) :=
  ⟨⟨dev .run [], 2, 0, by decide +kernel⟩,
   ⟨dev .run [], 3, 0, by decide +kernel⟩⟩

theorem test_TemperatureAndThrottling_DieShutdownStopsAndReleases :
    (∃ (s : State), s.b.therm.stopped = false ∧ (∃ n ∈ s.b.therm.hot, 16 ≤ n) ∧ s.b.biv.ram.length = 256) ∧
    (∃ (s : State), (∀ n ∈ s.b.therm.hot, n < 16)) ∧
    (∃ (s : State), running s.b = true ∧ s.b.therm.stopped = true ∧ 2048 ≤ s.b.therm.cool) ∧
    (∃ (s : State), s.b.therm.cool < 2048) :=
  ⟨⟨{ dev .run [] with b.therm := { stopped := false, hot := [0, 0, 0, 16] }, b.biv := { ram := List.replicate 256 0 } },
     by decide +kernel⟩,
   ⟨{ dev .run [] with b.therm := { hot := [0, 0, 0, 15] } }, by decide +kernel⟩,
   ⟨{ dev .run [] with b.therm := { stopped := true, cool := 2048 } }, by decide +kernel⟩,
   ⟨{ dev .run [] with b.therm := { cool := 2047 } }, by decide +kernel⟩⟩

theorem test_TemperatureAndThrottling_ThrottleEnforcesAndReleases :
    (∃ (s : State) (k : Fin 4) (n : Fin 8), running s.b = true ∧ s.b.f THR_CFG.LOOP k = n ∧ s.b.f THR_CFG.ENF k = 1 ∧ s.b.f
      THR_CTL.ACTIVE k = 1 ∧ s.b.f THR_CTL.ENFORCED k = 0 ∧ (s.b.th k).since + s.b.f THR_CTL.GRACE k * 2000 ≤ s.tick + 1 ∧ ((s.b.th
      k).now = true ∨ (s.b.th k).temp = true ∧ s.b.therm.evalAt = s.tick + 1)) ∧
    (∃ (s : State) (k : Fin 4) (n : Fin 8), running s.b = true ∧ s.b.f THR_CFG.LOOP k = n ∧ (s.b.f THR_CFG.ENF k = 0 ∨ s.b.f
      THR_CTL.ACTIVE k = 0 ∨ s.b.f THR_CTL.ENFORCED k = 1 ∨ s.tick + 1 < (s.b.th k).since + s.b.f THR_CTL.GRACE k * 2000)) ∧
    (∃ (s : State) (k : Fin 4) (n : Fin 8), running s.b = true ∧ s.b.f THR_CFG.LOOP k = n ∧ s.b.f THR_CTL.ACTIVE k = 1 ∧ atLeast1 (s.b.f
      THR_ENF.REL_SR k) ≤ (s.b.th k).absent ∧ s.b.therm.evalAt = s.tick + 1) ∧
    (∃ (s : State) (k : Fin 4) (n : Fin 8), running s.b = true ∧ s.b.f THR_CFG.LOOP k = n ∧ ((s.b.th k).absent < s.b.f THR_ENF.REL_SR k
      ∨ s.b.f THR_CTL.ACTIVE k = 0)) :=
  ⟨⟨{ dev .run [(THR_CFG.LOOP, 3, 7), (THR_CFG.ENF, 3, 1), (THR_CTL.ACTIVE, 3, 1), (THR_CTL.ENFORCED, 3, 0), (THR_CTL.GRACE, 3, 1)] 2000
     with b.thr := [(3, { now := true, since := 1 })] }, 3, 7, by decide +kernel⟩,
   ⟨dev .run [(THR_CFG.LOOP, 3, 7), (THR_CFG.ENF, 3, 0)], 3, 7, by decide +kernel⟩,
   ⟨{ dev .run [(THR_CFG.LOOP, 3, 7), (THR_CTL.ACTIVE, 3, 1), (THR_ENF.REL_SR, 3, 0)] 5 with b.thr := [(3, { absent := 1 })], b.therm := { evalAt := 6 } },
     3, 7, by decide +kernel⟩,
   ⟨{ dev .run [(THR_CFG.LOOP, 3, 7), (THR_ENF.REL_SR, 3, 3)] with b.thr := [(3, { absent := 2 })] }, 3, 7, by decide +kernel⟩⟩

theorem test_GroupStartsOrWaits_GroupStartEntersStepZero :
    (∃ (s : State) (g : Fin 8) (o : Fin 4), running s.b = true ∧ s.b.f SEQ_GRP_STEPS.COUNT g ≠ 0 ∧ s.b.safeNow = false ∧ MayStart s g ∧
      Fresh s (.grp g)) ∧
    (∃ (s : State) (g : Fin 8) (o : Fin 4), running s.b = true ∧ s.b.f SEQ_GRP_STEPS.COUNT g ≠ 0 ∧ s.b.safeNow = false ∧ ¬ MayStart s g
      ∧ Fresh s (.grp g)) ∧
    (∃ (s : State) (g : Fin 8) (o : Fin 4), running s.b = true ∧ (s.b.f SEQ_GRP_STEPS.COUNT g = 0 ∨ s.b.safeNow = true)) :=
  ⟨⟨dev .run [(SEQ_GRP_STEPS.COUNT, 7, 1)], 7, 3, by decide +kernel⟩,
   ⟨dev .ready [(SEQ_GRP_STEPS.COUNT, 7, 1)] 9, 7, 3, by decide +kernel⟩,
   ⟨dev .run [(SEQ_GRP_STEPS.COUNT, 7, 0)], 7, 3, by decide +kernel⟩⟩

theorem test_GroupStartsOrWaits_PendingStartActsOrClears :
    (∃ (s : State) (g : Fin 8), running s.b = true ∧ s.b.f SEQ_GRP_STATE.START_PEND g = 1 ∧ MayStart s g ∧ Fresh s (.grp g) ∧
      s.b.safeNow = false ∧ (s.b.f SEQ_GRP_CFG.START_SRC g ≠ 2 ∨ s.b.seq.wakeIn = true)) ∧
    (∃ (s : State) (g : Fin 8), running s.b = true ∧ s.b.f SEQ_GRP_STATE.START_PEND g = 1 ∧ MayStart s g ∧ Fresh s (.grp g) ∧
      s.b.safeNow = false ∧ s.b.f SEQ_GRP_CFG.START_SRC g = 2 ∧ s.b.seq.wakeIn = false) :=
  ⟨⟨dev .run [(SEQ_GRP_STATE.START_PEND, 7, 1), (SEQ_GRP_CFG.START_SRC, 7, 0)], 7, by decide +kernel⟩,
   ⟨{ dev .run [(SEQ_GRP_STATE.START_PEND, 7, 1), (SEQ_GRP_CFG.START_SRC, 7, 2)] with b.seq := { wakeIn := false } }, 7,
     by decide +kernel⟩⟩

theorem test_GroupStopsStepByStep_GroupStopBeginsAtLastStep :
    (∃ (s : State) (g : Fin 8), running s.b = true ∧ Fresh s (.grp g) ∧ (s.b.gst g = gSTARTING ∨ s.b.gst g = gUP)) ∧
    (∃ (s : State) (g : Fin 8), running s.b = true ∧ Fresh s (.grp g) ∧ s.b.gst g ≠ gSTARTING ∧ s.b.gst g ≠ gUP) :=
  ⟨⟨dev .run [(SEQ_GRP_STATE.STATE, 7, 1)], 7, by decide +kernel⟩,
   ⟨dev .run [(SEQ_GRP_STATE.STATE, 7, 3)], 7, by decide +kernel⟩⟩

theorem test_GroupStopsStepByStep_StopStepsCountDown :
    (∃ (s : State) (g : Fin 8) (d : Nat), running s.b = true ∧ s.b.gst g = gSTOPPING ∧ (s.b.gr g).stopDue = some d ∧ d ≤ s.tick) ∧
    (∃ (s : State) (g : Fin 8) (d : Nat), running s.b = true ∧ s.b.gst g = gSTOPPING ∧ (s.b.gr g).stopDue = some d ∧ s.tick < d) ∧
    (∃ (s : State) (g : Fin 8) (d : Nat), running s.b = true ∧ s.b.gst g = gSTOPPING ∧ (s.b.gr g).disAt = some d ∧ d < s.tick ∧ (∀ o ∈
      stepOuts s.b (curStep s.b g), offSeen s.b s.tick d o = true) ∧ s.b.f SEQ_GRP_STATE.STEP g = 0) ∧
    (∃ (s : State) (g : Fin 8) (d : Nat) (i : Fin 15), running s.b = true ∧ s.b.gst g = gSTOPPING ∧ (s.b.gr g).disAt = some d ∧ d <
      s.tick ∧ (∀ o ∈ stepOuts s.b (curStep s.b g), offSeen s.b s.tick d o = true) ∧ s.b.f SEQ_GRP_STATE.STEP g = i + 1 ∧ s.b.f
      SEQ_STEP_OFF.OFF_DLY (poolStep s.b g i) = 0) ∧
    (∃ (s : State) (g : Fin 8) (d : Nat) (i : Fin 15), running s.b = true ∧ s.b.gst g = gSTOPPING ∧ (s.b.gr g).disAt = some d ∧ d <
      s.tick ∧ (∀ o ∈ stepOuts s.b (curStep s.b g), offSeen s.b s.tick d o = true) ∧ s.b.f SEQ_GRP_STATE.STEP g = i + 1 ∧ s.b.f
      SEQ_STEP_OFF.OFF_DLY (poolStep s.b g i) ≠ 0) ∧
    (∃ (s : State) (g : Fin 8) (d : Nat), running s.b = true ∧ s.b.gst g = gSTOPPING ∧ Fresh s (.grp g) ∧ (s.b.gr g).disAt = some d ∧ d
      + offTmoTicks s.b (curStep s.b g) < s.tick ∧ (∃ o ∈ stepOuts s.b (curStep s.b g), offSeen s.b s.tick d o = false)) :=
  ⟨⟨{ dev .run [(SEQ_GRP_STATE.STATE, 7, 3)] 2 with b.grp := [(7, { stopDue := some 2 })] }, 7, 2, by decide +kernel⟩,
   ⟨{ dev .run [(SEQ_GRP_STATE.STATE, 7, 3)] 2 with b.grp := [(7, { stopDue := some 3 })] }, 7, 3, by decide +kernel⟩,
   ⟨{ dev .run [(SEQ_GRP_STATE.STATE, 7, 3), (SEQ_GRP_STATE.STEP, 7, 0), (SEQ_STEP_OUT_HI.MASK, 0, 2147483648)] 4 with b.grp := [(7, { disAt := some 2 })] },
     7, 2, by decide +kernel⟩,
   ⟨{ dev .run [(SEQ_GRP_STATE.STATE, 7, 3), (SEQ_GRP_STATE.STEP, 7, 15), (SEQ_STEP_OUT_HI.MASK, 15, 2147483648)] 4 with b.grp := [(7, { disAt := some 2 })] },
     7, 2, 14, by decide +kernel⟩,
   ⟨{ dev .run [(SEQ_GRP_STATE.STATE, 7, 3), (SEQ_GRP_STATE.STEP, 7, 15), (SEQ_STEP_OUT_HI.MASK, 15, 2147483648), (SEQ_STEP_OFF.OFF_DLY,
     14, 1)] 4 with b.grp := [(7, { disAt := some 2 })] }, 7, 2, 14, by decide +kernel⟩,
   ⟨{ dev .run [(SEQ_GRP_STATE.STATE, 7, 3), (SEQ_STEP_OFF.OFF_TMO, 0, 100), (SEQ_STEP_OUT_LO.MASK, 0, 1)] 201 with b.grp := [(7, { disAt := some 0 })] },
     7, 0, by decide +kernel⟩⟩

theorem test_AllOffIsEnteredAndLeft_AllOffRequestAssertsTheLine :
    (∃ (s : State) (g : Fin 8), running s.b = true ∧ s.b.f SEQ_GRP_CFG.DOMAIN g = 1) ∧
    (∃ (s : State) (g : Fin 8), running s.b = true ∧ s.b.f SEQ_GRP_CFG.DOMAIN g = 0) :=
  ⟨⟨dev .run [(SEQ_GRP_CFG.DOMAIN, 7, 1)], 7, by decide +kernel⟩,
   ⟨dev .run [(SEQ_GRP_CFG.DOMAIN, 7, 0)], 7, by decide +kernel⟩⟩

theorem test_AllOffIsEnteredAndLeft_GroupAckLeavesAllOff :
    (∃ (s : State) (g : Fin 8), running s.b = true ∧ Fresh s (.grp g) ∧ s.b.f SEQ_GRP_STEPS.COUNT g ≠ 0 ∧ s.b.safeNow = false ∧ s.b.gst
      g = gALLOFF ∧ (s.b.gr g).offAt + tOff s.b g ≤ s.tick ∧ s.b.dev = .run) ∧
    (∃ (s : State) (g : Fin 8), running s.b = true ∧ Fresh s (.grp g) ∧ s.b.f SEQ_GRP_STEPS.COUNT g ≠ 0 ∧ (s.b.safeNow = true ∨ s.b.gst
      g ≠ gALLOFF ∨ s.tick < (s.b.gr g).offAt + tOff s.b g ∨ s.b.dev ≠ .run)) ∧
    (∃ (s : State) (g : Fin 8), running s.b = true ∧ Fresh s (.grp g) ∧ s.b.f SEQ_GRP_STEPS.COUNT g = 0) :=
  ⟨⟨dev .run [(SEQ_GRP_STEPS.COUNT, 7, 1), (SEQ_GRP_STATE.STATE, 7, 4), (SEQ_GRP_CFG.T_OFF_MIN, 7, 5)] 10000, 7, by decide +kernel⟩,
   ⟨dev .safe [(SEQ_GRP_STEPS.COUNT, 7, 1)], 7, by decide +kernel⟩,
   ⟨dev .run [(SEQ_GRP_STEPS.COUNT, 7, 0)], 7, by decide +kernel⟩⟩

theorem test_AllOffIsEnteredAndLeft_FoghornReleasesAndIsHeard :
    (∃ (s : State), running s.b = true ∧ s.b.f SEQ_DOMAIN.FH_DRIVE 0 = 1 ∧ s.b.f SEQ_DOMAIN.ALLOFF_LINE 0 = 0 ∧ s.b.seq.fhSince + max 2
      (s.b.f SEQ_TIMING.FH_MIN 0) ≤ s.tick + 1) ∧
    (∃ (s : State), running s.b = true ∧ s.b.f SEQ_DOMAIN.ALLOFF_LINE 0 = 1) ∧
    (∃ (s : State) (g : Fin 8), running s.b = true ∧ s.b.dev = .run ∧ 2 ≤ s.b.seq.fhLow ∧ s.b.seq.fhHigh = true ∧ s.b.f
      SEQ_DOMAIN.ALLOFF_LINE 0 = 0 ∧ s.b.f SEQ_GRP_CFG.DOMAIN g = 1 ∧ s.b.gst g ≠ gIDLE ∧ s.b.gst g ≠ gALLOFF ∧ Fresh s (.grp g)) ∧
    (∃ (s : State), running s.b = true ∧ (s.b.dev ≠ .run ∨ s.b.seq.fhLow < 2 ∨ s.b.seq.fhHigh = false)) :=
  ⟨⟨{ dev .run [(SEQ_DOMAIN.FH_DRIVE, 0, 1), (SEQ_DOMAIN.ALLOFF_LINE, 0, 0), (SEQ_TIMING.FH_MIN, 0, 2)] 3 with b.seq := { fhSince := 2 } },
     by decide +kernel⟩,
   ⟨dev .run [(SEQ_DOMAIN.ALLOFF_LINE, 0, 1)], by decide +kernel⟩,
   ⟨{ dev .run [(SEQ_DOMAIN.ALLOFF_LINE, 0, 0), (SEQ_GRP_CFG.DOMAIN, 7, 1), (SEQ_GRP_STATE.STATE, 7, 1)] with b.seq := { fhLow := 2, fhHigh := true } },
     7, by decide +kernel⟩,
   ⟨dev .ready [], by decide +kernel⟩⟩

theorem test_StepsAdvanceOrFail_StepsAdvance :
    (∃ (s : State) (g : Fin 8) (d : Nat), running s.b = true ∧ s.b.gst g = gSTARTING ∧ (s.b.gr g).delayAt = some d ∧ d ≤ s.tick) ∧
    (∃ (s : State) (g : Fin 8) (d : Nat), running s.b = true ∧ s.b.gst g = gSTARTING ∧ (s.b.gr g).delayAt = some d ∧ s.tick < d) ∧
    (∃ (s : State) (g : Fin 8), running s.b = true ∧ s.b.gst g = gSTARTING ∧ Fresh s (.grp g) ∧ (s.b.gr g).issued ≠ none ∧ qualTicks s.b
      (curStep s.b g) ≤ (s.b.gr g).qual ∧ s.b.f SEQ_GRP_STEPS.COUNT g ≤ s.b.f SEQ_GRP_STATE.STEP g + 1) ∧
    (∃ (s : State) (g : Fin 8), running s.b = true ∧ s.b.gst g = gSTARTING ∧ Fresh s (.grp g) ∧ (s.b.gr g).issued ≠ none ∧ qualTicks s.b
      (curStep s.b g) ≤ (s.b.gr g).qual ∧ s.b.f SEQ_GRP_STATE.STEP g + 1 < s.b.f SEQ_GRP_STEPS.COUNT g ∧ delayTicks s.b (poolStep s.b g
      (s.b.f SEQ_GRP_STATE.STEP g + 1)) = 0) ∧
    (∃ (s : State) (g : Fin 8), running s.b = true ∧ s.b.gst g = gSTARTING ∧ Fresh s (.grp g) ∧ (s.b.gr g).issued ≠ none ∧ qualTicks s.b
      (curStep s.b g) ≤ (s.b.gr g).qual ∧ s.b.f SEQ_GRP_STATE.STEP g + 1 < s.b.f SEQ_GRP_STEPS.COUNT g ∧ delayTicks s.b (poolStep s.b g
      (s.b.f SEQ_GRP_STATE.STEP g + 1)) ≠ 0) ∧
    (∃ (s : State) (g : Fin 8), running s.b = true ∧ s.b.gst g = gSTARTING ∧ (s.b.gr g).qual < qualTicks s.b (curStep s.b g)) ∧
    (∃ (s : State) (g : Fin 8) (tgt : Nat), running s.b = true ∧ s.b.gst g = gSTARTING ∧ Fresh s (.grp g) ∧ s.b.f SEQ_STEP_TOK.WAIT_EN
      (curStep s.b g) = 1 ∧ (s.b.gr g).issued = none ∧ (s.b.gr g).delayAt = none ∧ (s.b.gr g).qualN = s.b.f SEQ_GRP_STATE.STEP g ∧
      keptToken s.b g = some tgt ∧ (tgt : Int) - 1 ≤ ringTick s.b s.tick) :=
  ⟨⟨{ dev .run [(SEQ_GRP_STATE.STATE, 7, 1)] 2 with b.grp := [(7, { delayAt := some 2 })] }, 7, 2, by decide +kernel⟩,
   ⟨{ dev .run [(SEQ_GRP_STATE.STATE, 7, 1)] 2 with b.grp := [(7, { delayAt := some 3 })] }, 7, 3, by decide +kernel⟩,
   ⟨{ dev .run [(SEQ_GRP_STATE.STATE, 7, 1), (SEQ_GRP_STEPS.COUNT, 7, 1), (SEQ_STEP_QUAL.QUAL, 0, 10)] with b.grp := [(7, { issued := some 3, qual := 20 })] },
     7, by decide +kernel⟩,
   ⟨{ dev .run [(SEQ_GRP_STATE.STATE, 7, 1), (SEQ_GRP_STEPS.COUNT, 7, 2), (SEQ_STEP_QUAL.DELAY, 1, 0), (SEQ_STEP_QUAL.QUAL, 0, 10)] with
     b.grp := [(7, { issued := some 3, qual := 20 })] }, 7, by decide +kernel⟩,
   ⟨{ dev .run [(SEQ_GRP_STATE.STATE, 7, 1), (SEQ_GRP_STEPS.COUNT, 7, 2), (SEQ_STEP_QUAL.DELAY, 1, 5), (SEQ_STEP_QUAL.QUAL, 0, 10)] with
     b.grp := [(7, { issued := some 3, qual := 20 })] }, 7, by decide +kernel⟩,
   ⟨dev .run [(SEQ_GRP_STATE.STATE, 7, 1)], 7, by decide +kernel⟩,
   ⟨{ dev .run [(SEQ_GRP_STATE.STATE, 7, 1), (SEQ_GRP_STATE.STEP, 7, 0), (SEQ_STEP_TOK.WAIT_EN, 0, 1), (SEQ_STEP_TOK.WAIT_ID, 0, 15)] 8
     with b.grp := [(7, { issued := none, delayAt := none, qualN := 0, toks := [(3, 7), (15, 9)] })] }, 7, 9, by decide +kernel⟩⟩

theorem test_StepsAdvanceOrFail_SequencerFaultsStopOrAllOff :
    (∃ (s : State) (g : Fin 8), running s.b = true ∧ Fresh s (.grp g) ∧ s.b.gst g = gSTARTING ∧ (s.b.gr g).delayAt = none ∧ (s.b.gr
      g).qualN = s.b.f SEQ_GRP_STATE.STEP g ∧ (s.b.gr g).entered + tmoTicks s.b (curStep s.b g) < s.tick ∧ (¬((s.b.gr g).issued ≠ none ∧
      qualTicks s.b (curStep s.b g) ≤ (s.b.gr g).qual))) ∧
    (∃ (s : State) (g : Fin 8), running s.b = true ∧ Fresh s (.grp g) ∧ s.tick ≤ (s.b.gr g).entered + tmoTicks s.b (curStep s.b g)) ∧
    (∃ (s : State) (g : Fin 8), running s.b = true ∧ Fresh s (.grp g) ∧ (s.b.gr g).issued ≠ none ∧ qualTicks s.b (curStep s.b g) ≤
      (s.b.gr g).qual) ∧
    (∃ (s : State) (g : Fin 8) (o : Fin 64), running s.b = true ∧ Fresh s (.grp g) ∧ s.b.f SEQ_OUT_CFG.GROUP o = g ∧ s.b.f
      SEQ_OUT_CFG.PG_SRC o = 1 ∧ atLeast1 (s.b.f SEQ_GRP_CFG.DROP_QUAL g) ≤ Tab.get s.b.seq.drop 0 o ∧ (s.b.gst g = gSTARTING ∨ s.b.gst
      g = gUP)) ∧
    (∃ (s : State) (g : Fin 8) (o : Fin 64), running s.b = true ∧ Fresh s (.grp g) ∧ s.b.f SEQ_OUT_CFG.PG_SRC o ≠ 1) :=
  ⟨⟨{ dev .run [(SEQ_GRP_STATE.STATE, 7, 1), (SEQ_GRP_STATE.STEP, 7, 0), (SEQ_STEP_TMO.TMO, 0, 100)] 201 with b.grp := [(7, { delayAt := none, qualN := 0 })] },
     7, by decide +kernel⟩,
   ⟨dev .run [], 7, by decide +kernel⟩,
   ⟨{ dev .run [(SEQ_GRP_STATE.STATE, 7, 1), (SEQ_GRP_STATE.STEP, 7, 0), (SEQ_STEP_QUAL.QUAL, 0, 10), (SEQ_STEP_TMO.TMO, 0, 100)] 201
     with b.grp := [(7, { issued := some 3, qual := 20, qualN := 0 })] }, 7, by decide +kernel⟩,
   ⟨{ dev .run [(SEQ_OUT_CFG.GROUP, 63, 7), (SEQ_OUT_CFG.PG_SRC, 63, 1), (SEQ_GRP_STATE.STATE, 7, 1), (SEQ_GRP_CFG.DROP_QUAL, 7, 0)]
     with b.seq := { drop := [(63, 1)] } }, 7, 63, by decide +kernel⟩,
   ⟨dev .run [(SEQ_OUT_CFG.PG_SRC, 63, 0)], 7, 63, by decide +kernel⟩⟩

theorem test_KeepTakesOverAndHandsBack_KeepTakesOverAndRearms :
    (∃ (s : State) (mv : Nat), running s.b = true ∧ s.b.kst = kARMED ∧ mv < s.b.f KEEP_CFG.KEEP_ON 0 * 100) ∧
    (∃ (s : State) (mv : Nat), s.b.f KEEP_CFG.KEEP_ON 0 * 100 ≤ mv) ∧
    (∃ (s : State) (uv : Int), s.b.kst = kDIODE ∧ s.b.keep.revOff = false ∧ uv < -((s.b.f KEEP_CFG.REV_MV 0 : Int) * 1000)) ∧
    (∃ (s : State) (uv : Int), s.b.kst = kDIODE ∧ s.b.keep.revOff = true ∧ 10000 < uv) ∧
    (∃ (s : State) (uv : Int), uv ≤ 10000) ∧
    (∃ (s : State), running s.b = true ∧ s.b.kst = kDIODE ∧ (16 ≤ s.b.keep.nonCond ∨ (srcIn s.b lSOFTSTART = true ∧ s.b.keep.srcSS =
      false))) ∧
    (∃ (s : State), running s.b = true ∧ s.b.kst ≠ kDIODE) ∧
    (∃ (s : State), running s.b = true ∧ atLeast1 (s.b.f KBUS_WIN.QUAL 0) ≤ s.b.keep.uv.n ∧ s.b.keep.uv.raised = false) ∧
    (∃ (s : State), s.b.keep.uv.raised = true) :=
  ⟨⟨dev .run [(KEEP_STATUS.KSTATE, 0, 1), (KEEP_CFG.KEEP_ON, 0, 100)], 9999, by decide +kernel⟩,
   ⟨dev .run [(KEEP_CFG.KEEP_ON, 0, 100)], 10000, by decide +kernel⟩,
   ⟨{ dev .run [(KEEP_STATUS.KSTATE, 0, 2), (KEEP_CFG.REV_MV, 0, 5)] with b.keep := { revOff := false } }, -5001, by decide +kernel⟩,
   ⟨{ dev .run [(KEEP_STATUS.KSTATE, 0, 2)] with b.keep := { revOff := true } }, 10001, by decide +kernel⟩,
   ⟨dev .run [], 10000, by decide +kernel⟩,
   ⟨{ dev .run [(KEEP_STATUS.KSTATE, 0, 2)] with b.keep := { nonCond := 16 } }, by decide +kernel⟩,
   ⟨dev .run [(KEEP_STATUS.KSTATE, 0, 3)], by decide +kernel⟩,
   ⟨{ dev .run [(KBUS_WIN.QUAL, 0, 0)] with b.keep := { uv := { n := 1, raised := false } } }, by decide +kernel⟩,
   ⟨{ dev .run [] with b.keep := { uv := { raised := true } } }, by decide +kernel⟩⟩

theorem test_KeepTakesOverAndHandsBack_HandoverReturnsOrShutsDown :
    (∃ (s : State), running s.b = true ∧ s.b.hst = hDWELL ∧ dwellTicks s.b ≤ s.b.f KEEP_STATUS.DWELL_CNT 0) ∧
    (∃ (s : State), running s.b = true ∧ (s.b.hst ≠ hDWELL ∨ s.b.f KEEP_STATUS.DWELL_CNT 0 < dwellTicks s.b)) ∧
    (∃ (s : State) (x : Nat) (g : Fin 8), running s.b = true ∧ s.b.keep.sdAt = some x ∧ x ≤ s.tick ∧ dwellDone s.b = false ∧ bit (s.b.f
      HO_SD.SD_GROUPS 0) g = true ∧ (s.b.gst g = gSTARTING ∨ s.b.gst g = gUP) ∧ Fresh s (.grp g)) ∧
    (∃ (s : State) (x : Nat) (g : Fin 8), running s.b = true ∧ s.b.keep.sdAt = some x ∧ x ≤ s.tick ∧ dwellDone s.b = false ∧ bit (s.b.f
      HO_SD.SD_GROUPS 0) g = false) ∧
    (∃ (s : State), running s.b = true ∧ dwellDone s.b = true) ∧
    (∃ (s : State) (x : Nat), running s.b = true ∧ s.b.keep.sdAt = some x ∧ s.tick < x) :=
  ⟨⟨dev .run [(KEEP_STATUS.HO_STATE, 0, 1), (KEEP_STATUS.DWELL_CNT, 0, 4000), (HO_CFG.DWELL_MS, 0, 2)], by decide +kernel⟩,
   ⟨dev .run [(KEEP_STATUS.HO_STATE, 0, 2)], by decide +kernel⟩,
   ⟨{ dev .run [(SEQ_GRP_STATE.STATE, 7, 1), (HO_SD.SD_GROUPS, 0, 128)] 4 with b.keep := { sdAt := some 0 } }, 0, 7, by decide +kernel⟩,
   ⟨{ dev .run [] 4 with b.keep := { sdAt := some 0 } }, 0, 7, by decide +kernel⟩,
   ⟨dev .run [(KEEP_STATUS.HO_STATE, 0, 1), (KEEP_STATUS.DWELL_CNT, 0, 2000), (HO_CFG.DWELL_MS, 0, 1)], by decide +kernel⟩,
   ⟨{ dev .run [] 3 with b.keep := { sdAt := some 4 } }, 4, by decide +kernel⟩⟩

theorem test_ChargerActsAsStated_ChargerFollowsItsCommands :
    (∃ (s : State), running s.b = true ∧ Fresh s .chg ∧ s.b.safeNow = false ∧ s.b.cst = cOFF ∧ s.b.f CHG_FAULT_FLAGS.FLAGS 0 = 0) ∧
    (∃ (s : State), running s.b = true ∧ Fresh s .chg ∧ s.b.safeNow = false ∧ (s.b.cst ≠ cOFF ∨ s.b.f CHG_FAULT_FLAGS.FLAGS 0 ≠ 0)) ∧
    (∃ (s : State), running s.b = true ∧ Fresh s .chg ∧ s.b.safeNow = true) ∧
    (∃ (s : State), running s.b = true ∧ Fresh s .chg ∧ s.b.cst ≠ cOFF ∧ s.b.cst ≠ cFAULT) ∧
    (∃ (s : State), running s.b = true ∧ Fresh s .chg ∧ s.b.cst = cFAULT) ∧
    (∃ (s : State), running s.b = true ∧ Fresh s .chg ∧ s.b.cst = cCHARGING) ∧
    (∃ (s : State), running s.b = true ∧ Fresh s .chg ∧ s.b.cst = cSUSPENDED ∧ chgPermitted s.b = true) ∧
    (∃ (s : State), running s.b = true ∧ Fresh s .chg ∧ chgPermitted s.b = false) :=
  ⟨⟨dev .run [(CHG_STATE.STATE, 0, 0), (CHG_FAULT_FLAGS.FLAGS, 0, 0)], by decide +kernel⟩,
   ⟨dev .run [(CHG_STATE.STATE, 0, 1)], by decide +kernel⟩,
   ⟨dev .safe [], by decide +kernel⟩,
   ⟨dev .run [(CHG_STATE.STATE, 0, 1)], by decide +kernel⟩,
   ⟨dev .run [(CHG_STATE.STATE, 0, 4)], by decide +kernel⟩,
   ⟨dev .run [(CHG_STATE.STATE, 0, 2)], by decide +kernel⟩,
   ⟨{ dev .run [(CHG_STATE.STATE, 0, 3), (KEEP_STATUS.HO_STATE, 0, 2), (KEEP_STATUS.PACK_PRESENT, 0, 1), (PACK_AUTH_STAT.AUTH, 0, 2)]
     with b.smp := [(0x71, { cal := 12000 }), (0x8C, { cal := 2500 })] }, by decide +kernel⟩,
   ⟨dev .run [], by decide +kernel⟩⟩

theorem test_ChargerActsAsStated_ChargerLimitsStopIt :
    (∃ (s : State) (c : Fin 4), running s.b = true ∧ Fresh s .chg ∧ s.b.cst ≠ cOFF ∧ bit (s.b.f CHG_FAULT_FLAGS.FLAGS 0) 0 = false ∧ 2 ≤
      s.b.chg.cellOv.getD c 0) ∧
    (∃ (s : State), running s.b = true ∧ Fresh s .chg ∧ s.b.cst ≠ cOFF ∧ bit (s.b.f CHG_FAULT_FLAGS.FLAGS 0) 1 = false ∧ 64 ≤
      s.b.chg.oc) ∧
    (∃ (s : State) (ma : Nat), running s.b = true ∧ Fresh s .chg ∧ s.b.cst ≠ cOFF ∧ bit (s.b.f CHG_FAULT_FLAGS.FLAGS 0) 1 = false ∧ 5000
      < ma ∧ s.b.chg.run = true) ∧
    (∃ (s : State), running s.b = true ∧ Fresh s .chg ∧ s.b.cst ≠ cOFF ∧ bit (s.b.f CHG_FAULT_FLAGS.FLAGS 0) 2 = false ∧ s.b.f
      CHG_SESSION.SESSION_H 0 * 7200000000 < s.b.chg.session ∧ s.b.f CHG_CTL.EN 0 = 1) ∧
    (∃ (s : State), running s.b = true ∧ Fresh s .chg ∧ s.b.cst ≠ cOFF ∧ bit (s.b.f CHG_FAULT_FLAGS.FLAGS 0) 3 = false ∧ 16 ≤
      s.b.chg.ntc) ∧
    (∃ (s : State), running s.b = true ∧ s.b.cst = cOFF) ∧
    (∃ (s : State), running s.b = true ∧ s.b.chg.oc < 64) ∧
    (∃ (s : State), running s.b = true ∧ s.b.chg.ntc < 16) ∧
    (∃ (s : State) (ma : Nat), running s.b = true ∧ ma ≤ 5000) ∧
    (∃ (s : State), running s.b = true ∧ s.b.cst = cSUSPENDED ∧ s.b.chg.prof.complete = true) :=
  ⟨⟨{ dev .run [(CHG_STATE.STATE, 0, 1)] with b.chg := { cellOv := [0, 0, 0, 2] } }, 3, by decide +kernel⟩,
   ⟨{ dev .run [(CHG_STATE.STATE, 0, 1)] with b.chg := { oc := 64 } }, by decide +kernel⟩,
   ⟨{ dev .run [(CHG_STATE.STATE, 0, 1)] with b.chg := { run := true } }, 5001, by decide +kernel⟩,
   ⟨{ dev .run [(CHG_STATE.STATE, 0, 1), (CHG_CTL.EN, 0, 1), (CHG_SESSION.SESSION_H, 0, 1)] with b.chg := { session := 7200000001 } },
     by decide +kernel⟩,
   ⟨{ dev .run [(CHG_STATE.STATE, 0, 1)] with b.chg := { ntc := 16 } }, by decide +kernel⟩,
   ⟨dev .run [(CHG_STATE.STATE, 0, 0)], by decide +kernel⟩,
   ⟨{ dev .run [] with b.chg := { oc := 63 } }, by decide +kernel⟩,
   ⟨{ dev .run [] with b.chg := { ntc := 15 } }, by decide +kernel⟩,
   ⟨dev .run [], 5000, by decide +kernel⟩,
   ⟨{ dev .run [(CHG_STATE.STATE, 0, 3)] with b.chg := { prof := {} } }, by decide +kernel⟩⟩

theorem test_PackIsWatchedAndAuthenticated_PackRemovalAndPresence :
    (∃ (s : State), running s.b = true ∧ Fresh s .chg ∧ (s.b.f KEEP_STATUS.PACK_PRESENT 0 = 1 ∨ s.b.sig .packDet ≠ 0)) ∧
    (∃ (s : State), running s.b = true ∧ s.b.f KEEP_STATUS.PACK_PRESENT 0 = 0 ∧ s.b.sig .packDet = 0) ∧
    (∃ (s : State) (mv : Nat), running s.b = true ∧ Fresh s .chg ∧ s.b.cst = cCHARGING ∧ s.b.f PACK_CFG.JUMP_MV 0 ≤ mv) ∧
    (∃ (s : State) (mv : Nat), running s.b = true ∧ s.b.cst ≠ cCHARGING) ∧
    (∃ (s : State), running s.b = true ∧ s.b.f KEEP_STATUS.PACK_PRESENT 0 = 0 ∧ atLeast1 (s.b.f PACK_CFG.PD_QUAL 0) * 2000 ≤
      s.b.keep.pdLow) ∧
    (∃ (s : State), running s.b = true ∧ s.b.f KEEP_STATUS.PACK_PRESENT 0 = 1) :=
  ⟨⟨dev .run [(KEEP_STATUS.PACK_PRESENT, 0, 1)], by decide +kernel⟩,
   ⟨{ dev .run [(KEEP_STATUS.PACK_PRESENT, 0, 0)] with b.env := envOf [(.packDet, 0)] }, by decide +kernel⟩,
   ⟨dev .run [(CHG_STATE.STATE, 0, 2), (PACK_CFG.JUMP_MV, 0, 2)], 2, by decide +kernel⟩,
   ⟨dev .run [(CHG_STATE.STATE, 0, 3)], 0, by decide +kernel⟩,
   ⟨{ dev .run [(KEEP_STATUS.PACK_PRESENT, 0, 0), (PACK_CFG.PD_QUAL, 0, 0)] with b.keep := { pdLow := 2000 } }, by decide +kernel⟩,
   ⟨dev .run [(KEEP_STATUS.PACK_PRESENT, 0, 1)], by decide +kernel⟩⟩

theorem test_PackIsWatchedAndAuthenticated_AuthenticationThreeAttempts :
    (∃ (s : State), running s.b = true ∧ s.b.f KEEP_STATUS.PACK_PRESENT 0 = 1 ∧ s.b.auth.run = false ∧ s.b.auth.next ≤ s.tick) ∧
    (∃ (s : State), running s.b = true ∧ s.tick < s.b.auth.next) ∧
    (∃ (s : State), running s.b = true ∧ s.b.auth.run = true ∧ s.b.auth.readAt ≤ s.tick ∧ s.b.auth.tries < 3) ∧
    (∃ (s : State) (r : Option (List Nat)), running s.b = true ∧ (s.b.auth.run = false ∨ s.tick < s.b.auth.readAt)) ∧
    (∃ (s : State) (l : List Nat), running s.b = true ∧ s.b.auth.run = true ∧ s.b.auth.readAt ≤ s.tick ∧ 3 ≤ s.b.auth.tries ∧ crc8 ([2 *
      s.b.f PACK_CFG.AUTH_ADDR 0, 0x11, 2 * s.b.f PACK_CFG.AUTH_ADDR 0 + 1] ++ l.take (l.length - 1)) = l.getD (l.length - 1) 0 ∧ l.getD
      0 0 = 0 ∧ 8 ≤ l.getD 1 0 ∧ l.getD 1 0 ≤ 32 ∧ l.length = l.getD 1 0 + 67 ∧ s.tick ≤ s.b.auth.t0 + s.b.f AUTH_TIME.AUTH_TMO 0 *
      2000) ∧
    (∃ (s : State), running s.b = true ∧ s.b.auth.run = true ∧ s.b.auth.t0 + s.b.f AUTH_TIME.AUTH_TMO 0 * 2000 ≤ s.tick ∧ s.b.auth.tries
      < 3) ∧
    (∃ (s : State), running s.b = true ∧ s.b.auth.run = true ∧ s.b.auth.t0 + s.b.f AUTH_TIME.AUTH_TMO 0 * 2000 ≤ s.tick ∧ 3 ≤
      s.b.auth.tries) :=
  ⟨⟨{ dev .run [(KEEP_STATUS.PACK_PRESENT, 0, 1)] 2 with b.auth := { run := false, next := 2 } }, by decide +kernel⟩,
   ⟨{ dev .run [] 2 with b.auth := { next := 3 } }, by decide +kernel⟩,
   ⟨{ dev .run [] 2 with b.auth := { run := true, readAt := 2, tries := 2 } }, by decide +kernel⟩,
   ⟨{ dev .run [] with b.auth := { run := false } }, none, by decide +kernel⟩,
   ⟨{ dev .run [(PACK_CFG.AUTH_ADDR, 0, 0)] 100 with b.auth := { run := true, readAt := 100, tries := 3, t0 := 100 } }, packAnswer,
     by decide +kernel⟩,
   ⟨{ dev .run [(AUTH_TIME.AUTH_TMO, 0, 1)] 2000 with b.auth := { run := true, tries := 2 } }, by decide +kernel⟩,
   ⟨{ dev .run [(AUTH_TIME.AUTH_TMO, 0, 1)] 2000 with b.auth := { run := true, tries := 3 } }, by decide +kernel⟩⟩

theorem test_GaugeAnchorsSavesAndRestores_GaugeAnchorsSetCharge :
    (∃ (s : State), running s.b = true ∧ s.b.gauge.rest ≠ 0 ∧ s.b.f GAUGE_REST.T_REST 0 * 60000000 ≤ s.b.gauge.rest * roundUs) ∧
    (∃ (s : State), running s.b = true ∧ s.b.gauge.rest * roundUs < s.b.f GAUGE_REST.T_REST 0 * 60000000) ∧
    (∃ (s : State), running s.b = true ∧ s.b.gauge.eod = 2) ∧
    (∃ (s : State), running s.b = true ∧ s.b.gauge.eod ≠ 2) ∧
    (∃ (s : State), running s.b = true ∧ s.b.gauge.eoc = 2) ∧
    (∃ (s : State), running s.b = true ∧ s.b.gauge.eoc ≠ 2) ∧
    (∃ (s : State), running s.b = true ∧ 259200 * (s.b.gauge.noRest + 1) ≤ s.b.f GAUGE_REST_AGE.S 0) ∧
    (∃ (s : State), running s.b = true ∧ s.b.f GAUGE_REST_AGE.S 0 < 259200 * (s.b.gauge.noRest + 1)) :=
  ⟨⟨{ dev .run [(GAUGE_REST.T_REST, 0, 1)] with b.gauge := { rest := 58594 } }, by decide +kernel⟩,
   ⟨dev .run [], by decide +kernel⟩,
   ⟨{ dev .run [] with b.gauge := { eod := 2 } }, by decide +kernel⟩,
   ⟨{ dev .run [] with b.gauge := { eod := 3 } }, by decide +kernel⟩,
   ⟨{ dev .run [] with b.gauge := { eoc := 2 } }, by decide +kernel⟩,
   ⟨{ dev .run [] with b.gauge := { eoc := 3 } }, by decide +kernel⟩,
   ⟨dev .run [(GAUGE_REST_AGE.S, 0, 259200)], by decide +kernel⟩,
   ⟨dev .run [], by decide +kernel⟩⟩

theorem test_GaugeAnchorsSavesAndRestores_GaugeSavesAndRestores :
    (∃ (s : State) (e : Nat), running s.b = true ∧ s.b.restWin.ends = some e ∧ e ≤ s.tick) ∧
    (∃ (s : State), running s.b = true ∧ s.b.restWin.ends = none ∧ s.b.restWin.retry ≤ s.tick ∧ 86400 ≤ s.b.f GAUGE_REST_AGE.S 0 ∧
      s.b.hst = hSOURCE ∧ (s.b.dev = .ready ∨ s.b.dev = .run)) ∧
    (∃ (s : State) (e : Nat), running s.b = true ∧ s.b.restWin.ends = some e ∧ s.tick < e) ∧
    (∃ (s : State) (k : Fin 16), running s.b = true) ∧
    (∃ (s : State) (crc : Nat) (k : Fin 16), running s.b = true) :=
  ⟨⟨{ dev .run [] 2 with b.restWin := { ends := some 2 } }, 2, by decide +kernel⟩,
   ⟨{ dev .ready [(GAUGE_REST_AGE.S, 0, 86400), (KEEP_STATUS.HO_STATE, 0, 2)] 2 with b.restWin := { ends := none, retry := 2 } },
     by decide +kernel⟩,
   ⟨{ dev .run [] 2 with b.restWin := { ends := some 3 } }, 3, by decide +kernel⟩,
   ⟨dev .run [], 15, by decide +kernel⟩,
   ⟨dev .run [], 0, 15, by decide +kernel⟩⟩

theorem test_CalendarCountsAndCommits :
    (∃ (s : State), (s.b.biv.osc = false ∨ commitDue s.b = true)) ∧
    (∃ (s : State), s.b.biv.osc = true ∧ commitDue s.b = false) ∧
    (∃ (s : State) (w : Writer) (k : Fin 7) (v : Nat), running s.b = true ∧ mayOperate s.b w = true) ∧
    (∃ (s : State) (w : Writer), running s.b = true ∧ mayOperate s.b w = true) ∧
    (∃ (s : State) (w : Writer) (k : Fin 7) (v : Nat), mayOperate s.b w = false) ∧
    (∃ (s : State), s.b.biv.sets = []) ∧
    (∃ (s : State) (i : Nat), s.b.biv.sets = [i] ∧ (Tab.get s.b.biv.stage {} i).valid = true) ∧
    (∃ (s : State) (i : Nat), s.b.biv.sets = [i] ∧ (Tab.get s.b.biv.stage {} i).valid = false) ∧
    (∃ (s : State) (r : Fin 5) (k : Fin 9), running s.b = true ∧ rtcShadow s.b r = none ∧ k < (7 : Nat)) ∧
    (∃ (s : State) (r : Fin 5) (k : Fin 9), running s.b = true ∧ rtcShadow s.b r = none ∧ k = (8 : Nat)) ∧
    (∃ (s : State) (r : Fin 5) (k : Fin 9) (x : RtcShadow), running s.b = true ∧ rtcShadow s.b r = some x) ∧
    (∃ (s : State) (r : Fin 5) (k : Fin 9), running s.b = true ∧ rtcShadow s.b r = none ∧ k = (7 : Nat)) :=
  ⟨⟨{ dev .run [] with b.biv := { osc := false } }, by decide +kernel⟩,
   ⟨{ dev .run [] with b.biv := { osc := true } }, by decide +kernel⟩,
   ⟨dev .run [], .pilot, 6, 0, by decide +kernel⟩,
   ⟨dev .run [], .pilot, by decide +kernel⟩,
   ⟨dev .run [(HOST_PORT_CFG.CLASS, 3, 0)], .port 3, 6, 0, by decide +kernel⟩,
   ⟨{ dev .run [] with b.biv := { sets := [] } }, by decide +kernel⟩,
   ⟨{ dev .run [] with b.biv := { sets := [0] } }, 0, by decide +kernel⟩,
   ⟨{ dev .run [] with b.biv := { sets := [0], stage := [(0, { month := 13 })] } }, 0, by decide +kernel⟩,
   ⟨dev .run [], 4, 6, by decide +kernel⟩,
   ⟨dev .run [], 4, 8, by decide +kernel⟩,
   ⟨{ dev .run [] with b.biv := { shadow := [(4, some ⟨{}, 3, 9⟩)] } }, 4, 7, ⟨{}, 3, 9⟩, by decide +kernel⟩,
   ⟨dev .run [], 4, 7, by decide +kernel⟩⟩

theorem test_DomainSupplyAndOscillator :
    (∃ (s : State), s.b.biv.onVbiv = false ∧ s.b.f BIV_SWITCH_CTL.SW_VALID 0 = 0 ∧ s.b.dev ≠ .standby ∧ s.b.dev ≠ .powerup) ∧
    (∃ (s : State), (s.b.biv.onVbiv = true ∨ s.b.f BIV_SWITCH_CTL.SW_VALID 0 = 1) ∧ s.b.dev ≠ .standby ∧ s.b.dev ≠ .powerup) ∧
    (∃ (s : State), (s.b.dev = .standby ∨ s.b.dev = .powerup)) ∧
    (∃ (s : State), running s.b = true ∧ s.b.f CLK_STATUS.TICK_SRC 0 = 1) ∧
    (∃ (s : State), s.b.f CLK_STATUS.TICK_SRC 0 = 0 ∧ s.b.dev = .run) ∧
    (∃ (s : State) (t0 : Nat), running s.b = true ∧ s.b.biv.meas = some t0) ∧
    (∃ (s : State), s.b.biv.meas = none) :=
  ⟨⟨{ dev .run [(BIV_SWITCH_CTL.SW_VALID, 0, 0)] with b.biv := { onVbiv := false } }, by decide +kernel⟩,
   ⟨{ dev .run [] with b.biv := { onVbiv := true } }, by decide +kernel⟩,
   ⟨dev .standby [], by decide +kernel⟩,
   ⟨dev .run [(CLK_STATUS.TICK_SRC, 0, 1)], by decide +kernel⟩,
   ⟨dev .run [(CLK_STATUS.TICK_SRC, 0, 0)], by decide +kernel⟩,
   ⟨{ dev .run [] with b.biv := { meas := some 0 } }, 0, by decide +kernel⟩,
   ⟨{ dev .run [] with b.biv := { meas := none } }, by decide +kernel⟩⟩

theorem test_WakeStandbyAndOff :
    (∃ (s : State), s.b.dev ≠ .off) ∧
    (∃ (s : State), (s.b.dev = .standby ∧ s.b.f BIV_WAKE_CAUSE.CAUSE 0 ≠ 0 ∨ s.b.dev = .off ∧ s.b.f BIV_WAKE_CAUSE.CAUSE 0 % 4 ≠ 0 ∧
      s.b.biv.onVbiv = false)) ∧
    (∃ (s : State), s.b.f BIV_WAKE_CAUSE.CAUSE 0 = 0) ∧
    (∃ (s : State), s.b.dev = .off ∧ s.b.f BIV_WAKE_CAUSE.CAUSE 0 % 4 = 0) ∧
    (∃ (s : State), standbyOk s.b = true) ∧
    (∃ (s : State), running s.b = true ∧ standbyOk s.b = false) ∧
    (∃ (s : State), s.b.dev ≠ .run) :=
  ⟨⟨dev .run [], by decide +kernel⟩,
   ⟨dev .standby [(BIV_WAKE_CAUSE.CAUSE, 0, 1)], by decide +kernel⟩,
   ⟨dev .run [(BIV_WAKE_CAUSE.CAUSE, 0, 0)], by decide +kernel⟩,
   ⟨dev .off [], by decide +kernel⟩,
   ⟨dev .run [], by decide +kernel⟩,
   ⟨dev .run [(SEQ_GRP_STATE.STATE, 7, 1)], by decide +kernel⟩,
   ⟨dev .ready [], by decide +kernel⟩⟩

theorem test_RestartsSafeExitAndLantern_RestartsBeginBoot :
    (∃ (s : State), running s.b = true ∧ s.b.col.due ≠ 0 ∧ s.b.therm.stopped = false) ∧
    (∃ (s : State), running s.b = true ∧ (s.b.col.due = 0 ∨ s.b.therm.stopped = true)) :=
  ⟨⟨{ dev .run [] with b.col := { due := 1 }, b.therm := { stopped := false } }, by decide +kernel⟩,
   ⟨{ dev .run [] with b.col := { due := 0 } }, by decide +kernel⟩⟩

theorem test_RestartsSafeExitAndLantern_SafeExitClearsAndLantern :
    (∃ (s : State) (w : Writer), running s.b = true ∧ mayOperate s.b w = true ∧ s.b.dev = .safe ∧ s.b.devEdge = .safe ∧ exitOk s.b =
      true) ∧
    (∃ (s : State) (w : Writer), running s.b = true ∧ mayOperate s.b w = true ∧ s.b.dev = .safe ∧ s.b.devEdge = .safe ∧ exitOk s.b =
      false) ∧
    (∃ (s : State) (w : Writer), running s.b = true ∧ (mayOperate s.b w = false ∨ s.b.dev ≠ .safe ∨ s.b.devEdge ≠ .safe)) ∧
    (∃ (s : State) (w : Writer) (v : Nat), running s.b = true ∧ mayOperate s.b w = true ∧ bit v 31 = true ∧ s.b.col.nowAt ≠ s.tick + 1) ∧
    (∃ (s : State) (w : Writer) (v : Nat) (src : Nat) (sev : Nat) (more : Bool), running s.b = true ∧ mayOperate s.b w = true ∧ bit v 31
      = true ∧ s.b.col.nowAt = s.tick + 1 ∧ s.b.col.first = some (src, sev, more) ∧ src < 48 ∧ sev < 4) ∧
    (∃ (s : State) (w : Writer) (v : Nat), running s.b = true ∧ mayOperate s.b w = true ∧ bit v 31 = false) ∧
    (∃ (s : State) (w : Writer) (k : Fin 3) (v : Nat), running s.b = true ∧ mayOperate s.b w = false) ∧
    (∃ (s : State), running s.b = true ∧ s.tick % 1000 = 0 ∧ s.b.lanternAt ≠ s.tick + 1 ∧ lanternRuns s.tick s.b = true) ∧
    (∃ (s : State), running s.b = true ∧ (s.tick % 1000 ≠ 0 ∨ s.b.lanternAt = s.tick + 1 ∨ lanternRuns s.tick s.b = false)) :=
  ⟨⟨dev .safe [(BERTH_STATE.STATE, 31, 4), (BERTH_CTL.ON, 31, 1), (BERTH_STATE.STATE, 30, 4), (BERTH_CTL.ON, 30, 0), (BERTH_STATE.STATE,
     29, 5), (FAULT_STATE.SAFE_LINE, 0, 1), (FAULT_STATE.HALT_COUNT, 0, 2)], .pilot, by decide +kernel⟩,
   ⟨dev .safe [(FAULT_STATE.HALT_STUCK, 0, 1)], .pilot, by decide +kernel⟩,
   ⟨dev .run [], .pilot, by decide +kernel⟩,
   ⟨dev .run [], .pilot, 0x80000000, by decide +kernel⟩,
   ⟨{ dev .run [] 3 with b.col := { first := some (1, 2, true), nowAt := 4 } }, .pilot, 0x80000000, 1, 2, true, by decide +kernel⟩,
   ⟨dev .run [], .pilot, 0, by decide +kernel⟩,
   ⟨dev .run [(HOST_PORT_CFG.CLASS, 0, 0)], .port 0, 2, 0, by decide +kernel⟩,
   ⟨dev .run [] 1000, by decide +kernel⟩,
   ⟨dev .run [] 999, by decide +kernel⟩⟩

theorem test_WatchmanJudgesPeriods :
    (∃ (s : State) (w : Writer), running s.b = true ∧ wdWriter s.b w = true ∧ s.b.f WD_CFG.LOCKED 0 = 0) ∧
    (∃ (s : State) (w : Writer), running s.b = true ∧ wdWriter s.b w = true ∧ s.b.f WD_CFG.LOCKED 0 = 1) ∧
    (∃ (s : State) (w : Writer) (k : Fin 16), running s.b = true ∧ wdWriter s.b w = true ∧ s.b.f WD_STATE.MODE 0 = 1 ∧ bit (s.b.f
      WD_CFG.TASKS 0) k = false) ∧
    (∃ (s : State) (w : Writer) (k : Fin 16), running s.b = true ∧ wdWriter s.b w = true ∧ s.b.f WD_STATE.MODE 0 = 1 ∧ bit (s.b.f
      WD_CFG.TASKS 0) k = true) ∧
    (∃ (s : State) (w : Writer) (a : Nat), running s.b = true ∧ wdWriter s.b w = true ∧ s.b.wd.keyA = some a ∧ a < s.tick ∧ s.tick ≤ a +
      8 ∧ wdFindings s.b = []) ∧
    (∃ (s : State) (w : Writer), running s.b = true ∧ wdWriter s.b w = true ∧ (s.b.wd.keyA = none ∨ (∃ a, s.b.wd.keyA = some a ∧ (s.tick
      ≤ a ∨ a + 8 < s.tick)))) ∧
    (∃ (s : State) (w : Writer), running s.b = true ∧ wdWriter s.b w = false) ∧
    (∃ (s : State) (w : Writer) (k : Fin 16), running s.b = true ∧ wdWriter s.b w = false) ∧
    (∃ (s : State) (w : Writer) (k : Fin 16), running s.b = true ∧ s.b.f WD_STATE.MODE 0 = 0) ∧
    (∃ (s : State) (w : Writer), running s.b = true ∧ s.b.wd.start + wdPeriod s.b ≤ s.tick) ∧
    (∃ (s : State) (w : Writer), running s.b = true ∧ s.tick < s.b.wd.start + wdPeriod s.b) ∧
    (∃ (s : State) (w : Writer) (t : Nat), running s.b = true ∧ s.b.wd.newAt = some t) ∧
    (∃ (s : State) (w : Writer) (t : Nat) (u : Nat), running s.b = true ∧ s.b.wd.emptyAt = some t ∧ u < t) :=
  ⟨⟨dev .run [(WD_CFG.LOCKED, 0, 0)], .pilot, by decide +kernel⟩,
   ⟨dev .run [(WD_CFG.LOCKED, 0, 1)], .pilot, by decide +kernel⟩,
   ⟨dev .run [(WD_STATE.MODE, 0, 1)], .pilot, 15, by decide +kernel⟩,
   ⟨dev .run [(WD_STATE.MODE, 0, 1), (WD_CFG.TASKS, 0, 32768)], .pilot, 15, by decide +kernel⟩,
   ⟨{ dev .run [] 3 with b.wd := { keyA := some 2 } }, .pilot, 2, by decide +kernel⟩,
   ⟨{ dev .run [] with b.wd := { keyA := none } }, .pilot, by decide +kernel⟩,
   ⟨dev .run [], .port 3, by decide +kernel⟩,
   ⟨dev .run [], .keeper, 15, by decide +kernel⟩,
   ⟨dev .run [(WD_STATE.MODE, 0, 0)], .pilot, 15, by decide +kernel⟩,
   ⟨dev .run [(WD_STATE.MODE, 0, 1), (WD_CFG.PERIOD_MS, 0, 1)] 2000, .pilot, by decide +kernel⟩,
   ⟨dev .run [], .pilot, by decide +kernel⟩,
   ⟨{ dev .run [] with b.wd := { newAt := some 0 } }, .pilot, 0, by decide +kernel⟩,
   ⟨{ dev .run [] with b.wd := { emptyAt := some 3 } }, .pilot, 3, 2, by decide +kernel⟩⟩

theorem test_CollectorLatchesAndReacts :
    (∃ (t : Nat) (b : Blk) (src : Nat) (d : Nat) (k : Nat) (v : Nat) (o : Obj), src < 48 ∧ b.lines = [⟨src, d, o, t⟩] ∧ b.col.stall =
      false ∧ sevOf b src = k ∧ v = (b.f FAULT_HIST_HEAD.NEWEST 0 + 1) % 16 ∧ src < 32) ∧
    (∃ (t : Nat) (b : Blk) (src : Nat) (d : Nat) (k : Nat) (v : Nat) (o : Obj), src < 48 ∧ b.lines = [⟨src, d, o, t⟩] ∧ b.col.stall =
      false ∧ sevOf b src = k ∧ v = (b.f FAULT_HIST_HEAD.NEWEST 0 + 1) % 16 ∧ 32 ≤ src) ∧
    (∃ (t : Nat) (b : Blk) (src : Nat) (d : Nat) (k : Nat) (v : Nat) (o : Obj), src < 48 ∧ b.lines = [⟨src, d, o, t⟩] ∧ b.col.stall =
      false ∧ sevOf b src = k ∧ v = (b.f FAULT_HIST_HEAD.NEWEST 0 + 1) % 16 ∧ b.f FAULT_STATE.REACT 0 = 0 ∧ k = 0 ∧ src ≠ 7 ∧ src ≠ 12) ∧
    (∃ (t : Nat) (b : Blk) (src : Nat) (d : Nat) (k : Nat) (v : Nat) (o : Obj) (p : Fin 4), src < 48 ∧ b.lines = [⟨src, d, o, t⟩] ∧
      b.col.stall = false ∧ sevOf b src = k ∧ v = (b.f FAULT_HIST_HEAD.NEWEST 0 + 1) % 16 ∧ b.f FAULT_STATE.REACT 0 = 0 ∧ 1 ≤ k) ∧
    (∃ (t : Nat) (b : Blk) (src : Nat) (d : Nat) (k : Nat) (v : Nat) (o : Obj), src < 48 ∧ b.lines = [⟨src, d, o, t⟩] ∧ b.col.stall =
      false ∧ sevOf b src = k ∧ v = (b.f FAULT_HIST_HEAD.NEWEST 0 + 1) % 16 ∧ b.f FAULT_STATE.REACT 0 = 0 ∧ 1 ≤ k ∧ b.f
      FIRST_FAULT.VALID 0 = 0) ∧
    (∃ (t : Nat) (b : Blk) (src : Nat) (d : Nat) (k : Nat) (v : Nat) (o : Obj), src < 48 ∧ b.lines = [⟨src, d, o, t⟩] ∧ b.col.stall =
      false ∧ sevOf b src = k ∧ v = (b.f FAULT_HIST_HEAD.NEWEST 0 + 1) % 16 ∧ b.f FAULT_STATE.REACT 0 = 0 ∧ 1 ≤ k ∧ b.f
      FIRST_FAULT.VALID 0 = 1) ∧
    (∃ (t : Nat) (b : Blk) (src : Nat) (d : Nat) (k : Nat) (v : Nat) (o : Obj), src < 48 ∧ b.lines = [⟨src, d, o, t⟩] ∧ b.col.stall =
      false ∧ sevOf b src = k ∧ v = (b.f FAULT_HIST_HEAD.NEWEST 0 + 1) % 16 ∧ b.f FAULT_STATE.REACT 0 = 0 ∧ k = 1) ∧
    (∃ (t : Nat) (b : Blk) (src : Nat) (d : Nat) (k : Nat) (v : Nat) (o : Obj), src < 48 ∧ b.lines = [⟨src, d, o, t⟩] ∧ b.col.stall =
      false ∧ sevOf b src = k ∧ v = (b.f FAULT_HIST_HEAD.NEWEST 0 + 1) % 16 ∧ b.f FAULT_STATE.REACT 0 = 0 ∧ 2 ≤ k ∧ (b.dev = .run ∨
      b.dev = .ready)) ∧
    (∃ (t : Nat) (b : Blk) (src : Nat) (d : Nat) (k : Nat) (v : Nat) (o : Obj), src < 48 ∧ b.lines = [⟨src, d, o, t⟩] ∧ b.col.stall =
      false ∧ sevOf b src = k ∧ v = (b.f FAULT_HIST_HEAD.NEWEST 0 + 1) % 16 ∧ b.f FAULT_STATE.REACT 0 = 0 ∧ 2 ≤ k ∧ b.dev = .boot) ∧
    (∃ (t : Nat) (b : Blk) (src : Nat) (d : Nat) (k : Nat) (v : Nat) (o : Obj), src < 48 ∧ b.lines = [⟨src, d, o, t⟩] ∧ b.col.stall =
      false ∧ sevOf b src = k ∧ v = (b.f FAULT_HIST_HEAD.NEWEST 0 + 1) % 16 ∧ b.f FAULT_STATE.REACT 0 = 0 ∧ k = 3 ∧ b.f
      FAULT_STATE.HALT_COUNT 0 ≠ 3) ∧
    (∃ (t : Nat) (b : Blk) (src : Nat) (d : Nat) (k : Nat) (v : Nat) (o : Obj), src < 48 ∧ b.lines = [⟨src, d, o, t⟩] ∧ b.col.stall =
      false ∧ sevOf b src = k ∧ v = (b.f FAULT_HIST_HEAD.NEWEST 0 + 1) % 16 ∧ b.f FAULT_STATE.REACT 0 = 0 ∧ k = 3 ∧ b.f
      FAULT_STATE.HALT_COUNT 0 = 3) ∧
    (∃ (t : Nat) (b : Blk) (src : Nat) (d : Nat) (k : Nat) (v : Nat) (o : Obj), src < 48 ∧ b.lines = [⟨src, d, o, t⟩] ∧ b.col.stall =
      false ∧ sevOf b src = k ∧ v = (b.f FAULT_HIST_HEAD.NEWEST 0 + 1) % 16 ∧ b.f FAULT_STATE.REACT 0 = 1 ∧ t ≤ b.col.reactEnd) :=
  ⟨⟨0, { lines := [⟨31, 0, .none, 0⟩], col := { stall := false } }, 31, 0, 1, 0, .none, by decide +kernel⟩,
   ⟨0, { lines := [⟨43, 0, .none, 0⟩], col := { stall := false } }, 43, 0, 0, 0, .none, by decide +kernel⟩,
   ⟨0, { regs := regsOf [(FAULT_STATE.REACT, 0, 0)], lines := [⟨43, 0, .none, 0⟩], col := { stall := false } }, 43, 0, 0, 0, .none,
     by decide +kernel⟩,
   ⟨0, { regs := regsOf [(FAULT_STATE.REACT, 0, 0)], lines := [⟨31, 0, .none, 0⟩], col := { stall := false } }, 31, 0, 1, 0, .none, 3,
     by decide +kernel⟩,
   ⟨0, { regs := regsOf [(FAULT_STATE.REACT, 0, 0), (FIRST_FAULT.VALID, 0, 0)], lines := [⟨31, 0, .none, 0⟩], col := { stall := false } },
     31, 0, 1, 0, .none, by decide +kernel⟩,
   ⟨0, { regs := regsOf [(FAULT_STATE.REACT, 0, 0), (FIRST_FAULT.VALID, 0, 1)], lines := [⟨31, 0, .none, 0⟩], col := { stall := false } },
     31, 0, 1, 0, .none, by decide +kernel⟩,
   ⟨0, { regs := regsOf [(FAULT_STATE.REACT, 0, 0)], lines := [⟨31, 0, .none, 0⟩], col := { stall := false } }, 31, 0, 1, 0, .none,
     by decide +kernel⟩,
   ⟨0, { dev := .run, devEdge := .run, regs := regsOf [(FAULT_STATE.REACT, 0, 0)], lines := [⟨3, 0, .none, 0⟩], col := { stall := false } },
     3, 0, 2, 0, .none, by decide +kernel⟩,
   ⟨0, { dev := .boot, devEdge := .boot, regs := regsOf [(FAULT_STATE.REACT, 0, 0)], lines := [⟨3, 0, .none, 0⟩], col := { stall := false } },
     3, 0, 2, 0, .none, by decide +kernel⟩,
   ⟨0, { regs := regsOf [(FAULT_STATE.REACT, 0, 0), (FAULT_STATE.HALT_COUNT, 0, 4)], lines := [⟨0, 0, .none, 0⟩], col := { stall := false } },
     0, 0, 3, 0, .none, by decide +kernel⟩,
   ⟨0, { regs := regsOf [(FAULT_STATE.REACT, 0, 0), (FAULT_STATE.HALT_COUNT, 0, 3)], lines := [⟨0, 0, .none, 0⟩], col := { stall := false } },
     0, 0, 3, 0, .none, by decide +kernel⟩,
   ⟨0, { regs := regsOf [(FAULT_STATE.REACT, 0, 1)], lines := [⟨31, 0, .none, 0⟩], col := { stall := false, reactEnd := 2 } }, 31, 0, 1,
     0, .none, by decide +kernel⟩⟩

theorem test_ExceptionsAndTestPort :
    (∃ (s : State) (k : Fin 4) (a : Nat), (k.val = 0 ∧ mapped a = false ∨ k.val = 1 ∧ isSram a = true ∧ Config.keeperSram a = true ∨
      k.val = 2 ∧ (isRom a = true ∨ otpWindow a = true) ∨ k.val = 3 ∧ (isSram a = true ∨ isFlash a = true) ∧ ∃ l, s.mem.readBytes a 4 =
      (l, true, s.mem, [])) ∧ running s.b = true) ∧
    (∃ (s : State) (k : Fin 4) (a : Nat), (k.val = 0 ∧ mapped a = true ∨ k.val = 1 ∧ (isSram a = false ∨ Config.keeperSram a = false) ∨
      k.val = 2 ∧ isRom a = false ∧ otpWindow a = false ∨ k.val = 3 ∧ ((isSram a = false ∧ isFlash a = false ∧ engKey a = none) ∨ ∃ l,
      s.mem.readBytes a 4 = (l, false, s.mem, []))) ∧ running s.b = true) ∧
    (∃ (s : State) (i : Nat), running s.b = true ∧ i ≤ 1) ∧
    (∃ (s : State) (i : Nat), running s.b = true ∧ 1 < i ∧ tapLocked s.b = true) ∧
    (∃ (s : State) (i : Nat), running s.b = true ∧ 1 < i ∧ tapLocked s.b = false) :=
  ⟨⟨dev .run [], 0, 0x50000000, Or.inl (by decide +kernel), by decide +kernel⟩,
   ⟨dev .run [], 0, 0x40000000, Or.inl (by decide +kernel), by decide +kernel⟩,
   ⟨dev .run [], 1, by decide +kernel⟩,
   ⟨{ dev .run [] with b.tapLock := true }, 2, by decide +kernel⟩,
   ⟨dev .run [], 2, by decide +kernel⟩⟩

theorem test_EccTestAndScrubber :
    (∃ (s : State) (w : Writer) (a : Nat) (v : Nat), running s.b = true ∧ (w = .pilot ∨ w = .keeper) ∧ s.b.f ECC_TEST_ADDR.VALUE 0 = a ∧
      s.b.f64 ECC_TEST_DATA_LO.VALUE ECC_TEST_DATA_HI.VALUE 0 = v ∧ s.b.f ECC_TEST_CTL.EN 0 = 1 ∧ isSram a = true ∧ a % 8 = 0 ∧ (s.b.f
      ECC_TEST_CTL.PAGE_HOLD 0 = 1 ∨ s.mem.decode a = .clean)) ∧
    (∃ (s : State) (w : Writer) (a : Nat) (v : Nat), running s.b = true ∧ (w = .pilot ∨ w = .keeper) ∧ s.b.f ECC_TEST_ADDR.VALUE 0 = a ∧
      s.b.f64 ECC_TEST_DATA_LO.VALUE ECC_TEST_DATA_HI.VALUE 0 = v ∧ (s.b.f ECC_TEST_CTL.EN 0 = 0 ∨ isSram a = false ∨ a % 8 ≠ 0)) ∧
    (∃ (s : State) (w : Writer) (a : Nat) (v : Nat), running s.b = true ∧ (w = .pilot ∨ w = .keeper) ∧ s.b.f ECC_TEST_ADDR.VALUE 0 = a ∧
      s.b.f64 ECC_TEST_DATA_LO.VALUE ECC_TEST_DATA_HI.VALUE 0 = v ∧ (isSram (a / 8 * 8) = true ∨ isFlash (a / 8 * 8) = true ∨ isRom (a /
      8 * 8) = true)) ∧
    (∃ (s : State) (w : Writer), running s.b = true ∧ w ≠ .pilot ∧ w ≠ .keeper) ∧
    (∃ (s : State) (a : Nat) (z : Nat), running s.b = true ∧ s.b.f SCRUB_START.ADDR 0 / 8 * 8 = a ∧ s.b.f SCRUB_END.ADDR 0 / 8 * 8 = z ∧
      s.b.f SCRUB_STATUS.BUSY 0 = 0 ∧ ((isSram a = true ∧ isSram z = true) ∨ (isFlash a = true ∧ isFlash z = true)) ∧ a ≤ z) ∧
    (∃ (s : State) (a : Nat) (z : Nat), running s.b = true ∧ s.b.f SCRUB_START.ADDR 0 / 8 * 8 = a ∧ s.b.f SCRUB_END.ADDR 0 / 8 * 8 = z ∧
      (s.b.f SCRUB_STATUS.BUSY 0 = 1 ∨ ((isSram a = false ∨ isSram z = false) ∧ (isFlash a = false ∨ isFlash z = false)))) ∧
    (∃ (s : State), running s.b = true ∧ s.b.f SCRUB_STATUS.BUSY 0 = 1 ∧ s.b.scrub.abort = true) ∧
    (∃ (s : State), running s.b = true ∧ s.b.f SCRUB_STATUS.BUSY 0 = 1 ∧ s.b.scrub.abort = false ∧ s.mem.decode s.b.scrub.cur = .clean) ∧
    (∃ (s : State) (v : Nat), s.mem.decode s.b.scrub.cur = .fixed v ∧ running s.b = true ∧ s.b.f SCRUB_STATUS.BUSY 0 = 1 ∧
      s.b.scrub.abort = false ∧ isSram s.b.scrub.cur = true) ∧
    (∃ (s : State), running s.b = true ∧ s.b.f SCRUB_STATUS.BUSY 0 = 1 ∧ s.b.scrub.abort = false ∧ s.mem.decode s.b.scrub.cur =
      .poisoned ∧ s.b.f SCRUB_FIRST.ADDR 0 = 0xFFFFFFFF) :=
  ⟨⟨dev .run [(ECC_TEST_ADDR.VALUE, 0, 537395192), (ECC_TEST_CTL.EN, 0, 1), (ECC_TEST_CTL.PAGE_HOLD, 0, 1), (ECC_TEST_DATA_LO.VALUE, 0,
     3), (ECC_TEST_DATA_HI.VALUE, 0, 0)], .pilot, 0x2007FFF8, 3, by decide +kernel⟩,
   ⟨dev .run [(ECC_TEST_ADDR.VALUE, 0, 0), (ECC_TEST_CTL.EN, 0, 0)], .pilot, 0, 0, by decide +kernel⟩,
   ⟨dev .run [(ECC_TEST_ADDR.VALUE, 0, 0)], .pilot, 0, 0, by decide +kernel⟩,
   ⟨dev .run [], .tender, by decide +kernel⟩,
   ⟨dev .run [(SCRUB_STATUS.BUSY, 0, 0), (SCRUB_START.ADDR, 0, 536870912), (SCRUB_END.ADDR, 0, 536870920)], 0x20000000, 0x20000008,
     by decide +kernel⟩,
   ⟨dev .run [(SCRUB_STATUS.BUSY, 0, 0), (SCRUB_START.ADDR, 0, 536870912), (SCRUB_END.ADDR, 0, 1048576)], 0x20000000, 0x00100000,
     by decide +kernel⟩,
   ⟨{ dev .run [(SCRUB_STATUS.BUSY, 0, 1)] with b.scrub := { abort := true, cur := 0x20000000 } }, by decide +kernel⟩,
   ⟨{ dev .run [(SCRUB_STATUS.BUSY, 0, 1)] with b.scrub := { abort := false } }, by decide +kernel⟩,
   ⟨{ dev .run [(SCRUB_STATUS.BUSY, 0, 1)] with mem := { syn := [(0x20000000, 1)] }, b.scrub := { abort := false, cur := 0x20000000 } },
     correctable_word.choose, correctable_word.choose_spec, by decide +kernel⟩,
   ⟨{ dev .run [(SCRUB_STATUS.BUSY, 0, 1), (SCRUB_FIRST.ADDR, 0, 4294967295)] with mem := { mark := [(0x20000000, 7)] }, b.scrub := { abort := false, cur := 0x20000000 } },
     by decide +kernel⟩⟩

theorem test_OtpCommandsProgram :
    (∃ (s : State) (key : Nat) (w : Writer), running s.b = true ∧ w ≠ .keeper) ∧
    (∃ (s : State) (key : Nat) (w : Writer), running s.b = true ∧ s.b.log.writing.isSome = true) ∧
    (∃ (s : State) (key : Nat) (c : Instr) (e : Nat), running s.b = true ∧ s.b.log.writing = none ∧ (c = .otpCmdProgram .keeper key ∧
      (s.b.f OTP_STATUS.BUSY 0 = 1 ∧ e = 1 ∨ s.b.f OTP_STATUS.BUSY 0 = 0 ∧ key ≠ 0xC3 ∧ e = 2 ∨ s.b.f OTP_STATUS.BUSY 0 = 0 ∧ key = 0xC3
      ∧ e ≠ 0 ∧ e = otpProgramErr s.b (s.b.f OTP_ADDR.INDEX 0) (s.b.f OTP_DATA.DATA 0)) ∨ c = .otpCmdIncrement .keeper key ∧ (s.b.f
      OTP_STATUS.BUSY 0 = 1 ∧ e = 1 ∨ s.b.f OTP_STATUS.BUSY 0 = 0 ∧ key ≠ 0xC3 ∧ e = 2 ∨ s.b.f OTP_STATUS.BUSY 0 = 0 ∧ key = 0xC3 ∧ 32 ≤
      s.b.f OTP_ADDR.INDEX 0 ∧ e = 3 ∨ s.b.f OTP_STATUS.BUSY 0 = 0 ∧ key = 0xC3 ∧ s.b.f OTP_ADDR.INDEX 0 < 32 ∧ s.b.counter (s.b.f
      OTP_ADDR.INDEX 0) = 255 ∧ e = 6) ∨ c = .otpCmdFinalise .keeper key ∧ (s.b.f OTP_STATUS.BUSY 0 = 1 ∧ e = 1 ∨ s.b.f OTP_STATUS.BUSY
      0 = 0 ∧ key ≠ 0xC3 ∧ e = 2 ∨ s.b.f OTP_STATUS.BUSY 0 = 0 ∧ key = 0xC3 ∧ (s.b.f OTP_ADDR.INDEX 0 = 0 ∨ 3 < s.b.f OTP_ADDR.INDEX 0)
      ∧ e = 3 ∨ s.b.f OTP_STATUS.BUSY 0 = 0 ∧ key = 0xC3 ∧ s.b.f OTP_ADDR.INDEX 0 ≠ 0 ∧ s.b.f OTP_ADDR.INDEX 0 ≤ 3 ∧ s.b.finalised
      (s.b.f OTP_ADDR.INDEX 0) = true ∧ e = 4))) ∧
    (∃ (s : State) (key : Nat), running s.b = true ∧ key = 0xC3 ∧ s.b.log.writing = none ∧ s.b.f OTP_STATUS.BUSY 0 = 0 ∧ otpProgramErr
      s.b (s.b.f OTP_ADDR.INDEX 0) (s.b.f OTP_DATA.DATA 0) = 0 ∧ (∀ c < 3, s.b.sig (.otpFail c) = 0)) ∧
    (∃ (s : State) (key : Nat), running s.b = true ∧ key = 0xC3 ∧ s.b.log.writing = none ∧ s.b.f OTP_STATUS.BUSY 0 = 0 ∧ s.b.f
      OTP_ADDR.INDEX 0 < 32 ∧ s.b.counter (s.b.f OTP_ADDR.INDEX 0) < 255 ∧ (∀ c < 3, s.b.sig (.otpFail c) = 0)) ∧
    (∃ (s : State) (key : Nat), running s.b = true ∧ key = 0xC3 ∧ s.b.log.writing = none ∧ s.b.f OTP_STATUS.BUSY 0 = 0 ∧ s.b.f
      OTP_ADDR.INDEX 0 ≠ 0 ∧ s.b.f OTP_ADDR.INDEX 0 ≤ 3 ∧ s.b.finalised (s.b.f OTP_ADDR.INDEX 0) = false) ∧
    (∃ (s : State) (key : Nat), running s.b = true ∧ s.b.f OTP_STATUS.BUSY 0 = 1 ∧ s.b.otpRedir = [] ∧ s.b.otpWait = []) ∧
    (∃ (s : State) (key : Nat) (k : Nat) (rest : List Nat), running s.b = true ∧ s.b.f OTP_STATUS.BUSY 0 = 1 ∧ s.b.otpRedir = [] ∧
      s.b.otpWait = k :: rest ∧ k < 32 ∧ s.b.counter k < 255 ∧ s.b.log.writing = none ∧ s.b.holdup = none ∧ (∀ c < 3, s.b.sig (.otpFail
      c) = 0)) :=
  ⟨⟨dev .run [], 0, .pilot, by decide +kernel⟩,
   ⟨{ dev .run [] with b.log := { writing := some (0, 0, record 1) } }, 0, .pilot, by decide +kernel⟩,
   ⟨{ dev .run [(OTP_STATUS.BUSY, 0, 1)] with b.log := { writing := none } }, 0, .otpCmdProgram .keeper 0, 1, by decide +kernel⟩,
   ⟨{ dev .run [(OTP_STATUS.BUSY, 0, 0), (OTP_ADDR.INDEX, 0, 512), (OTP_DATA.DATA, 0, 5)] with b.log := { writing := none } }, 195,
     by decide +kernel⟩,
   ⟨{ dev .run [(OTP_STATUS.BUSY, 0, 0), (OTP_ADDR.INDEX, 0, 31)] with b.log := { writing := none } }, 195, by decide +kernel⟩,
   ⟨{ dev .run [(OTP_STATUS.BUSY, 0, 0), (OTP_ADDR.INDEX, 0, 1)] with b.log := { writing := none } }, 195, by decide +kernel⟩,
   ⟨dev .run [(OTP_STATUS.BUSY, 0, 1)], 0, by decide +kernel⟩,
   ⟨{ dev .run [(OTP_STATUS.BUSY, 0, 1)] with b.holdup := none, b.otpWait := [31], b.log := { writing := none } }, 0, 31, [],
     by decide +kernel⟩⟩

theorem test_LogbookWritesAndErases :
    (∃ (s : State) (r : LogRec) (rest : List LogRec) (i : Nat) (j : Nat) (l : List Nat), running s.b = true ∧ s.b.log.queue = r :: rest
      ∧ writerSlots s.mem s.b = i :: j :: l ∧ s.b.log.writing = none ∧ s.b.f OTP_STATUS.BUSY 0 = 0 ∧ s.b.log.ready = true ∧ s.b.holdup =
      none ∧ s.b.log.clr = none ∧ s.b.log.clearing = false) ∧
    (∃ (s : State) (r : LogRec) (i : Nat) (j : Nat) (l : List Nat), running s.b = true ∧ s.b.log.clr = some r ∧ writerSlots s.mem s.b =
      i :: j :: l ∧ s.b.log.writing = none ∧ s.b.f OTP_STATUS.BUSY 0 = 0 ∧ s.b.log.ready = true ∧ s.b.holdup = none) ∧
    (∃ (s : State), running s.b = true ∧ (s.b.log.clr = none ∧ (s.b.log.queue = [] ∨ s.b.log.clearing = true) ∨ s.b.log.ready = false ∨
      s.b.log.writing.isSome = true ∨ s.b.f OTP_STATUS.BUSY 0 = 1 ∨ s.b.holdup.isSome = true)) ∧
    (∃ (s : State) (i : Nat) (seq : Nat) (r : LogRec), running s.b = true ∧ s.b.log.writing = some (i, seq, r) ∧ s.b.clearWait = false ∧
      s.b.otpHeld = false) ∧
    (∃ (s : State) (i : Nat) (seq : Nat) (r : LogRec) (q : Req), running s.b = true ∧ s.b.log.writing = some (i, seq, r) ∧ r.ty = 8 ∧
      s.b.clearWait = true ∧ s.b.msg = some q) ∧
    (∃ (s : State) (p : Nat) (rest : List Nat), running s.b = true ∧ s.b.log.erase = p :: rest ∧ p < 99) ∧
    (∃ (s : State), running s.b = true ∧ s.b.log.erase = []) ∧
    (∃ (s : State) (tag : Nat) (p : Fin 4), running s.b = true) :=
  ⟨⟨{ dev .run [(OTP_STATUS.BUSY, 0, 0)] with b.holdup := none, b.log := { writing := none, ready := true, clr := none, clearing := false, queue := [record 1] } },
     record 1, [], (writerSlots {} {}).getD 0 0, (writerSlots {} {}).getD 1 0, (writerSlots {} {}).drop 2, by decide +kernel⟩,
   ⟨{ dev .run [(OTP_STATUS.BUSY, 0, 0)] with b.holdup := none, b.log := { clr := some (record 8), writing := none, ready := true } },
     record 8, (writerSlots {} {}).getD 0 0, (writerSlots {} {}).getD 1 0, (writerSlots {} {}).drop 2, by decide +kernel⟩,
   ⟨{ dev .run [] with b.log := { clr := none, queue := [] } }, by decide +kernel⟩,
   ⟨{ dev .run [] with b.clearWait := false, b.log := { writing := some (0, 0, record 1) } }, 0, 0, record 1, by decide +kernel⟩,
   ⟨{ dev .run [] with b.clearWait := true, b.msg := some (request 0xC03 []), b.log := { writing := some (0, 0, record 8) } }, 0, 0,
     record 8, request 0xC03 [], by decide +kernel⟩,
   ⟨{ dev .run [] with b.log := { erase := [98] } }, 98, [], by decide +kernel⟩,
   ⟨{ dev .run [] with b.log := { erase := [] } }, by decide +kernel⟩,
   ⟨dev .run [], 0, 3, by decide +kernel⟩⟩

theorem test_SupplyLossAndPowerUp_SupplyLossHoldsUpAndResets :
    (∃ (s : State), running s.b = true ∧ 2 ≤ s.b.vsupLow ∧ s.b.holdup = none) ∧
    (∃ (s : State), running s.b = true ∧ (s.b.vsupLow < 2 ∨ s.b.holdup.isSome = true)) ∧
    (∃ (s : State), running s.b = true ∧ 16 ≤ s.b.vholdLow.n ∧ s.b.vholdLow.raised = false) ∧
    (∃ (s : State), running s.b = true ∧ (s.b.vholdLow.n < 16 ∨ s.b.vholdLow.raised = true)) ∧
    (∃ (s : State) (h : Holdup), running s.b = true ∧ s.b.holdup = some h ∧ h.record.isSome = true) ∧
    (∃ (s : State), running s.b = true ∧ (s.b.holdup = none ∨ ∃ h, s.b.holdup = some h ∧ h.record = none)) ∧
    (∃ (s : State), running s.b = true ∧ s.b.holdup.isSome = true ∧ vholdMv s.b < 6500) ∧
    (∃ (s : State), running s.b = true ∧ (s.b.holdup = none ∨ 6500 ≤ vholdMv s.b)) :=
  ⟨⟨{ dev .run [] with b.vsupLow := 2, b.holdup := none }, by decide +kernel⟩,
   ⟨{ dev .run [] with b.vsupLow := 1 }, by decide +kernel⟩,
   ⟨{ dev .run [] with b.vholdLow := { n := 16, raised := false } }, by decide +kernel⟩,
   ⟨{ dev .run [] with b.vholdLow := { n := 15 } }, by decide +kernel⟩,
   ⟨{ dev .run [] with b.holdup := some ⟨3, 12000, 0, false, some 4, some (record 5)⟩ }, ⟨3, 12000, 0, false, some 4, some (record 5)⟩,
     by decide +kernel⟩,
   ⟨{ dev .run [] with b.holdup := none }, by decide +kernel⟩,
   ⟨{ dev .run [] with b.holdup := some ⟨3, 12000, 0, false, some 4, none⟩ }, by decide +kernel⟩,
   ⟨{ dev .run [] with b.holdup := none }, by decide +kernel⟩⟩

theorem test_SupplyLossAndPowerUp_PowerUpAndResets :
    (∃ (s : State), powerReady s.b = true ∧ pllLocked s.b = true) ∧
    (∃ (s : State), powerReady s.b = true ∧ pllLate s.b = true) ∧
    (∃ (s : State), (powerReady s.b = false ∨ pllLocked s.b = false)) ∧
    (∃ (s : State), (powerReady s.b = false ∨ pllLate s.b = false)) ∧
    (∃ (s : State), s.b.vioLow < 20) ∧
    (∃ (s : State) (c : Instr), (c = .nrstIn ∨ c = .vioLoss ∧ 20 ≤ s.b.vioLow) ∧ s.b.dev ≠ .standby ∧ s.b.dev ≠ .off) ∧
    (∃ (s : State) (c : Instr), (c = .nrstIn ∨ c = .vioLoss) ∧ (s.b.dev = .standby ∨ s.b.dev = .off)) :=
  ⟨⟨{ dev .powerup [] with b.env := envOf [(.vio, 3300), (.vddc, 900), (.avdd, 3300), (.pllLock, 1)], b.up := some 4000 },
     by decide +kernel⟩,
   ⟨{ dev .powerup [] with b.env := envOf [(.vio, 3300), (.vddc, 900), (.avdd, 3300)], b.up := some 4000 }, by decide +kernel⟩,
   ⟨dev .run [], by decide +kernel⟩,
   ⟨dev .run [], by decide +kernel⟩,
   ⟨dev .run [], by decide +kernel⟩,
   ⟨{ dev .run [] with b.vioLow := 20 }, .vioLoss, by decide +kernel⟩,
   ⟨dev .standby [], .nrstIn, by decide +kernel⟩⟩

theorem test_BootStepsAndReadiness :
    (∃ (s : State) (k : Fin 11), s.b.dev = .boot ∧ s.b.therm.stopped = false ∧ s.b.bootStep + 1 = k) ∧
    (∃ (s : State) (k : Fin 11), (s.b.dev ≠ .boot ∨ s.b.therm.stopped = true ∨ k ≤ s.b.bootStep)) ∧
    (∃ (s : State), s.b.dev = .boot ∧ s.b.therm.stopped = false ∧ s.b.bootStep = 7) ∧
    (∃ (s : State) (k : Nat), s.b.dev = .boot ∧ s.b.pilot = some k ∧ s.b.f BOOT_STATUS.PENDING 0 = 0 ∧ bootEndsSafe s.b = false) ∧
    (∃ (s : State) (k : Nat), s.b.dev = .boot ∧ s.b.pilot = some k ∧ s.b.f BOOT_STATUS.PENDING 0 = 0 ∧ bootEndsSafe s.b = true) ∧
    (∃ (s : State) (k : Nat), s.b.dev = .boot ∧ s.b.pilot = some k ∧ s.b.f BOOT_STATUS.PENDING 0 = 1 ∧ s.b.biv.ram.length = 256) ∧
    (∃ (s : State), (s.b.dev ≠ .boot ∨ s.b.pilot = none)) ∧
    (∃ (s : State) (u : Upload), running s.b = true ∧ s.b.upload = some u ∧ u.erasing = true ∧ u.slot < 2 ∧ s.b.sig .flashFail = 0) ∧
    (∃ (s : State), (s.b.upload = none ∨ ∃ u, s.b.upload = some u ∧ u.erasing = false)) :=
  ⟨⟨{ dev .boot [] with b.bootStep := 9, b.therm := { stopped := false } }, 10, by decide +kernel⟩,
   ⟨dev .run [], 10, by decide +kernel⟩,
   ⟨{ dev .boot [] with b.bootStep := 7, b.therm := { stopped := false } }, by decide +kernel⟩,
   ⟨{ dev .boot [(BOOT_STATUS.PENDING, 0, 0)] with b.pilot := some 0 }, 0, by decide +kernel⟩,
   ⟨{ dev .boot [(BOOT_STATUS.PENDING, 0, 0), (FAULT_STATE.HALT_STUCK, 0, 1)] with b.pilot := some 0, b.col := { endSafe := true } }, 0,
     by decide +kernel⟩,
   ⟨{ dev .boot [(BOOT_STATUS.PENDING, 0, 1)] with b.pilot := some 0, b.biv := { ram := List.replicate 256 0 } }, 0, by decide +kernel⟩,
   ⟨dev .run [], by decide +kernel⟩,
   ⟨{ dev .run [] with b.env := envOf [(.flashFail, 0)], b.upload := some ⟨true, 1, 0, 4096, true⟩ }, ⟨true, 1, 0, 4096, true⟩,
     by decide +kernel⟩,
   ⟨{ dev .run [] with b.upload := none }, by decide +kernel⟩⟩

theorem test_SpiAndTwoWireTransfers :
    (∃ (s : State) (off : Nat) (d : List Nat) (h : List Nat) (x : Nat), running s.b = true ∧ off < 65536 ∧ 1 ≤ d.length ∧ d.length ≤ 256
      ∧ portUp s.b 0 = true ∧ h = [2, off / 256, off % 256, d.length % 256] ++ d ∧ winAccepts s.b 0 off d.length = true) ∧
    (∃ (s : State) (off : Nat) (d : List Nat) (h : List Nat) (x : Nat), running s.b = true ∧ off < 65536 ∧ 1 ≤ d.length ∧ d.length ≤ 256
      ∧ portUp s.b 0 = true ∧ h = [2, off / 256, off % 256, d.length % 256] ++ d ∧ winAccepts s.b 0 off d.length = false) ∧
    (∃ (s : State) (off : Nat) (d : List Nat) (h : List Nat) (x : Nat) (c : Nat), running s.b = true ∧ off < 65536 ∧ 1 ≤ d.length ∧
      d.length ≤ 256 ∧ portUp s.b 0 = true ∧ h = [2, off / 256, off % 256, d.length % 256] ++ d ∧ c ≠ crc8 h) ∧
    (∃ (s : State) (off : Nat) (d : List Nat) (n : Nat) (l : List Nat), running s.b = true ∧ off < 65536 ∧ 1 ≤ d.length ∧ d.length ≤ 256
      ∧ portUp s.b 0 = true ∧ 1 ≤ n ∧ n ≤ 256 ∧ n + 2 ≤ l.length) ∧
    (∃ (s : State) (off : Nat) (d : List Nat) (p : Fin 2) (h : List Nat), running s.b = true ∧ off < 65536 ∧ 1 ≤ d.length ∧ d.length ≤
      256 ∧ twTarget s.b (p + 1) = true ∧ h = [2 * twAddr s.b (p + 1), off / 256, off % 256, d.length % 256] ++ d ∧ winAccepts s.b (p +
      1) off d.length = true) ∧
    (∃ (s : State) (off : Nat) (d : List Nat) (p : Fin 2) (h : List Nat) (c : Nat), running s.b = true ∧ off < 65536 ∧ 1 ≤ d.length ∧
      d.length ≤ 256 ∧ twTarget s.b (p + 1) = true ∧ h = [2 * twAddr s.b (p + 1), off / 256, off % 256, d.length % 256] ++ d ∧ c ≠ crc8
      h) ∧
    (∃ (s : State) (off : Nat) (d : List Nat) (p : Fin 2) (h : List Nat), running s.b = true ∧ off < 65536 ∧ 1 ≤ d.length ∧ d.length ≤
      256 ∧ twTarget s.b (p + 1) = true ∧ h = [2 * twAddr s.b (p + 1), off / 256, off % 256, d.length % 256] ++ d ∧ winAccepts s.b (p +
      1) off d.length = false) ∧
    (∃ (s : State) (off : Nat) (d : List Nat) (p : Fin 2) (h : List Nat) (n : Nat) (g : List Nat) (more : List Nat), running s.b = true
      ∧ off < 65536 ∧ 1 ≤ d.length ∧ d.length ≤ 256 ∧ twTarget s.b (p + 1) = true ∧ h = [2 * twAddr s.b (p + 1), off / 256, off % 256,
      d.length % 256] ++ d ∧ 1 ≤ n ∧ n ≤ 256 ∧ g = [2 * twAddr s.b (p + 1), off / 256, off % 256, n % 256, 2 * twAddr s.b (p + 1) + 1]) ∧
    (∃ (s : State) (off : Nat) (d : List Nat) (p : Fin 2) (l : List Nat) (stop : Bool), running s.b = true ∧ off < 65536 ∧ 1 ≤ d.length
      ∧ d.length ≤ 256 ∧ l.getD 0 0 ≠ 2 * twAddr s.b (p + 1)) :=
  ⟨⟨dev .run [], 4096, [7, 8, 9, 10], [2, 16, 0, 4, 7, 8, 9, 10], 0, by decide +kernel⟩,
   ⟨dev .run [], 32, [7], [2, 0, 32, 1, 7], 0, by decide +kernel⟩,
   ⟨dev .run [], 4096, [7, 8, 9, 10], [2, 16, 0, 4, 7, 8, 9, 10], 0, 300, by decide +kernel⟩,
   ⟨dev .run [], 4096, [7, 8, 9, 10], 256, List.replicate 258 0, by decide +kernel⟩,
   ⟨dev .run [(HOST_TW_CFG.TW1_TGT, 0, 1), (HOST_TW_CFG.TW1_ADDR, 0, 65)], 4096, [7, 8, 9, 10], 1, [130, 16, 0, 4, 7, 8, 9, 10],
     by decide +kernel⟩,
   ⟨dev .run [(HOST_TW_CFG.TW1_TGT, 0, 1), (HOST_TW_CFG.TW1_ADDR, 0, 65)], 4096, [7, 8, 9, 10], 1, [130, 16, 0, 4, 7, 8, 9, 10], 300,
     by decide +kernel⟩,
   ⟨dev .run [(HOST_TW_CFG.TW1_TGT, 0, 1), (HOST_TW_CFG.TW1_ADDR, 0, 65)], 32, [7], 1, [130, 0, 32, 1, 7], by decide +kernel⟩,
   ⟨dev .run [(HOST_TW_CFG.TW1_TGT, 0, 1), (HOST_TW_CFG.TW1_ADDR, 0, 65)], 4096, [7, 8, 9, 10], 1, [130, 16, 0, 4, 7, 8, 9, 10], 256,
     [130, 16, 0, 0, 131], [1, 2], by decide +kernel⟩,
   ⟨dev .run [(HOST_TW_CFG.TW1_ADDR, 0, 65)], 4096, [7, 8, 9, 10], 1, [2, 3], true, by decide +kernel⟩⟩

theorem test_SpiAndTwoWireTransfers_TwoWireControllerRecovers :
    (∃ (s : State) (l : List Nat), running s.b = true ∧ l = [2 * s.b.f HOST_TW_CFG.NOTIFY_ADDR 0, 2 * s.b.f HOST_TW_CFG.TW0_ADDR 0,
      Tab.get s.b.attn 0 1 % 256] ∧ s.b.tw.due = true ∧ s.b.f HOST_TW_CFG.NOTIFY_EN 0 = 1 ∧ (s.b.tw.notifyAt = 0 ∨ s.b.tw.notifyAt - 1 +
      2000 * atLeast1 (s.b.f HOST_TW_CFG.NOTIFY_GAP 0) ≤ s.tick)) ∧
    (∃ (s : State), running s.b = true ∧ (s.b.tw.due = false ∨ s.b.f HOST_TW_CFG.NOTIFY_EN 0 = 0)) ∧
    (∃ (s : State), running s.b = true ∧ s.b.tw.notifyAt ≠ 0 ∧ s.b.tw.repeats < 2 ∧ s.b.tw.notifyAt - 1 + 2000 * (s.b.tw.repeats + 1) ≤
      s.tick) ∧
    (∃ (s : State), running s.b = true ∧ 2 ≤ s.b.tw.repeats) ∧
    (∃ (s : State) (p : Fin 2), running s.b = true ∧ Tab.get s.b.tw.own [] (p + 1) ≠ []) ∧
    (∃ (s : State) (p : Fin 2) (e : Bool), running s.b = true ∧ Tab.get s.b.tw.own [] (p + 1) = []) ∧
    (∃ (s : State) (p : Fin 2), running s.b = true ∧ (p.val + 1) ∈ s.b.tw.again) ∧
    (∃ (s : State) (p : Fin 2), running s.b = true ∧ (p.val + 1) ∉ s.b.tw.again) ∧
    (∃ (s : State) (p : Fin 2) (n : Nat) (h : Nat), running s.b = true ∧ Tab.get s.b.tw.hungAt 0 (p + 1) = h + 1 ∧ h + 200000 ≤ s.tick ∧
      n ≤ 9) ∧
    (∃ (s : State) (p : Fin 2) (n : Nat) (h : Nat), running s.b = true ∧ Tab.get s.b.tw.hungAt 0 (p + 1) = h + 1 ∧ h + 200000 ≤ s.tick ∧
      9 < n) ∧
    (∃ (s : State) (p : Fin 2) (n : Nat), running s.b = true ∧ Tab.get s.b.tw.hungAt 0 (p + 1) = 0) :=
  ⟨⟨{ dev .run [(HOST_TW_CFG.NOTIFY_EN, 0, 1), (HOST_TW_CFG.NOTIFY_ADDR, 0, 8), (HOST_TW_CFG.TW0_ADDR, 0, 64)] with b.attn := [(1, 16)], b.tw := { due := true, notifyAt := 0 } },
     [16, 128, 16], by decide +kernel⟩,
   ⟨{ dev .run [] with b.tw := { due := false } }, by decide +kernel⟩,
   ⟨{ dev .run [] 4000 with b.tw := { notifyAt := 1, repeats := 1 } }, by decide +kernel⟩,
   ⟨{ dev .run [] with b.tw := { repeats := 2 } }, by decide +kernel⟩,
   ⟨{ dev .run [] with b.tw := { own := [(2, [16, 1])] } }, 1, by decide +kernel⟩,
   ⟨dev .run [], 1, true, by decide +kernel⟩,
   ⟨{ dev .run [] with b.tw := { again := [2] } }, 1, by decide +kernel⟩,
   ⟨dev .run [], 1, by decide +kernel⟩,
   ⟨{ dev .run [] 200004 with b.tw := { hungAt := [(2, 5)] } }, 1, 9, 4, by decide +kernel⟩,
   ⟨{ dev .run [] 200004 with b.tw := { hungAt := [(2, 5)] } }, 1, 10, 4, by decide +kernel⟩,
   ⟨dev .run [], 1, 0, by decide +kernel⟩⟩

theorem test_QuaysCarryMessages :
    (∃ (s : State) (p : Fin 4) (q : Fin 4) (n : Nat), running s.b = true ∧ portOn s.b p = true ∧ leNat ((s.b.qy p q).bytes 4 2) = n ∧
      quaysOpenNow s.b = true ∧ (s.b.qy p q).queued ≠ 4 ∧ n ≤ 492) ∧
    (∃ (s : State) (p : Fin 4) (q : Fin 4), running s.b = true ∧ portOn s.b p = true ∧ quaysOpenNow s.b = true ∧ (s.b.qy p q).queued ≠ 4
      ∧ 492 < leNat ((s.b.qy p q).bytes 4 2)) ∧
    (∃ (s : State) (p : Fin 4) (q : Fin 4), running s.b = true ∧ portOn s.b p = true ∧ (quaysOpenNow s.b = false ∨ (s.b.qy p q).queued =
      4)) ∧
    (∃ (s : State) (p : Fin 4) (q : Fin 4), running s.b = true ∧ portOn s.b p = false) ∧
    (∃ (s : State) (r : Req) (rest : List Req), running s.b = true ∧ s.b.msg = none ∧ s.b.hq = r :: rest ∧ r.psn ≠ []) ∧
    (∃ (s : State) (r : Req) (rest : List Req), running s.b = true ∧ s.b.msg = none ∧ s.b.hq = r :: rest ∧ r.psn = []) ∧
    (∃ (s : State), running s.b = true ∧ (s.b.msg.isSome = true ∨ s.b.hq = [])) ∧
    (∃ (s : State) (r : Req) (m : List Nat), running s.b = true ∧ s.b.msg = some r ∧ answerNow s.b r = some m) ∧
    (∃ (s : State) (r : Req), running s.b = true ∧ s.b.answer = none ∧ opcodes.contains (msgOp r.msg) = false ∧ msgCrcOk r.msg = true) ∧
    (∃ (s : State) (p : Fin 4) (q : Fin 4) (m : List Nat) (rest : List (List Nat)), running s.b = true ∧ (s.b.qy p q).posted = m :: rest
      ∧ p.val ≠ 3 ∧ (s.b.qy p q).resp = false ∧ (s.b.qy p q).ackAt ≠ s.tick + 1) ∧
    (∃ (s : State) (p : Fin 4) (q : Fin 4) (m : List Nat) (rest : List (List Nat)), running s.b = true ∧ (s.b.qy p q).posted = m :: rest
      ∧ p.val = 3 ∧ (s.b.qy p q).resp = false ∧ (s.b.qy p q).ackAt ≠ s.tick + 1) ∧
    (∃ (s : State) (p : Fin 4) (q : Fin 4) (m : List Nat) (rest : List (List Nat)), running s.b = true ∧ (s.b.qy p q).posted = m :: rest
      ∧ (s.b.qy p q).resp = true) ∧
    (∃ (s : State) (p : Fin 4) (q : Fin 4) (r : Req), running s.b = true ∧ s.b.msg = some r ∧ r.port = p ∧ r.quay = q ∧ r.dead = false ∧
      execDue s.b r ≤ s.tick) ∧
    (∃ (s : State) (p : Fin 4) (q : Fin 4), running s.b = true ∧ s.b.msg = none ∧ (∀ r ∈ s.b.hq, s.tick < execDue s.b r)) :=
  ⟨⟨{ dev .run [(HOST_PORT_CFG.CLASS, 3, 1)] with b.quay := [(15, { queued := 3, buf := [(4, 236), (5, 1)] })], b.quaysOpen := true },
     3, 3, 492, by decide +kernel⟩,
   ⟨{ dev .run [(HOST_PORT_CFG.CLASS, 3, 1)] with b.quay := [(15, { queued := 3, buf := [(4, 237), (5, 1)] })], b.quaysOpen := true },
     3, 3, by decide +kernel⟩,
   ⟨dev .run [], 3, 3, by decide +kernel⟩,
   ⟨dev .run [(HOST_PORT_CFG.CLASS, 3, 3)], 3, 3, by decide +kernel⟩,
   ⟨{ dev .run [] with b.msg := none, b.hq := [{ request 0 [] with psn := [1] }] }, { request 0 [] with psn := [1] }, [],
     by decide +kernel⟩,
   ⟨{ dev .run [] with b.msg := none, b.hq := [request 0 []] }, request 0 [], [], by decide +kernel⟩,
   ⟨{ dev .run [] with b.msg := some (request 0 []) }, by decide +kernel⟩,
   ⟨{ dev .run [] with b.msg := some (request 0xFFF []) }, request 0xFFF [], respond (request 0xFFF []).msg 0x80 sBAD_OPCODE [],
     by decide +kernel⟩,
   ⟨{ dev .run [] with b.answer := none }, request 0xFFF [], by decide +kernel⟩,
   ⟨{ dev .run [] with b.quay := [(11, { resp := false, posted := [[1, 2, 3, 4]] })] }, 2, 3, [1, 2, 3, 4], [], by decide +kernel⟩,
   ⟨{ dev .run [] with b.quay := [(15, { resp := false, posted := [[1, 2, 3, 4]] })] }, 3, 3, [1, 2, 3, 4], [], by decide +kernel⟩,
   ⟨{ dev .run [] with b.quay := [(15, { resp := true, posted := [[1, 2, 3, 4]] })] }, 3, 3, [1, 2, 3, 4], [], by decide +kernel⟩,
   ⟨{ dev .run [(QUAY_CFG.EXEC_TMO, 0, 1)] 2003 with b.msg := some { request 0 [] with port := 3, quay := 3 } }, 3, 3, { request 0 []
     with port := 3, quay := 3 }, by decide +kernel⟩,
   ⟨{ dev .run [] with b.msg := none }, 3, 3, by decide +kernel⟩⟩

theorem test_RingRelaysAndAligns :
    (∃ (s : State) (e : Fin 2) (l : List Nat) (r : Int), running s.b = true ∧ sideFit s.b e = true ∧ (∀ x ∈ l, x < 256) ∧ frOk l = true
      ∧ wrapped s.b e = false ∧ s.b.f HW_CFG.NODE_ID 0 ≠ 0 ∧ frSrc l ≠ s.b.f HW_CFG.NODE_ID 0 ∧ frHops l < 4095 ∧ wrapped s.b (1 - e) =
      false) ∧
    (∃ (s : State) (e : Fin 2) (l : List Nat) (r : Int), running s.b = true ∧ sideFit s.b e = true ∧ (∀ x ∈ l, x < 256) ∧ frOk l = true
      ∧ wrapped s.b e = false ∧ s.b.f HW_CFG.NODE_ID 0 ≠ 0 ∧ frSrc l = s.b.f HW_CFG.NODE_ID 0 ∧ frSeq l < s.b.hw.sent) ∧
    (∃ (s : State) (e : Fin 2) (l : List Nat) (r : Int), running s.b = true ∧ sideFit s.b e = true ∧ (∀ x ∈ l, x < 256) ∧ frOk l = true
      ∧ wrapped s.b e = false ∧ s.b.f HW_CFG.NODE_ID 0 ≠ 0 ∧ frSrc l = s.b.f HW_CFG.NODE_ID 0 ∧ s.b.hw.sent ≤ frSeq l) ∧
    (∃ (s : State) (e : Fin 2) (l : List Nat), running s.b = true ∧ sideFit s.b e = true ∧ (∀ x ∈ l, x < 256) ∧ wrapped s.b e = true ∧
      bit s.b.hw.good e = true ∧ Tab.get s.b.hw.lossAt 0 e + 2000 ≤ s.tick) ∧
    (∃ (s : State) (e : Fin 2) (l : List Nat), running s.b = true ∧ sideFit s.b e = true ∧ (∀ x ∈ l, x < 256) ∧ (bit s.b.hw.good e =
      false ∨ s.tick < Tab.get s.b.hw.lossAt 0 e + 2000)) ∧
    (∃ (s : State) (e : Fin 2) (l : List Nat) (id : Nat), running s.b = true ∧ sideFit s.b e = true ∧ (∀ x ∈ l, x < 256) ∧ s.b.f
      HW_CFG.NODE_ID 0 = id ∧ hwNode s.b = true ∧ ringTick s.b s.tick % 524288 = (64 * id : Nat) % 524288 ∧ Tab.get s.b.hw.beacon 0 id ≠
      s.tick + 1) ∧
    (∃ (s : State) (e : Fin 2) (l : List Nat), running s.b = true ∧ sideFit s.b e = true ∧ (∀ x ∈ l, x < 256) ∧ hwNode s.b = false) ∧
    (∃ (s : State) (e : Fin 2) (l : List Nat), running s.b = true ∧ sideFit s.b e = true ∧ (∀ x ∈ l, x < 256) ∧ frFor s.b e l 2 = true ∧
      frFirst s.tick s.b l = true) ∧
    (∃ (s : State) (e : Fin 2) (l : List Nat), running s.b = true ∧ sideFit s.b e = true ∧ (∀ x ∈ l, x < 256) ∧ frFirst s.tick s.b l =
      false) ∧
    (∃ (s : State) (e : Fin 2) (l : List Nat) (a : Int) (d : Int) (k : Int), running s.b = true ∧ sideFit s.b e = true ∧ (∀ x ∈ l, x <
      256) ∧ frFor s.b e l 1 = true ∧ frFirst s.tick s.b l = true ∧ wrapped s.b e = false ∧ e = 0 ∧ frSrc l = s.b.f
      ALIGN_STATUS.MASTER_ID 0 ∧ d = a - 64000 - (frHops l : Int) * 10240 - frCorr l - cableOf s.b e ∧ k = roundHalfUp ((d : Rat) /
      32000)) ∧
    (∃ (s : State) (e : Fin 2) (l : List Nat) (a : Int), running s.b = true ∧ sideFit s.b e = true ∧ (∀ x ∈ l, x < 256) ∧ (frSrc l ≠
      s.b.f ALIGN_STATUS.MASTER_ID 0 ∨ frFirst s.tick s.b l = false)) ∧
    (∃ (s : State) (e : Fin 2) (l : List Nat) (n : Nat), running s.b = true ∧ sideFit s.b e = true ∧ (∀ x ∈ l, x < 256) ∧ frFor s.b e l
      3 = true ∧ frFirst s.tick s.b l = true ∧ frHops l = 0) ∧
    (∃ (s : State) (e : Fin 2) (l : List Nat) (n : Nat), running s.b = true ∧ sideFit s.b e = true ∧ (∀ x ∈ l, x < 256) ∧ (frHops l ≠ 0
      ∨ frFirst s.tick s.b l = false)) :=
  ⟨⟨dev .run [(HW_CFG.NODE_ID, 0, 1)], 1, hwBytes 4 7 0 3 4094 5 [1, 2], 0, by decide +kernel⟩,
   ⟨{ dev .run [(HW_CFG.NODE_ID, 0, 1)] with b.hw := { sent := 4 } }, 1, hwBytes 4 1 0 3 9 5 [1, 2], 0, by decide +kernel⟩,
   ⟨{ dev .run [(HW_CFG.NODE_ID, 0, 1)] with b.hw := { sent := 4 } }, 1, hwBytes 4 1 0 4 9 5 [1, 2], 0, by decide +kernel⟩,
   ⟨{ dev .run [(HW_STATUS.WRAP_B, 0, 1)] 2009 with b.hw := { good := 2, lossAt := [(1, 9)] } }, 1, [], by decide +kernel⟩,
   ⟨dev .run [], 1, [], by decide +kernel⟩,
   ⟨dev .run [(HW_CFG.NODE_ID, 0, 4095)] 262080, 1, [], 4095, by decide +kernel⟩,
   ⟨dev .run [], 1, [], by decide +kernel⟩,
   ⟨dev .run [(HW_CFG.NODE_ID, 0, 1)], 1, hwBytes 2 7 0 3 0 0 [0, 0, 0, 0], by decide +kernel⟩,
   ⟨{ dev .run [] 524293 with b.hw := { seen := [(7, 3, 5)] } }, 1, hwBytes 2 7 0 3 0 0 [], by decide +kernel⟩,
   ⟨dev .run [(HW_CFG.NODE_ID, 0, 1), (ALIGN_STATUS.MASTER_ID, 0, 7)], 0, hwBytes 1 7 0 3 2 5 [1, 2, 3, 4, 5, 6, 7, 8], 100000, 15515,
     0, by decide +kernel⟩,
   ⟨dev .run [], 1, hwBytes 1 7 0 3 2 5 [], 0, by decide +kernel⟩,
   ⟨dev .run [(HW_CFG.NODE_ID, 0, 1)], 1, hwBytes 3 7 0 3 0 0 [], 65535, by decide +kernel⟩,
   ⟨dev .run [], 1, hwBytes 3 7 0 3 1 0 [], 0, by decide +kernel⟩⟩

theorem test_RingCarriesFaultsTokensAndMessages :
    (∃ (s : State) (e : Fin 2) (l : List Nat) (g : Fin 8), running s.b = true ∧ frFor s.b e l 4 = true ∧ frFirst s.tick s.b l = true ∧
      lowestDomain s.b = some g.val ∧ s.b.dev = .run ∧ (frPay l).getD 0 0 < 16 ∧ bit (s.b.f HW_CFG2.ZONE_RX 0) ((frPay l).getD 0 0) =
      true) ∧
    (∃ (s : State) (e : Fin 2) (l : List Nat), running s.b = true ∧ frFor s.b e l 4 = true ∧ frFirst s.tick s.b l = true ∧ s.b.dev ≠
      .run) ∧
    (∃ (s : State) (e : Fin 2) (l : List Nat), running s.b = true ∧ frFirst s.tick s.b l = false) ∧
    (∃ (s : State) (e : Fin 2) (l : List Nat), running s.b = true ∧ frFor s.b e l 5 = true ∧ frFirst s.tick s.b l = true) ∧
    (∃ (s : State) (e : Fin 2) (l : List Nat), running s.b = true ∧ frFor s.b e l 6 = true ∧ frFirst s.tick s.b l = true ∧ frDst l =
      s.b.f HW_CFG.NODE_ID 0 ∧ frSrc l = s.b.f HW_CFG2.RELAY_NODE 0 ∧ (frPay l).getD 0 0 < 4 ∧ portOn s.b 3 = true ∧ quaysOpenNow s.b =
      true ∧ (s.b.qy 3 ((frPay l).getD 0 0)).queued < 4 ∧ leNat (((s.b.qy 3 ((frPay l).getD 0 0)).put 0 ((frPay l).drop 4)).bytes 4 2) ≤
      492) ∧
    (∃ (s : State) (e : Fin 2) (l : List Nat), running s.b = true ∧ frFor s.b e l 6 = true ∧ frFirst s.tick s.b l = true ∧ frDst l =
      s.b.f HW_CFG.NODE_ID 0 ∧ (frSrc l ≠ s.b.f HW_CFG2.RELAY_NODE 0 ∨ 4 ≤ (frPay l).getD 0 0 ∨ portOn s.b 3 = false)) ∧
    (∃ (s : State) (e : Fin 2) (l : List Nat) (p : Nat) (node : Nat) (q : Nat) (due : Nat) (r : Req), running s.b = true ∧ s.b.hw.relay
      = some (p, node, q, due) ∧ s.b.msg = some r ∧ frFor s.b e l 7 = true ∧ frFirst s.tick s.b l = true ∧ frSrc l = node ∧ (frPay
      l).getD 0 0 = q ∧ msgHead ((frPay l).drop 4) = relayHead r ∧ s.b.hw.late.contains (node, q, relayHead r) = true) ∧
    (∃ (s : State) (e : Fin 2) (l : List Nat) (p : Nat) (node : Nat) (q : Nat) (due : Nat) (r : Req), running s.b = true ∧ s.b.hw.relay
      = some (p, node, q, due) ∧ s.b.msg = some r ∧ frFor s.b e l 7 = true ∧ frFirst s.tick s.b l = true ∧ frSrc l = node ∧ (frPay
      l).getD 0 0 = q ∧ s.tick ≤ due ∧ msgHead ((frPay l).drop 4) = relayHead r ∧ s.b.hw.late.contains (node, q, relayHead r) = false) ∧
    (∃ (s : State) (e : Fin 2) (l : List Nat) (p : Nat) (node : Nat) (q : Nat) (due : Nat) (r : Req), running s.b = true ∧ s.b.hw.relay
      = some (p, node, q, due) ∧ s.b.msg = some r ∧ due ≤ s.tick) ∧
    (∃ (s : State) (e : Fin 2) (l : List Nat) (p : Nat) (node : Nat) (q : Nat) (due : Nat) (r : Req), running s.b = true ∧ s.b.hw.relay
      = some (p, node, q, due) ∧ s.b.msg = some r ∧ s.tick < due) ∧
    (∃ (s : State) (e : Fin 2) (l : List Nat), running s.b = true ∧ s.b.hw.relay = none) ∧
    (∃ (s : State) (e : Fin 2) (l : List Nat) (p : Fin 4) (m : List Nat) (x : Nat), running s.b = true ∧ heldOf s.b p = some ⟨m, some x⟩
      ∧ x + 2000000 ≤ s.tick) ∧
    (∃ (s : State) (e : Fin 2) (l : List Nat) (p : Fin 4), (heldOf s.b p = none ∨ ∃ m x, heldOf s.b p = some ⟨m, some x⟩ ∧ s.tick < x +
      2000000) ∧ running s.b = true) :=
  ⟨⟨dev .run [(HW_CFG.NODE_ID, 0, 1), (SEQ_GRP_CFG.DOMAIN, 7, 1), (SEQ_GRP_STATE.STATE, 7, 2), (HW_CFG2.ZONE_RX, 0, 32768)], 1, hwBytes
     4 7 0 3 2 5 [15, 0, 0, 0], 7, by decide +kernel⟩,
   ⟨dev .ready [(HW_CFG.NODE_ID, 0, 1)], 1, hwBytes 4 7 0 3 2 5 [15, 0, 0, 0], by decide +kernel⟩,
   ⟨{ dev .run [(HW_CFG.NODE_ID, 0, 1)] 524293 with b.hw := { seen := [(7, 3, 5)] } }, 1, hwBytes 4 7 0 3 2 5 [15], by decide +kernel⟩,
   ⟨dev .run [(HW_CFG.NODE_ID, 0, 1), (SEQ_GRP_STATE.STATE, 7, 1)], 1, hwBytes 5 7 0 3 2 5 [15, 1, 2, 3, 4, 5, 6, 7, 0],
     by decide +kernel⟩,
   ⟨{ dev .run [(HW_CFG.NODE_ID, 0, 1), (HW_CFG2.RELAY_NODE, 0, 7), (HOST_PORT_CFG.CLASS, 3, 1)] with b.quaysOpen := true }, 1, hwBytes
     6 7 1 3 2 5 ([3, 0, 0, 0] ++ (request 0 []).msg), by decide +kernel⟩,
   ⟨dev .run [(HW_CFG.NODE_ID, 0, 1), (HW_CFG2.RELAY_NODE, 0, 8)], 1, hwBytes 6 7 1 3 2 5 ([3, 0, 0, 0] ++ (request 0 []).msg),
     by decide +kernel⟩,
   ⟨{ dev .run [(HW_CFG.NODE_ID, 0, 1)] 2 with b.msg := some (request 0x1101 (List.replicate 8 0 ++ [1, 2, 3, 4, 5, 6, 7, 8, 9, 10, 11,
                                                 12])), b.hw := { relay := some (2, 7, 3, 2), late := [(7, 3, [1, 2, 4, 9, 10, 11, 12])] } },
     1, hwBytes 7 7 1 3 2 5 ([3, 0, 0, 0] ++ [1, 2, 3, 4, 5, 6, 7, 8, 9, 10, 11, 12]), 2, 7, 3, 2, request 0x1101 (List.replicate 8 0 ++
     [1, 2, 3, 4, 5, 6, 7, 8, 9, 10, 11, 12]), by decide +kernel⟩,
   ⟨{ dev .run [(HW_CFG.NODE_ID, 0, 1)] 2 with b.msg := some (request 0x1101 (List.replicate 8 0 ++ [1, 2, 3, 4, 5, 6, 7, 8, 9, 10, 11,
                                                 12])), b.hw := { relay := some (2, 7, 3, 2) } }, 1, hwBytes 7 7 1 3 2 5 ([3, 0, 0, 0]
     ++ [1, 2, 3, 4, 5, 6, 7, 8, 9, 10, 11, 12]), 2, 7, 3, 2, request 0x1101 (List.replicate 8 0 ++ [1, 2, 3, 4, 5, 6, 7, 8, 9, 10, 11,
     12]), by decide +kernel⟩,
   ⟨{ dev .run [(HW_CFG.NODE_ID, 0, 1)] 2 with b.msg := some (request 0x1101 []), b.hw := { relay := some (0, 0, 0, 2) } }, 1, [], 0, 0,
     0, 2, request 0x1101 [], by decide +kernel⟩,
   ⟨{ dev .run [(HW_CFG.NODE_ID, 0, 1)] 2 with b.msg := some (request 0x1101 []), b.hw := { relay := some (0, 0, 0, 3) } }, 1, [], 0, 0,
     0, 3, request 0x1101 [], by decide +kernel⟩,
   ⟨{ dev .run [(HW_CFG.NODE_ID, 0, 1)] with b.hw := { relay := none } }, 1, [], by decide +kernel⟩,
   ⟨{ dev .run [(HW_CFG.NODE_ID, 0, 1)] 2000004 with b.hw := { held := [(3, some ⟨[1], some 4⟩)] } }, 1, [], 3, [1], 4,
     by decide +kernel⟩,
   ⟨dev .run [(HW_CFG.NODE_ID, 0, 1)], 1, [], 3, Or.inl (by decide +kernel), by decide +kernel⟩⟩

theorem test_OpcodesCheckBeforeActing_OpcodesCheckTheMessage :
    (∃ (s : State) (c : Instr) (code : Nat) (r : Req) (st : Nat), (msgCrcOk r.msg = false ∧ st = sBAD_CRC ∨ msgCrcOk r.msg = true ∧
      msgFlags r.msg ≠ 0 ∧ st = sBAD_OPCODE ∨ (msgCrcOk r.msg = true ∧ msgFlags r.msg = 0 ∧ ∃ len cls : Nat, (code, len, cls) ∈
      opcodeNeeds ∧ (msgLen r.msg ≠ len ∧ st = sBAD_LENGTH ∨ msgLen r.msg = len ∧ portClass s.b r.port < cls ∧ st = sDENIED))) ∧ ((c,
      code) ∈ plainOpcodes ∨ (c, code) ∈ shortOpcodes) ∧ s.b.msg = some r ∧ s.b.answer = none ∧ s.b.wait = none ∧ quaysOpenNow s.b =
      true ∧ msgOp r.msg = code ∧ (c, code) ∈ plainOpcodes) ∧
    (∃ (s : State) (c : Instr) (code : Nat), (s.b.msg = none ∨ s.b.answer.isSome = true ∨ s.b.wait.isSome = true ∨ quaysOpenNow s.b =
      false ∨ ∃ r : Req, s.b.msg = some r ∧ msgOp r.msg ≠ code) ∧ ((c, code) ∈ plainOpcodes ∨ (c, code) ∈ shortOpcodes)) :=
  ⟨⟨{ dev .run [] with b.msg := some { request 0 [] with msg := [0] }, b.answer := none, b.quaysOpen := true }, .sysInfo, 0, { request 0
     [] with msg := [0] }, 3, Or.inl (by decide +kernel), by decide +kernel⟩,
   ⟨{ dev .run [] with b.msg := none }, .sysInfo, 0, Or.inl (by decide +kernel), by decide +kernel⟩⟩

theorem test_OpcodesCheckBeforeActing_OpcodesCheckStateLeaseAndRange :
    (∃ (s : State) (r : Req) (p : List Nat) (n : Nat) (st : Nat), p = msgPay r.msg ∧ n = pU8 p 0 ∧ st ≠ sOK ∧ leaseCheck s.b r.port 0 n
      (msgLease r.msg) r.edge = st ∧ Asked s r 0x203 4 1) ∧
    (∃ (s : State) (r : Req) (p : List Nat) (n : Nat) (st : Nat), p = msgPay r.msg ∧ n = pU8 p 0 ∧ st ≠ sOK ∧ leaseCheck s.b r.port 1 n
      (msgLease r.msg) r.edge = st ∧ Asked s r 0x401 8 1) ∧
    (∃ (s : State) (r : Req) (p : List Nat) (n : Nat) (st : Nat), p = msgPay r.msg ∧ n = pU8 p 0 ∧ st ≠ sOK ∧ leaseCheck s.b r.port 1 n
      (msgLease r.msg) r.edge = st ∧ Asked s r 0x402 4 1) ∧
    (∃ (s : State) (r : Req) (p : List Nat) (n : Nat) (st : Nat), p = msgPay r.msg ∧ n = pU8 p 0 ∧ st ≠ sOK ∧ leaseCheck s.b r.port 1 n
      (msgLease r.msg) r.edge = st ∧ Asked s r 0x403 4 1) ∧
    (∃ (s : State) (r : Req) (p : List Nat) (n : Nat) (st : Nat), p = msgPay r.msg ∧ n = pU8 p 0 ∧ st ≠ sOK ∧ leaseCheck s.b r.port 1 n
      (msgLease r.msg) r.edge = st ∧ Asked s r 0x404 36 1) ∧
    (∃ (s : State) (r : Req) (p : List Nat) (n : Nat) (st : Nat), p = msgPay r.msg ∧ n = pU8 p 0 ∧ st ≠ sOK ∧ leaseCheck s.b r.port 2 n
      (msgLease r.msg) r.edge = st ∧ Asked s r 0x601 4 1) ∧
    (∃ (s : State) (r : Req) (p : List Nat) (n : Nat) (st : Nat), p = msgPay r.msg ∧ n = pU8 p 0 ∧ st ≠ sOK ∧ leaseCheck s.b r.port 2 n
      (msgLease r.msg) r.edge = st ∧ Asked s r 0x603 4 1) ∧
    (∃ (s : State) (r : Req) (p : List Nat) (n : Nat), p = msgPay r.msg ∧ n = pU8 p 0 ∧ s.b.safeNow = true ∧ Asked s r 0x600 4 1) ∧
    (∃ (s : State) (r : Req) (p : List Nat) (n : Nat), p = msgPay r.msg ∧ n = pU8 p 0 ∧ s.b.safeNow = true ∧ Asked s r 0x602 4 1) ∧
    (∃ (s : State) (r : Req) (p : List Nat) (n : Nat), p = msgPay r.msg ∧ n = pU8 p 0 ∧ s.b.safeNow = true ∧ 1 ≤ pU8 p 1 ∧ Asked s r
      0x400 4 1) ∧
    (∃ (s : State) (r : Req) (p : List Nat) (n : Nat), p = msgPay r.msg ∧ n = pU8 p 0 ∧ s.b.safeNow = true ∧ 1 ≤ pU8 p 2 ∧ Asked s r
      0x500 8 1) ∧
    (∃ (s : State) (r : Req) (p : List Nat) (n : Nat), p = msgPay r.msg ∧ n = pU8 p 0 ∧ s.b.safeNow = true ∧ 1 ≤ n ∧ Asked s r 0x800 12
      1) ∧
    (∃ (s : State) (r : Req) (p : List Nat) (n : Nat), p = msgPay r.msg ∧ n = pU8 p 0 ∧ s.b.safeNow = true ∧ pU8 p 1 = 1 ∧ n < 32 ∧
      Asked s r 0x200 4 1) ∧
    (∃ (s : State) (r : Req) (p : List Nat) (n : Nat), p = msgPay r.msg ∧ n = pU8 p 0 ∧ 32 ≤ n ∧ Asked s r 0x201 4 0) ∧
    (∃ (s : State) (r : Req) (p : List Nat) (n : Nat), p = msgPay r.msg ∧ n = pU8 p 0 ∧ 2 ≤ n ∧ Asked s r 0x300 4 0) ∧
    (∃ (s : State) (r : Req) (p : List Nat) (n : Nat), p = msgPay r.msg ∧ n = pU8 p 0 ∧ 2 ≤ n ∧ Asked s r 0x301 4 1) ∧
    (∃ (s : State) (r : Req) (p : List Nat) (n : Nat), p = msgPay r.msg ∧ n = pU8 p 0 ∧ 2 ≤ n ∧ Asked s r 0x3 4 1) ∧
    (∃ (s : State) (r : Req) (p : List Nat) (n : Nat), p = msgPay r.msg ∧ n = pU8 p 0 ∧ 8 ≤ n ∧ Asked s r 0x405 4 0) ∧
    (∃ (s : State) (r : Req) (p : List Nat) (n : Nat), p = msgPay r.msg ∧ n = pU8 p 0 ∧ 8 ≤ n ∧ Asked s r 0x604 4 0) ∧
    (∃ (s : State) (r : Req) (p : List Nat) (n : Nat), p = msgPay r.msg ∧ n = pU8 p 0 ∧ 128 ≤ n ∧ Asked s r 0x700 4 0) ∧
    (∃ (s : State) (r : Req) (p : List Nat) (n : Nat), p = msgPay r.msg ∧ n = pU8 p 0 ∧ 128 ≤ n ∧ Asked s r 0x701 4 0) ∧
    (∃ (s : State) (r : Req) (p : List Nat) (n : Nat), p = msgPay r.msg ∧ n = pU8 p 0 ∧ 2048 < pU16 p 0 + pU16 p 2 ∧ Asked s r 0xF00 4
      0) ∧
    (∃ (s : State) (r : Req) (p : List Nat) (n : Nat) (c : Instr) (code : Nat) (len : Nat) (cls : Nat), p = msgPay r.msg ∧ n = pU8 p 0 ∧
      s.b.msg = some r ∧ s.b.answer = none ∧ s.b.wait = none ∧ quaysOpenNow s.b = true ∧ msgCrcOk r.msg = true ∧ msgFlags r.msg = 0 ∧
      s.b.f BOOT_STATUS.RECOVERY 0 = 1 ∧ (c, code) ∈ plainOpcodes ∧ (code, len, cls) ∈ opcodeNeeds ∧ code / 256 ≠ 0 ∧ code / 256 ≠ 0xE ∧
      msgOp r.msg = code ∧ msgLen r.msg = len ∧ cls ≤ portClass s.b r.port) :=
  ⟨⟨heard (request 0x203 [0, 0, 0, 0]) (dev .run []), request 0x203 [0, 0, 0, 0], [0, 0, 0, 0], 0, sDENIED, by decide +kernel⟩,
   ⟨heard (request 0x401 [0, 0, 0, 0, 0, 0, 0, 0]) (dev .run []), request 0x401 [0, 0, 0, 0, 0, 0, 0, 0], [0, 0, 0, 0, 0, 0, 0, 0], 0,
     sDENIED, by decide +kernel⟩,
   ⟨heard (request 0x402 [0, 0, 0, 0]) (dev .run []), request 0x402 [0, 0, 0, 0], [0, 0, 0, 0], 0, sDENIED, by decide +kernel⟩,
   ⟨heard (request 0x403 [0, 0, 0, 0]) (dev .run []), request 0x403 [0, 0, 0, 0], [0, 0, 0, 0], 0, sDENIED, by decide +kernel⟩,
   ⟨heard (request 0x404 (List.replicate 36 0)) (dev .run []), request 0x404 (List.replicate 36 0), (List.replicate 36 0), 0, sDENIED,
     by decide +kernel⟩,
   ⟨heard (request 0x601 [0, 0, 0, 0]) (dev .run []), request 0x601 [0, 0, 0, 0], [0, 0, 0, 0], 0, sDENIED, by decide +kernel⟩,
   ⟨heard (request 0x603 [0, 0, 0, 0]) (dev .run []), request 0x603 [0, 0, 0, 0], [0, 0, 0, 0], 0, sDENIED, by decide +kernel⟩,
   ⟨heard (request 0x600 [0, 0, 0, 0]) (dev .safe []), request 0x600 [0, 0, 0, 0], [0, 0, 0, 0], 0, by decide +kernel⟩,
   ⟨heard (request 0x602 [0, 0, 0, 0]) (dev .safe []), request 0x602 [0, 0, 0, 0], [0, 0, 0, 0], 0, by decide +kernel⟩,
   ⟨heard (request 0x400 [0, 1, 0, 0]) (dev .safe []), request 0x400 [0, 1, 0, 0], [0, 1, 0, 0], 0, by decide +kernel⟩,
   ⟨heard (request 0x500 [0, 0, 1, 0, 0, 0, 0, 0]) (dev .safe []), request 0x500 [0, 0, 1, 0, 0, 0, 0, 0], [0, 0, 1, 0, 0, 0, 0, 0], 0,
     by decide +kernel⟩,
   ⟨heard (request 0x800 [1, 0, 0, 0, 0, 0, 0, 0, 0, 0, 0, 0]) (dev .safe []), request 0x800 [1, 0, 0, 0, 0, 0, 0, 0, 0, 0, 0, 0], [1,
     0, 0, 0, 0, 0, 0, 0, 0, 0, 0, 0], 1, by decide +kernel⟩,
   ⟨heard (request 0x200 [31, 1, 0, 0]) (dev .safe []), request 0x200 [31, 1, 0, 0], [31, 1, 0, 0], 31, by decide +kernel⟩,
   ⟨heard (request 0x201 [32, 0, 0, 0]) (dev .run []), request 0x201 [32, 0, 0, 0], [32, 0, 0, 0], 32, by decide +kernel⟩,
   ⟨heard (request 0x300 [2, 0, 0, 0]) (dev .run []), request 0x300 [2, 0, 0, 0], [2, 0, 0, 0], 2, by decide +kernel⟩,
   ⟨heard (request 0x301 [2, 0, 0, 0]) (dev .run []), request 0x301 [2, 0, 0, 0], [2, 0, 0, 0], 2, by decide +kernel⟩,
   ⟨heard (request 0x3 [2, 0, 0, 0]) (dev .run []), request 0x3 [2, 0, 0, 0], [2, 0, 0, 0], 2, by decide +kernel⟩,
   ⟨heard (request 0x405 [8, 0, 0, 0]) (dev .run []), request 0x405 [8, 0, 0, 0], [8, 0, 0, 0], 8, by decide +kernel⟩,
   ⟨heard (request 0x604 [8, 0, 0, 0]) (dev .run []), request 0x604 [8, 0, 0, 0], [8, 0, 0, 0], 8, by decide +kernel⟩,
   ⟨heard (request 0x700 [128, 0, 0, 0]) (dev .run []), request 0x700 [128, 0, 0, 0], [128, 0, 0, 0], 128, by decide +kernel⟩,
   ⟨heard (request 0x701 [128, 0, 0, 0]) (dev .run []), request 0x701 [128, 0, 0, 0], [128, 0, 0, 0], 128, by decide +kernel⟩,
   ⟨heard (request 0xf00 [0, 8, 1, 0]) (dev .run []), request 0xf00 [0, 8, 1, 0], [0, 8, 1, 0], 0, by decide +kernel⟩,
   ⟨{ dev .run [(BOOT_STATUS.RECOVERY, 0, 1)] with b.msg := some (request 0x202 []), b.answer := none, b.quaysOpen := true }, request
     0x202 [], [], 0, .berthMaps, 0x202, 0, 0, by decide +kernel⟩⟩

theorem test_OutputReportsShowRegisters :
    (∃ (s : State) (r : Req) (p : List Nat) (n : Nat), p = msgPay r.msg ∧ n = pU8 p 0 ∧ Asked s r 0x0 0 0) ∧
    (∃ (s : State) (r : Req) (p : List Nat) (n : Nat), p = msgPay r.msg ∧ n = pU8 p 0 ∧ Asked s r 0x1 0 0) ∧
    (∃ (s : State) (r : Req) (p : List Nat) (n : Nat) (es : List Nat), es = (List.range 32).filter (fun e => leaseOn s.b e && s.b.f
      LEASE_RES.PORT e == r.port) ∧ p = msgPay r.msg ∧ n = pU8 p 0 ∧ Asked s r 0x102 0 0) ∧
    (∃ (s : State) (r : Req) (p : List Nat) (n : Nat), p = msgPay r.msg ∧ n = pU8 p 0 ∧ n < 32 ∧ Asked s r 0x201 4 0) ∧
    (∃ (s : State) (r : Req) (p : List Nat) (n : Nat), p = msgPay r.msg ∧ n = pU8 p 0 ∧ Asked s r 0x202 0 0) ∧
    (∃ (s : State) (r : Req) (p : List Nat) (n : Nat), p = msgPay r.msg ∧ n = pU8 p 0 ∧ n < 8 ∧ Asked s r 0x405 4 0) ∧
    (∃ (s : State) (r : Req) (p : List Nat) (n : Nat), p = msgPay r.msg ∧ n = pU8 p 0 ∧ pU8 p 0 = 0 ∧ pU8 p 1 < 8 ∧ Asked s r 0x501 4 0) ∧
    (∃ (s : State) (r : Req) (p : List Nat) (n : Nat), p = msgPay r.msg ∧ n = pU8 p 0 ∧ pU8 p 0 = 1 ∧ pU8 p 1 < 6 ∧ Asked s r 0x501 4 0) ∧
    (∃ (s : State) (r : Req) (p : List Nat) (n : Nat), p = msgPay r.msg ∧ n = pU8 p 0 ∧ n < 8 ∧ Asked s r 0x604 4 0) ∧
    (∃ (s : State) (r : Req) (p : List Nat) (n : Nat), p = msgPay r.msg ∧ n = pU8 p 0 ∧ n < 128 ∧ Asked s r 0x700 4 0) ∧
    (∃ (s : State) (r : Req) (p : List Nat) (n : Nat), p = msgPay r.msg ∧ n = pU8 p 0 ∧ n < 128 ∧ Asked s r 0x701 4 0) ∧
    (∃ (s : State) (r : Req) (p : List Nat) (n : Nat), p = msgPay r.msg ∧ n = pU8 p 0 ∧ Asked s r 0x702 0 0) :=
  ⟨⟨heard (request 0x0 []) (dev .run []), request 0x0 [], [], 0, by decide +kernel⟩,
   ⟨heard (request 0x1 []) (dev .run []), request 0x1 [], [], 0, by decide +kernel⟩,
   ⟨heard (request 0x102 []) (dev .run []), request 0x102 [], [], 0, _, rfl, by decide +kernel⟩,
   ⟨heard (request 0x201 [31, 0, 0, 0]) (dev .run []), request 0x201 [31, 0, 0, 0], [31, 0, 0, 0], 31, by decide +kernel⟩,
   ⟨heard (request 0x202 []) (dev .run []), request 0x202 [], [], 0, by decide +kernel⟩,
   ⟨heard (request 0x405 [7, 0, 0, 0]) (dev .run []), request 0x405 [7, 0, 0, 0], [7, 0, 0, 0], 7, by decide +kernel⟩,
   ⟨heard (request 0x501 [0, 0, 0, 0]) (dev .run []), request 0x501 [0, 0, 0, 0], [0, 0, 0, 0], 0, by decide +kernel⟩,
   ⟨heard (request 0x501 [1, 5, 0, 0]) (dev .run []), request 0x501 [1, 5, 0, 0], [1, 5, 0, 0], 1, by decide +kernel⟩,
   ⟨heard (request 0x604 [7, 0, 0, 0]) (dev .run []), request 0x604 [7, 0, 0, 0], [7, 0, 0, 0], 7, by decide +kernel⟩,
   ⟨heard (request 0x700 [127, 0, 0, 0]) (dev .run []), request 0x700 [127, 0, 0, 0], [127, 0, 0, 0], 127, by decide +kernel⟩,
   ⟨heard (request 0x701 [127, 0, 0, 0]) (dev .run []), request 0x701 [127, 0, 0, 0], [127, 0, 0, 0], 127, by decide +kernel⟩,
   ⟨heard (request 0x702 []) (dev .run []), request 0x702 [], [], 0, by decide +kernel⟩⟩

theorem test_DataReportsShowRegisters :
    (∃ (s : State) (r : Req) (p : List Nat), p = msgPay r.msg ∧ Asked s r 0x801 0 0) ∧
    (∃ (s : State) (r : Req) (p : List Nat) (n : Nat), p = msgPay r.msg ∧ n = pU8 p 0 ∧ n < 2 ∧ Asked s r 0x300 4 0) ∧
    (∃ (s : State) (r : Req) (p : List Nat), p = msgPay r.msg ∧ Asked s r 0x900 0 0) ∧
    (∃ (s : State) (r : Req) (p : List Nat), p = msgPay r.msg ∧ Asked s r 0x901 0 0) ∧
    (∃ (s : State) (r : Req) (p : List Nat), p = msgPay r.msg ∧ rtcShadow s.b 4 = none ∧ Asked s r 0xA00 0 0) ∧
    (∃ (s : State) (r : Req) (p : List Nat), p = msgPay r.msg ∧ Asked s r 0xB00 0 0) ∧
    (∃ (s : State) (r : Req) (p : List Nat), p = msgPay r.msg ∧ Asked s r 0xC00 0 0) ∧
    (∃ (s : State) (r : Req) (p : List Nat), p = msgPay r.msg ∧ Asked s r 0xC01 4 0 ∧ s.b.f LOG_NEXT.SEQ 0 ≤ pU32 p 0) ∧
    (∃ (s : State) (r : Req) (p : List Nat), p = msgPay r.msg ∧ Asked s r 0xC01 4 0 ∧ pU32 p 0 < s.b.f LOG_NEXT.SEQ 0 ∧ logFind s.mem
      (pU32 p 0) = none) ∧
    (∃ (s : State) (r : Req) (p : List Nat) (i : Nat) (l : List Nat), p = msgPay r.msg ∧ Asked s r 0xC01 4 0 ∧ pU32 p 0 < s.b.f
      LOG_NEXT.SEQ 0 ∧ logFind s.mem (pU32 p 0) = some i ∧ s.mem.readBytes (slotAddr i) 256 = (l, false, s.mem, [])) ∧
    (∃ (s : State) (r : Req) (p : List Nat) (i : Nat), p = msgPay r.msg ∧ Asked s r 0xC01 4 0 ∧ pU32 p 0 < s.b.f LOG_NEXT.SEQ 0 ∧
      logFind s.mem (pU32 p 0) = some i ∧ (s.mem.readBytes (slotAddr i) 256).2.1 = true) ∧
    (∃ (s : State) (r : Req) (p : List Nat), p = msgPay r.msg ∧ Asked s r 0x1100 0 0) ∧
    (∃ (s : State) (r : Req) (p : List Nat), p = msgPay r.msg ∧ Asked s r 0xD00 0 0) ∧
    (∃ (s : State) (r : Req) (p : List Nat), p = msgPay r.msg ∧ Asked s r 0xE00 0 0) ∧
    (∃ (s : State) (r : Req) (p : List Nat), p = msgPay r.msg ∧ pU16 p 0 + pU16 p 2 ≤ 2048 ∧ 1 ≤ pU16 p 2 ∧ pU16 p 2 ≤ 123 ∧ Asked s r
      0xF00 4 0) ∧
    (∃ (s : State) (r : Req) (p : List Nat), p = msgPay r.msg ∧ Asked s r 0xF05 0 0) ∧
    (∃ (s : State) (r : Req) (p : List Nat) (a : Nat), p = msgPay r.msg ∧ a = pU32 p 0 ∧ pU16 p 4 = 1 ∧ Asked s r 0x1000 8 2 ∧ (a % 4 ≠
      0 ∨ mapped a = false)) ∧
    (∃ (s : State) (r : Req) (p : List Nat) (a : Nat), p = msgPay r.msg ∧ a = pU32 p 0 ∧ pU16 p 4 = 1 ∧ Asked s r 0x1000 8 2 ∧ a % 4 = 0
      ∧ mapped a = true ∧ regBarred a = true) ∧
    (∃ (s : State) (r : Req) (p : List Nat) (a : Nat), (∀ (d : RegD) (i : Nat), findReg a = some (d, i) → ∀ F ∈ d.flds, F.acc ≠ .rc) ∧ p
      = msgPay r.msg ∧ a = pU32 p 0 ∧ pU16 p 4 = 1 ∧ Asked s r 0x1000 8 2 ∧ a % 4 = 0 ∧ mapped a = true ∧ regBarred a = false ∧ isRom a
      = false ∧ isFlash a = false ∧ isSram a = false ∧ ownRead a = false) :=
  ⟨⟨heard (request 0x801 []) (dev .run []), request 0x801 [], [], by decide +kernel⟩,
   ⟨heard (request 0x300 [1, 0, 0, 0]) (dev .run []), request 0x300 [1, 0, 0, 0], [1, 0, 0, 0], 1, by decide +kernel⟩,
   ⟨heard (request 0x900 []) (dev .run []), request 0x900 [], [], by decide +kernel⟩,
   ⟨heard (request 0x901 []) (dev .run []), request 0x901 [], [], by decide +kernel⟩,
   ⟨heard (request 0xa00 []) (dev .run []), request 0xa00 [], [], by decide +kernel⟩,
   ⟨heard (request 0xb00 []) (dev .run []), request 0xb00 [], [], by decide +kernel⟩,
   ⟨heard (request 0xc00 []) (dev .run []), request 0xc00 [], [], by decide +kernel⟩,
   ⟨heard (request 0xc01 [2, 0, 0, 0]) (dev .run [(LOG_NEXT.SEQ, 0, 2)]), request 0xc01 [2, 0, 0, 0], [2, 0, 0, 0], by decide +kernel⟩,
   ⟨heard (request 0xc01 [0, 0, 0, 0]) (dev .run [(LOG_NEXT.SEQ, 0, 1)]), request 0xc01 [0, 0, 0, 0], [0, 0, 0, 0], by decide +kernel⟩,
   ⟨{ heard (request 0xc01 [0, 0, 0, 0]) (dev .run [(LOG_NEXT.SEQ, 0, 1)]) with mem := ({} : Mem).flashWrite (slotAddr 0) (fullRecord.bytes 0) 64 },
     request 0xc01 [0, 0, 0, 0], [0, 0, 0, 0], 0, fullRecord.bytes 0, by decide +kernel⟩,
   ⟨{ heard (request 0xc01 [0, 0, 0, 0]) (dev .run [(LOG_NEXT.SEQ, 0, 1)]) with mem := { ({} : Mem).setBytes (slotAddr 0) [75, 76, 255, 255, 0, 0, 0, 0] with mark := [(0x10780020, 7)] } },
     request 0xc01 [0, 0, 0, 0], [0, 0, 0, 0], 0, by decide +kernel⟩,
   ⟨heard (request 0x1100 []) (dev .run []), request 0x1100 [], [], by decide +kernel⟩,
   ⟨heard (request 0xd00 []) (dev .run []), request 0xd00 [], [], by decide +kernel⟩,
   ⟨heard (request 0xe00 []) (dev .run []), request 0xe00 [], [], by decide +kernel⟩,
   ⟨heard (request 0xf00 [0, 0, 1, 0]) (dev .run []), request 0xf00 [0, 0, 1, 0], [0, 0, 1, 0], by decide +kernel⟩,
   ⟨heard (request 0xf05 []) (dev .run []), request 0xf05 [], [], by decide +kernel⟩,
   ⟨heard (request 0x1000 [1, 0, 0, 0, 1, 0, 0, 0]) (dev .run []), request 0x1000 [1, 0, 0, 0, 1, 0, 0, 0], [1, 0, 0, 0, 1, 0, 0, 0], 1,
     by decide +kernel⟩,
   ⟨heard (request 0x1000 [0, 0, 18, 64, 1, 0, 0, 0]) (dev .run []), request 0x1000 [0, 0, 18, 64, 1, 0, 0, 0], [0, 0, 18, 64, 1, 0, 0,
     0], 0x40120000, by decide +kernel⟩,
   ⟨heard (request 0x1000 [0, 0, 1, 64, 1, 0, 0, 0]) (dev .run []), request 0x1000 [0, 0, 1, 64, 1, 0, 0, 0], [0, 0, 1, 64, 1, 0, 0, 0],
     0x40010000, plain_at (by decide +kernel), by decide +kernel⟩⟩

theorem test_SystemAndLeaseCommandsAct_SystemCommandsAct_1 :
    (∃ (s : State) (r : Req) (p : List Nat) (n : Nat), p = msgPay r.msg ∧ n = pU8 p 0 ∧ Asked s r 0x2 4 2 ∧ n ≠ 0x5A) ∧
    (∃ (s : State) (r : Req) (p : List Nat) (n : Nat), p = msgPay r.msg ∧ n = pU8 p 0 ∧ Asked s r 0x2 4 2 ∧ n = 0x5A) ∧
    (∃ (s : State) (r : Req) (p : List Nat) (n : Nat), p = msgPay r.msg ∧ n = pU8 p 0 ∧ n < 2 ∧ Asked s r 0x3 4 1 ∧ standbyOk s.b =
      false) ∧
    (∃ (s : State) (r : Req) (p : List Nat) (n : Nat), p = msgPay r.msg ∧ n = pU8 p 0 ∧ n < 2 ∧ Asked s r 0x3 4 1 ∧ standbyOk s.b =
      true) ∧
    (∃ (s : State) (r : Req) (p : List Nat) (n : Nat), p = msgPay r.msg ∧ n = pU8 p 0 ∧ Asked s r 0x4 0 1 ∧ s.b.dev ≠ .safe) ∧
    (∃ (s : State) (r : Req) (p : List Nat) (n : Nat), p = msgPay r.msg ∧ n = pU8 p 0 ∧ Asked s r 0x4 0 1 ∧ s.b.dev = .safe ∧
      s.b.devEdge ≠ .safe) ∧
    (∃ (s : State) (r : Req) (p : List Nat) (n : Nat), p = msgPay r.msg ∧ n = pU8 p 0 ∧ Asked s r 0x4 0 1 ∧ s.b.dev = .safe ∧
      s.b.devEdge = .safe ∧ exitOk s.b = true) ∧
    (∃ (s : State) (r : Req) (p : List Nat) (n : Nat), p = msgPay r.msg ∧ n = pU8 p 0 ∧ Asked s r 0x4 0 1 ∧ s.b.dev = .safe ∧
      s.b.devEdge = .safe ∧ exitOk s.b = false) :=
  ⟨⟨heard (request 0x2 [0, 0, 0, 0]) (dev .run []), request 0x2 [0, 0, 0, 0], [0, 0, 0, 0], 0, by decide +kernel⟩,
   ⟨heard (request 0x2 [90, 0, 0, 0]) (dev .run []), request 0x2 [90, 0, 0, 0], [90, 0, 0, 0], 90, by decide +kernel⟩,
   ⟨heard (request 0x3 [1, 0, 0, 0]) (dev .run [(SEQ_GRP_STATE.STATE, 7, 1)]), request 0x3 [1, 0, 0, 0], [1, 0, 0, 0], 1,
     by decide +kernel⟩,
   ⟨heard (request 0x3 [1, 0, 0, 0]) (dev .run []), request 0x3 [1, 0, 0, 0], [1, 0, 0, 0], 1, by decide +kernel⟩,
   ⟨heard (request 0x4 []) (dev .run []), request 0x4 [], [], 0, by decide +kernel⟩,
   ⟨{ heard (request 0x4 []) (dev .safe []) with b.devEdge := .run }, request 0x4 [], [], 0, by decide +kernel⟩,
   ⟨heard (request 0x4 []) (dev .safe []), request 0x4 [], [], 0, by decide +kernel⟩,
   ⟨heard (request 0x4 []) (dev .safe [(FAULT_STATE.HALT_STUCK, 0, 1)]), request 0x4 [], [], 0, by decide +kernel⟩⟩

theorem test_SystemAndLeaseCommandsAct_SystemCommandsAct_2 :
    (∃ (s : State) (r : Req) (p : List Nat) (n : Nat), p = msgPay r.msg ∧ n = pU8 p 0 ∧ running s.b = true ∧ (∀ d ∈ s.b.deferred, d.at_
      = 0 ∨ d.acked = false ∧ s.tick < d.at_ - 1 + 20000)) ∧
    (∃ (s : State) (r : Req) (p : List Nat) (n : Nat) (d : Deferred), p = msgPay r.msg ∧ n = pU8 p 0 ∧ running s.b = true ∧ s.b.deferred
      = [d] ∧ d.at_ ≠ 0 ∧ (d.acked = true ∨ d.at_ - 1 + 20000 ≤ s.tick) ∧ d.what = 0) ∧
    (∃ (s : State) (r : Req) (p : List Nat) (n : Nat) (d : Deferred), p = msgPay r.msg ∧ n = pU8 p 0 ∧ running s.b = true ∧ s.b.deferred
      = [d] ∧ d.at_ ≠ 0 ∧ (d.acked = true ∨ d.at_ - 1 + 20000 ≤ s.tick) ∧ d.what = 1 ∧ standbyOk s.b = true) ∧
    (∃ (s : State) (r : Req) (p : List Nat) (n : Nat) (d : Deferred), p = msgPay r.msg ∧ n = pU8 p 0 ∧ running s.b = true ∧ s.b.deferred
      = [d] ∧ d.at_ ≠ 0 ∧ (d.acked = true ∨ d.at_ - 1 + 20000 ≤ s.tick) ∧ d.what = 2 ∧ standbyOk s.b = true) ∧
    (∃ (s : State) (r : Req) (p : List Nat) (n : Nat) (d : Deferred), p = msgPay r.msg ∧ n = pU8 p 0 ∧ running s.b = true ∧ s.b.deferred
      = [d] ∧ d.at_ ≠ 0 ∧ (d.acked = true ∨ d.at_ - 1 + 20000 ≤ s.tick) ∧ (d.what = 1 ∨ d.what = 2) ∧ standbyOk s.b = false) :=
  ⟨⟨{ dev .run [] with b.deferred := [⟨0, 0, 0, 9, 0, false⟩] }, request 0 [], [], 0, by decide +kernel⟩,
   ⟨{ dev .run [] with b.deferred := [⟨0, 0, 0, 1, 0, true⟩] }, request 0 [], [], 0, ⟨0, 0, 0, 1, 0, true⟩, by decide +kernel⟩,
   ⟨{ dev .run [] with b.deferred := [⟨1, 0, 0, 1, 0, true⟩] }, request 0 [], [], 0, ⟨1, 0, 0, 1, 0, true⟩, by decide +kernel⟩,
   ⟨{ dev .run [] with b.deferred := [⟨2, 0, 0, 1, 0, true⟩] }, request 0 [], [], 0, ⟨2, 0, 0, 1, 0, true⟩, by decide +kernel⟩,
   ⟨{ dev .run [(SEQ_GRP_STATE.STATE, 7, 1)] with b.deferred := [⟨1, 0, 0, 1, 0, true⟩] }, request 0 [], [], 0, ⟨1, 0, 0, 1, 0, true⟩,
     by decide +kernel⟩⟩

theorem test_SystemAndLeaseCommandsAct_LeasesAreGrantedAndEnd :
    (∃ (s : State) (r : Req) (p : List Nat) (k : Nat) (i : Nat) (d : Nat) (e : Nat), p = msgPay r.msg ∧ k = pU8 p 0 ∧ i = pU8 p 1 ∧ d =
      pU32 p 4 ∧ leaseRange k i = true ∧ Asked s r 0x100 8 (if k = 4 then 2 else 1) ∧ leaseOf s.b k i = none ∧ e < 32 ∧ leaseOn s.b e =
      false ∧ (∀ j < e, leaseOn s.b j = true)) ∧
    (∃ (s : State) (r : Req) (p : List Nat) (k : Nat) (i : Nat) (d : Nat), p = msgPay r.msg ∧ k = pU8 p 0 ∧ i = pU8 p 1 ∧ d = pU32 p 4 ∧
      leaseRange k i = true ∧ Asked s r 0x100 8 (if k = 4 then 2 else 1) ∧ leaseOf s.b k i = none ∧ (∀ j < 32, leaseOn s.b j = true)) ∧
    (∃ (s : State) (r : Req) (p : List Nat) (k : Nat) (i : Nat) (d : Nat) (e : Nat), p = msgPay r.msg ∧ k = pU8 p 0 ∧ i = pU8 p 1 ∧ d =
      pU32 p 4 ∧ leaseRange k i = true ∧ Asked s r 0x100 8 (if k = 4 then 2 else 1) ∧ leaseOf s.b k i = some e ∧ s.b.f LEASE_RES.PORT e
      = r.port) ∧
    (∃ (s : State) (r : Req) (p : List Nat) (k : Nat) (i : Nat) (d : Nat) (e : Nat), p = msgPay r.msg ∧ k = pU8 p 0 ∧ i = pU8 p 1 ∧ d =
      pU32 p 4 ∧ leaseRange k i = true ∧ Asked s r 0x100 8 (if k = 4 then 2 else 1) ∧ leaseOf s.b k i = some e ∧ s.b.f LEASE_RES.PORT e
      ≠ r.port ∧ (bit (pU8 p 2) 0 = false ∨ portClass s.b r.port ≠ 2 ∨ portClass s.b (s.b.f LEASE_RES.PORT e) ≠ 1)) ∧
    (∃ (s : State) (r : Req) (p : List Nat) (k : Nat) (i : Nat) (d : Nat) (e : Nat), p = msgPay r.msg ∧ k = pU8 p 0 ∧ i = pU8 p 1 ∧ d =
      pU32 p 4 ∧ leaseRange k i = true ∧ Asked s r 0x100 8 (if k = 4 then 2 else 1) ∧ leaseOf s.b k i = some e ∧ s.b.f LEASE_RES.PORT e
      ≠ r.port ∧ bit (pU8 p 2) 0 = true ∧ portClass s.b r.port = 2 ∧ portClass s.b (s.b.f LEASE_RES.PORT e) = 1 ∧ (∀ j < e, leaseOn s.b
      j = true)) ∧
    (∃ (s : State) (r : Req) (e : Nat), Asked s r 0x101 0 1 ∧ ownLease s.b r.port (msgLease r.msg) = some e) ∧
    (∃ (s : State) (r : Req), Asked s r 0x101 0 1 ∧ ownLease s.b r.port (msgLease r.msg) = none ∧ s.b.leaseEnds = [] ∧ leasePast s.b
      (msgLease r.msg) = true) ∧
    (∃ (s : State) (e : Fin 32), running s.b = true ∧ leaseOn s.b e = true ∧ (s.b.ls e).expiry ≤ s.tick) ∧
    (∃ (s : State) (e : Fin 32), running s.b = true ∧ (leaseOn s.b e = false ∨ s.tick < (s.b.ls e).expiry)) :=
  ⟨⟨heard (request 0x100 [0, 31, 0, 0, 96, 234, 0, 0]) (dev .run [] 5), request 0x100 [0, 31, 0, 0, 96, 234, 0, 0], [0, 31, 0, 0, 96,
     234, 0, 0], 0, 31, 60000, 0, by decide +kernel⟩,
   ⟨{ heard (request 0x100 [1, 7, 0, 0, 96, 234, 0, 0]) (dev .run [(LEASE_RES.HANDLE, 0, 1), (LEASE_RES.PORT, 0, 1), (LEASE_RES.KIND, 0,
     0), (LEASE_RES.INDEX, 0, 0), (LEASE_RES.HANDLE, 1, 2), (LEASE_RES.PORT, 1, 1), (LEASE_RES.KIND, 1, 0), (LEASE_RES.INDEX, 1, 1),
     (LEASE_RES.HANDLE, 2, 3), (LEASE_RES.PORT, 2, 1), (LEASE_RES.KIND, 2, 0), (LEASE_RES.INDEX, 2, 2), (LEASE_RES.HANDLE, 3, 4),
     (LEASE_RES.PORT, 3, 1), (LEASE_RES.KIND, 3, 0), (LEASE_RES.INDEX, 3, 3), (LEASE_RES.HANDLE, 4, 5), (LEASE_RES.PORT, 4, 1),
     (LEASE_RES.KIND, 4, 0), (LEASE_RES.INDEX, 4, 4), (LEASE_RES.HANDLE, 5, 6), (LEASE_RES.PORT, 5, 1), (LEASE_RES.KIND, 5, 0),
     (LEASE_RES.INDEX, 5, 5), (LEASE_RES.HANDLE, 6, 7), (LEASE_RES.PORT, 6, 1), (LEASE_RES.KIND, 6, 0), (LEASE_RES.INDEX, 6, 6),
     (LEASE_RES.HANDLE, 7, 8), (LEASE_RES.PORT, 7, 1), (LEASE_RES.KIND, 7, 0), (LEASE_RES.INDEX, 7, 7), (LEASE_RES.HANDLE, 8, 9),
     (LEASE_RES.PORT, 8, 1), (LEASE_RES.KIND, 8, 0), (LEASE_RES.INDEX, 8, 8), (LEASE_RES.HANDLE, 9, 10), (LEASE_RES.PORT, 9, 1),
     (LEASE_RES.KIND, 9, 0), (LEASE_RES.INDEX, 9, 9), (LEASE_RES.HANDLE, 10, 11), (LEASE_RES.PORT, 10, 1), (LEASE_RES.KIND, 10, 0),
     (LEASE_RES.INDEX, 10, 10), (LEASE_RES.HANDLE, 11, 12), (LEASE_RES.PORT, 11, 1), (LEASE_RES.KIND, 11, 0), (LEASE_RES.INDEX, 11, 11),
     (LEASE_RES.HANDLE, 12, 13), (LEASE_RES.PORT, 12, 1), (LEASE_RES.KIND, 12, 0), (LEASE_RES.INDEX, 12, 12), (LEASE_RES.HANDLE, 13,
     14), (LEASE_RES.PORT, 13, 1), (LEASE_RES.KIND, 13, 0), (LEASE_RES.INDEX, 13, 13), (LEASE_RES.HANDLE, 14, 15), (LEASE_RES.PORT, 14,
     1), (LEASE_RES.KIND, 14, 0), (LEASE_RES.INDEX, 14, 14), (LEASE_RES.HANDLE, 15, 16), (LEASE_RES.PORT, 15, 1), (LEASE_RES.KIND, 15,
     0), (LEASE_RES.INDEX, 15, 15), (LEASE_RES.HANDLE, 16, 17), (LEASE_RES.PORT, 16, 1), (LEASE_RES.KIND, 16, 0), (LEASE_RES.INDEX, 16,
     16), (LEASE_RES.HANDLE, 17, 18), (LEASE_RES.PORT, 17, 1), (LEASE_RES.KIND, 17, 0), (LEASE_RES.INDEX, 17, 17), (LEASE_RES.HANDLE,
     18, 19), (LEASE_RES.PORT, 18, 1), (LEASE_RES.KIND, 18, 0), (LEASE_RES.INDEX, 18, 18), (LEASE_RES.HANDLE, 19, 20), (LEASE_RES.PORT,
     19, 1), (LEASE_RES.KIND, 19, 0), (LEASE_RES.INDEX, 19, 19), (LEASE_RES.HANDLE, 20, 21), (LEASE_RES.PORT, 20, 1), (LEASE_RES.KIND,
     20, 0), (LEASE_RES.INDEX, 20, 20), (LEASE_RES.HANDLE, 21, 22), (LEASE_RES.PORT, 21, 1), (LEASE_RES.KIND, 21, 0), (LEASE_RES.INDEX,
     21, 21), (LEASE_RES.HANDLE, 22, 23), (LEASE_RES.PORT, 22, 1), (LEASE_RES.KIND, 22, 0), (LEASE_RES.INDEX, 22, 22),
     (LEASE_RES.HANDLE, 23, 24), (LEASE_RES.PORT, 23, 1), (LEASE_RES.KIND, 23, 0), (LEASE_RES.INDEX, 23, 23), (LEASE_RES.HANDLE, 24,
     25), (LEASE_RES.PORT, 24, 1), (LEASE_RES.KIND, 24, 0), (LEASE_RES.INDEX, 24, 24), (LEASE_RES.HANDLE, 25, 26), (LEASE_RES.PORT, 25,
     1), (LEASE_RES.KIND, 25, 0), (LEASE_RES.INDEX, 25, 25), (LEASE_RES.HANDLE, 26, 27), (LEASE_RES.PORT, 26, 1), (LEASE_RES.KIND, 26,
     0), (LEASE_RES.INDEX, 26, 26), (LEASE_RES.HANDLE, 27, 28), (LEASE_RES.PORT, 27, 1), (LEASE_RES.KIND, 27, 0), (LEASE_RES.INDEX, 27,
     27), (LEASE_RES.HANDLE, 28, 29), (LEASE_RES.PORT, 28, 1), (LEASE_RES.KIND, 28, 0), (LEASE_RES.INDEX, 28, 28), (LEASE_RES.HANDLE,
     29, 30), (LEASE_RES.PORT, 29, 1), (LEASE_RES.KIND, 29, 0), (LEASE_RES.INDEX, 29, 29), (LEASE_RES.HANDLE, 30, 31), (LEASE_RES.PORT,
     30, 1), (LEASE_RES.KIND, 30, 0), (LEASE_RES.INDEX, 30, 30), (LEASE_RES.HANDLE, 31, 32), (LEASE_RES.PORT, 31, 1), (LEASE_RES.KIND,
     31, 0), (LEASE_RES.INDEX, 31, 31)] 5) with b.lease := [(0, { expiry := 9, uses := 1 }), (1, { expiry := 9, uses := 1 }), (2, {
                                                expiry := 9, uses := 1 }), (3, { expiry := 9, uses := 1 }), (4, { expiry := 9, uses := 1 }),
                                                  (5, { expiry := 9, uses := 1 }), (6, { expiry := 9, uses := 1 }), (7, { expiry := 9, uses := 1 }),
                                                  (8, { expiry := 9, uses := 1 }), (9, { expiry := 9, uses := 1 }), (10, { expiry := 9, uses := 1 }),
                                                  (11, { expiry := 9, uses := 1 }), (12, { expiry := 9, uses := 1 }), (13, { expiry := 9, uses := 1 }),
                                                  (14, { expiry := 9, uses := 1 }), (15, { expiry := 9, uses := 1 }), (16, { expiry := 9, uses := 1 }),
                                                  (17, { expiry := 9, uses := 1 }), (18, { expiry := 9, uses := 1 }), (19, { expiry := 9, uses := 1 }),
                                                  (20, { expiry := 9, uses := 1 }), (21, { expiry := 9, uses := 1 }), (22, { expiry := 9, uses := 1 }),
                                                  (23, { expiry := 9, uses := 1 }), (24, { expiry := 9, uses := 1 }), (25, { expiry := 9, uses := 1 }),
                                                  (26, { expiry := 9, uses := 1 }), (27, { expiry := 9, uses := 1 }), (28, { expiry := 9, uses := 1 }),
                                                  (29, { expiry := 9, uses := 1 }), (30, { expiry := 9, uses := 1 }), (31, { expiry := 9, uses := 1 })] },
     request 0x100 [1, 7, 0, 0, 96, 234, 0, 0], [1, 7, 0, 0, 96, 234, 0, 0], 1, 7, 60000, by decide +kernel⟩,
   ⟨{ heard (request 0x100 [0, 31, 0, 0, 96, 234, 0, 0]) (dev .run [(LEASE_RES.HANDLE, 0, 1), (LEASE_RES.PORT, 0, 0), (LEASE_RES.KIND,
     0, 0), (LEASE_RES.INDEX, 0, 31)] 5) with b.lease := [(0, { expiry := 9 })] }, request 0x100 [0, 31, 0, 0, 96, 234, 0, 0], [0, 31,
     0, 0, 96, 234, 0, 0], 0, 31, 60000, 0, by decide +kernel⟩,
   ⟨{ heard (request 0x100 [0, 31, 0, 0, 96, 234, 0, 0]) (dev .run [(LEASE_RES.HANDLE, 0, 1), (LEASE_RES.PORT, 0, 1), (LEASE_RES.KIND,
     0, 0), (LEASE_RES.INDEX, 0, 31)] 5) with b.lease := [(0, { expiry := 9 })] }, request 0x100 [0, 31, 0, 0, 96, 234, 0, 0], [0, 31,
     0, 0, 96, 234, 0, 0], 0, 31, 60000, 0, by decide +kernel⟩,
   ⟨{ heard (request 0x100 [0, 31, 1, 0, 96, 234, 0, 0]) (dev .run [(LEASE_RES.HANDLE, 0, 1), (LEASE_RES.PORT, 0, 1), (LEASE_RES.KIND,
     0, 0), (LEASE_RES.INDEX, 0, 31), (HOST_PORT_CFG.CLASS, 1, 1)] 5) with b.lease := [(0, { expiry := 9, uses := 1 })] }, request 0x100
     [0, 31, 1, 0, 96, 234, 0, 0], [0, 31, 1, 0, 96, 234, 0, 0], 0, 31, 60000, 0, by decide +kernel⟩,
   ⟨{ heard (request 0x101 [] 1) (dev .run [(LEASE_RES.HANDLE, 0, 1), (LEASE_RES.PORT, 0, 0), (LEASE_RES.KIND, 0, 0), (LEASE_RES.INDEX,
     0, 31)]) with b.lease := [(0, { expiry := 9 })] }, request 0x101 [] 1, 0, by decide +kernel⟩,
   ⟨{ heard (request 0x101 [] 1) (dev .run []) with b.lease := [(0, { uses := 1 })], b.leaseEnds := [] }, request 0x101 [] 1,
     by decide +kernel⟩,
   ⟨{ dev .run [(LEASE_RES.HANDLE, 31, 32), (LEASE_RES.PORT, 31, 2)] 2 with b.lease := [(31, { expiry := 1 })] }, 31, by decide +kernel⟩,
   ⟨dev .run [], 31, by decide +kernel⟩⟩

theorem test_BerthAndFeedCommandsAct :
    (∃ (s : State) (r : Req) (p : List Nat) (n : Nat) (o : Nat) (x : Blk), x = berthOffRequest s.tick s.b n o ∧ p = msgPay r.msg ∧ n =
      pU8 p 0 ∧ o = portClass s.b r.port ∧ n < 32 ∧ Asked s r 0x200 4 1 ∧ Leased s r 0 n ∧ outOwned s.b (22 + n) = false ∧ pU8 p 1 = 0) ∧
    (∃ (s : State) (r : Req) (p : List Nat) (n : Nat) (o : Nat) (x : Blk), x = berthOnRequest s.tick s.b n o ∧ p = msgPay r.msg ∧ n =
      pU8 p 0 ∧ o = portClass s.b r.port ∧ n < 32 ∧ Asked s r 0x200 4 1 ∧ Leased s r 0 n ∧ outOwned s.b (22 + n) = false ∧ s.b.barred
      (22 + n) = false ∧ pU8 p 1 = 1 ∧ s.b.bst n ≠ bTRIPPED ∧ s.b.bst n ≠ bLOCKED) ∧
    (∃ (s : State) (r : Req) (p : List Nat) (n : Nat) (o : Nat), p = msgPay r.msg ∧ n = pU8 p 0 ∧ o = portClass s.b r.port ∧ n < 32 ∧
      Asked s r 0x200 4 1 ∧ Leased s r 0 n ∧ outOwned s.b (22 + n) = false ∧ s.b.safeNow = false ∧ s.b.lineBars (22 + n) = true ∧ pU8 p
      1 = 1 ∧ s.b.bst n ≠ bTRIPPED ∧ s.b.bst n ≠ bLOCKED) ∧
    (∃ (s : State) (r : Req) (p : List Nat) (n : Nat) (o : Nat) (x : Blk), x = berthOffRequest s.tick s.b n o ∧ p = msgPay r.msg ∧ n =
      pU8 p 0 ∧ o = portClass s.b r.port ∧ n < 32 ∧ Asked s r 0x200 4 1 ∧ Leased s r 0 n ∧ outOwned s.b (22 + n) = false ∧ s.b.safeNow =
      false ∧ pU8 p 1 = 2) ∧
    (∃ (s : State) (r : Req) (p : List Nat) (n : Nat) (o : Nat), p = msgPay r.msg ∧ n = pU8 p 0 ∧ o = portClass s.b r.port ∧ n < 32 ∧
      Asked s r 0x200 4 1 ∧ Leased s r 0 n ∧ s.b.safeNow = false ∧ pU8 p 1 = 1 ∧ (s.b.bst n = bTRIPPED ∨ s.b.bst n = bLOCKED)) ∧
    (∃ (s : State) (r : Req) (p : List Nat) (n : Nat) (o : Nat), p = msgPay r.msg ∧ n = pU8 p 0 ∧ o = portClass s.b r.port ∧ n < 32 ∧
      Asked s r 0x200 4 1 ∧ Leased s r 0 n ∧ outOwned s.b (22 + n) = true ∧ pU8 p 1 = 0 ∧ s.b.f BERTH_CTL.ON n = 1) ∧
    (∃ (s : State) (r : Req) (p : List Nat) (n : Nat) (o : Nat), p = msgPay r.msg ∧ n = pU8 p 0 ∧ o = portClass s.b r.port ∧ n < 32 ∧
      pU8 p 1 < 256 ∧ pU8 p 2 < 256 ∧ Asked s r 0x203 4 1 ∧ Leased s r 0 n) ∧
    (∃ (s : State) (r : Req) (p : List Nat) (n : Nat) (o : Nat), p = msgPay r.msg ∧ n = pU8 p 0 ∧ o = portClass s.b r.port ∧ n < 2 ∧
      Asked s r 0x301 4 1) ∧
    (∃ (s : State) (r : Req) (p : List Nat) (n : Nat) (o : Nat) (t : Nat) (b : Blk) (w : Wait), p = msgPay r.msg ∧ n = pU8 p 0 ∧ o =
      portClass s.b r.port ∧ b.wait = some w ∧ b.msg = some r ∧ w.loop = false ∧ t < w.due) ∧
    (∃ (s : State) (r : Req) (p : List Nat) (n : Nat) (o : Nat) (t : Nat) (b : Blk) (w : Wait), p = msgPay r.msg ∧ n = pU8 p 0 ∧ o =
      portClass s.b r.port ∧ b.wait = some w ∧ b.msg = some r ∧ w.loop = false ∧ w.due ≤ t) :=
  ⟨⟨{ heard (request 0x200 [31, 0, 0, 0] 1) (dev .run [(LEASE_RES.HANDLE, 0, 1), (LEASE_RES.PORT, 0, 0), (LEASE_RES.KIND, 0, 0),
     (LEASE_RES.INDEX, 0, 31)]) with b.lease := [(0, { expiry := 100 })] }, request 0x200 [31, 0, 0, 0] 1, [31, 0, 0, 0], 31, 2, _, rfl,
     by decide +kernel⟩,
   ⟨{ heard (request 0x200 [31, 1, 0, 0] 1) (dev .run [(BERTH_STATE.STATE, 31, 6), (LEASE_RES.HANDLE, 0, 1), (LEASE_RES.PORT, 0, 0),
     (LEASE_RES.KIND, 0, 0), (LEASE_RES.INDEX, 0, 31)]) with b.lease := [(0, { expiry := 100 })] }, request 0x200 [31, 1, 0, 0] 1, [31,
     1, 0, 0], 31, 2, _, rfl, by decide +kernel⟩,
   ⟨{ heard (request 0x200 [31, 1, 0, 0] 1) (dev .run [(BERTH_STATE.STATE, 31, 6), (SEQ_DOMAIN.ALLOFF_LINE, 0, 1), (SEQ_OUT_CFG.GROUP,
     53, 7), (SEQ_GRP_CFG.DOMAIN, 7, 1), (LEASE_RES.HANDLE, 0, 1), (LEASE_RES.PORT, 0, 0), (LEASE_RES.KIND, 0, 0), (LEASE_RES.INDEX, 0,
     31)]) with b.lease := [(0, { expiry := 100 })] }, request 0x200 [31, 1, 0, 0] 1, [31, 1, 0, 0], 31, 2, by decide +kernel⟩,
   ⟨{ heard (request 0x200 [31, 2, 0, 0] 1) (dev .run [(LEASE_RES.HANDLE, 0, 1), (LEASE_RES.PORT, 0, 0), (LEASE_RES.KIND, 0, 0),
     (LEASE_RES.INDEX, 0, 31)]) with b.lease := [(0, { expiry := 100 })] }, request 0x200 [31, 2, 0, 0] 1, [31, 2, 0, 0], 31, 2, _, rfl,
     by decide +kernel⟩,
   ⟨{ heard (request 0x200 [31, 1, 0, 0] 1) (dev .run [(BERTH_STATE.STATE, 31, 4), (LEASE_RES.HANDLE, 0, 1), (LEASE_RES.PORT, 0, 0),
     (LEASE_RES.KIND, 0, 0), (LEASE_RES.INDEX, 0, 31)]) with b.lease := [(0, { expiry := 100 })] }, request 0x200 [31, 1, 0, 0] 1, [31,
     1, 0, 0], 31, 2, by decide +kernel⟩,
   ⟨{ heard (request 0x200 [31, 0, 0, 0] 1) (dev .run [(BERTH_CTL.ON, 31, 1), (SEQ_OUT_CFG.GROUP, 53, 7), (SEQ_GRP_STATE.STATE, 7, 2),
     (LEASE_RES.HANDLE, 0, 1), (LEASE_RES.PORT, 0, 0), (LEASE_RES.KIND, 0, 0), (LEASE_RES.INDEX, 0, 31)]) with b.lease := [(0, { expiry := 100 })] },
     request 0x200 [31, 0, 0, 0] 1, [31, 0, 0, 0], 31, 2, by decide +kernel⟩,
   ⟨{ heard (request 0x203 [31, 0, 0, 0] 1) (dev .run [(LEASE_RES.HANDLE, 0, 1), (LEASE_RES.PORT, 0, 0), (LEASE_RES.KIND, 0, 0),
     (LEASE_RES.INDEX, 0, 31)]) with b.lease := [(0, { expiry := 100 })] }, request 0x203 [31, 0, 0, 0] 1, [31, 0, 0, 0], 31, 2,
     by decide +kernel⟩,
   ⟨heard (request 0x301 [1, 0, 0, 0]) (dev .run []), request 0x301 [1, 0, 0, 0], [1, 0, 0, 0], 1, 2, by decide +kernel⟩,
   ⟨{ dev .run [] with b.wait := some ⟨false, 31, 1, false⟩, b.msg := some (request 0 []) }, request 0 [], [], 0, 2, 0, { dev := .run, devEdge := .run, wait := some ⟨false, 31, 1, false⟩, msg := some (request 0 []) },
     ⟨false, 31, 1, false⟩, by decide +kernel⟩,
   ⟨{ dev .run [] with b.wait := some ⟨false, 31, 0, false⟩, b.msg := some (request 0 []) }, request 0 [], [], 0, 2, 0, { dev := .run, devEdge := .run, wait := some ⟨false, 31, 0, false⟩, msg := some (request 0 []) },
     ⟨false, 31, 0, false⟩, by decide +kernel⟩⟩

theorem test_RegulatorCommandsAct :
    (∃ (s : State) (r : Req) (p : List Nat) (n : Nat), p = msgPay r.msg ∧ n = pU8 p 0 ∧ n < 8 ∧ Leased s r 1 n ∧ outOwned s.b n = false
      ∧ Asked s r 0x400 4 1 ∧ Fresh s (.loop n) ∧ s.b.barred n = false ∧ pU8 p 1 = 1 ∧ s.b.lst n = lDISABLED) ∧
    (∃ (s : State) (r : Req) (p : List Nat) (n : Nat), p = msgPay r.msg ∧ n = pU8 p 0 ∧ n < 8 ∧ Leased s r 1 n ∧ outOwned s.b n = false
      ∧ Asked s r 0x400 4 1 ∧ Fresh s (.loop n) ∧ pU8 p 1 = 0 ∧ s.b.lst n = lFAULTED) ∧
    (∃ (s : State) (r : Req) (p : List Nat) (n : Nat) (k : Nat) (c : Int), p = msgPay r.msg ∧ n = pU8 p 0 ∧ n < 8 ∧ Leased s r 1 n ∧
      Asked s r 0x401 8 1 ∧ Fresh s (.loop n) ∧ k = pU8 p 1 ∧ k < 8 ∧ 500 ≤ c ∧ c ≤ 11000 ∧ pI32 p 4 = c * (if s.b.f LOOP_CFG.SCALE n =
      1 then 2000 else 500)) ∧
    (∃ (s : State) (r : Req) (p : List Nat) (n : Nat), p = msgPay r.msg ∧ n = pU8 p 0 ∧ n < 8 ∧ Leased s r 1 n ∧ Asked s r 0x402 4 1 ∧
      (s.b.f LOOP_CTL.EN n = 0 ∨ s.b.barred n = false)) ∧
    (∃ (s : State) (r : Req) (p : List Nat) (n : Nat), p = msgPay r.msg ∧ n = pU8 p 0 ∧ n < 8 ∧ Leased s r 1 n ∧ Asked s r 0x403 4 1 ∧
      openAllowed s.b n (min 1 (pU8 p 1)) = false) ∧
    (∃ (s : State) (r : Req) (p : List Nat) (n : Nat) (x : Blk), x = (if 1 ≤ pU8 p 1 then loopOpenRequest s.tick s.b n else
      loopOpenClear s.tick s.b n) ∧ p = msgPay r.msg ∧ n = pU8 p 0 ∧ n < 8 ∧ Leased s r 1 n ∧ Asked s r 0x403 4 1 ∧ openAllowed s.b n
      (min 1 (pU8 p 1)) = true) ∧
    (∃ (s : State) (r : Req) (p : List Nat) (n : Nat) (ws : List Staged), ws = (List.range 8).map (fun k => ⟨.pilot, portClass s.b
      r.port, 0x40070010 + 256 * n + 4 * k, leAt p (4 + 4 * k) 4⟩) ∧ p = msgPay r.msg ∧ n = pU8 p 0 ∧ n < 8 ∧ Leased s r 1 n ∧ Asked s r
      0x404 36 1 ∧ s.b.f ENG_LOOP_CFG.LIVE_TUNE n ≠ 1 ∧ (s.b.lst n = lDISABLED ∨ s.b.lst n = lOPEN)) ∧
    (∃ (s : State) (r : Req) (p : List Nat) (n : Nat) (ws : List Staged), ws = (List.range 8).map (fun k => ⟨.pilot, portClass s.b
      r.port, 0x40070010 + 256 * n + 4 * k, leAt p (4 + 4 * k) 4⟩) ∧ p = msgPay r.msg ∧ n = pU8 p 0 ∧ n < 8 ∧ Leased s r 1 n ∧ Asked s r
      0x404 36 1 ∧ s.b.f ENG_LOOP_CFG.LIVE_TUNE n ≠ 1 ∧ (s.b.lst n = lSOFTSTART ∨ s.b.lst n = lREGULATING ∨ s.b.lst n = lBURST)) ∧
    (∃ (s : State) (r : Req) (p : List Nat) (n : Nat) (ws : List Staged), ws = (List.range 8).map (fun k => ⟨.pilot, portClass s.b
      r.port, 0x40070010 + 256 * n + 4 * k, leAt p (4 + 4 * k) 4⟩) ∧ p = msgPay r.msg ∧ n = pU8 p 0 ∧ n < 8 ∧ Leased s r 1 n ∧ Asked s r
      0x404 36 1 ∧ s.b.f ENG_LOOP_CFG.LIVE_TUNE n ≠ 1 ∧ (s.b.lst n = lPRECHECK ∨ s.b.lst n = lSTOPPING ∨ s.b.lst n = lFAULTED)) ∧
    (∃ (s : State) (r : Req) (p : List Nat) (n : Nat) (ws : List Staged), ws = (List.range 8).map (fun k => ⟨.pilot, portClass s.b
      r.port, 0x40070010 + 256 * n + 4 * k, leAt p (4 + 4 * k) 4⟩) ∧ p = msgPay r.msg ∧ n = pU8 p 0 ∧ n < 8 ∧ Leased s r 1 n ∧ Asked s r
      0x404 36 1 ∧ s.b.f ENG_LOOP_CFG.LIVE_TUNE n = 1) ∧
    (∃ (s : State) (r : Req) (p : List Nat) (n : Nat) (t : Nat) (b : Blk) (w : Wait), p = msgPay r.msg ∧ b.wait = some w ∧ b.msg = some
      r ∧ w.loop = true ∧ t < w.due) ∧
    (∃ (s : State) (r : Req) (p : List Nat) (n : Nat) (t : Nat) (b : Blk) (w : Wait), p = msgPay r.msg ∧ b.wait = some w ∧ b.msg = some
      r ∧ w.loop = true ∧ w.due ≤ t) ∧
    (∃ (s : State) (r : Req) (p : List Nat) (n : Nat) (x : Blk), x = buckEnable s.tick s.b n ∧ p = msgPay r.msg ∧ n = pU8 p 1 ∧ n < 8 ∧
      pU8 p 0 = 0 ∧ Asked s r 0x500 8 1 ∧ outOwned s.b (8 + n) = false ∧ s.b.barred (8 + n) = false ∧ pU8 p 2 = 1 ∧ pI32 p 4 = 0) ∧
    (∃ (s : State) (r : Req) (p : List Nat) (n : Nat) (c : Int), p = msgPay r.msg ∧ n = pU8 p 1 ∧ n < 8 ∧ pU8 p 0 = 0 ∧ Asked s r 0x500
      8 1 ∧ outOwned s.b (8 + n) = false ∧ pU8 p 2 = 0 ∧ 240 ≤ c ∧ c ≤ 2200 ∧ pI32 p 4 = 2500 * c) ∧
    (∃ (s : State) (r : Req) (p : List Nat) (n : Nat) (c : Int), p = msgPay r.msg ∧ n = pU8 p 1 ∧ n < 6 ∧ pU8 p 0 = 1 ∧ Asked s r 0x500
      8 1 ∧ outOwned s.b (16 + n) = false ∧ pU8 p 2 = 0 ∧ 0 ≤ c ∧ c ≤ 168 ∧ pI32 p 4 = 800000 + 25000 * c) ∧
    (∃ (s : State) (r : Req) (p : List Nat) (n : Nat), p = msgPay r.msg ∧ n = pU8 p 1 ∧ n < 6 ∧ pU8 p 0 = 1 ∧ Asked s r 0x500 8 1 ∧
      outOwned s.b (16 + n) = false ∧ s.b.barred (16 + n) = false ∧ pU8 p 2 = 1 ∧ pI32 p 4 = 0 ∧ s.b.dst n = iDISABLED ∧ s.b.f
      LDO_CTL.CODE n ≤ 168 ∧ Fresh s (.ldo n)) ∧
    (∃ (s : State) (r : Req) (p : List Nat) (n : Nat), p = msgPay r.msg ∧ ((pU8 p 0 = 0 ∧ 8 ≤ pU8 p 1) ∨ (pU8 p 0 = 1 ∧ 6 ≤ pU8 p 1) ∨ 2
      ≤ pU8 p 0) ∧ pU8 p 2 = 0 ∧ Asked s r 0x500 8 1) :=
  ⟨⟨{ heard (request 0x400 [7, 1, 0, 0] 1) (dev .run [(LOOP_STATE.STATE, 7, 0), (LEASE_RES.HANDLE, 0, 1), (LEASE_RES.PORT, 0, 0),
     (LEASE_RES.KIND, 0, 1), (LEASE_RES.INDEX, 0, 7)]) with b.lease := [(0, { expiry := 100 })] }, request 0x400 [7, 1, 0, 0] 1, [7, 1,
     0, 0], 7, by decide +kernel⟩,
   ⟨{ heard (request 0x400 [7, 0, 0, 0] 1) (dev .run [(LOOP_STATE.STATE, 7, 6), (LEASE_RES.HANDLE, 0, 1), (LEASE_RES.PORT, 0, 0),
     (LEASE_RES.KIND, 0, 1), (LEASE_RES.INDEX, 0, 7)]) with b.lease := [(0, { expiry := 100 })] }, request 0x400 [7, 0, 0, 0] 1, [7, 0,
     0, 0], 7, by decide +kernel⟩,
   ⟨{ heard (request 0x401 [7, 7, 0, 0, 144, 208, 3, 0] 1) (dev .run [(LEASE_RES.HANDLE, 0, 1), (LEASE_RES.PORT, 0, 0), (LEASE_RES.KIND,
     0, 1), (LEASE_RES.INDEX, 0, 7)]) with b.lease := [(0, { expiry := 100 })] }, request 0x401 [7, 7, 0, 0, 144, 208, 3, 0] 1, [7, 7,
     0, 0, 144, 208, 3, 0], 7, 7, 500, by decide +kernel⟩,
   ⟨{ heard (request 0x402 [7, 0, 0, 0] 1) (dev .run [(LOOP_CTL.EN, 7, 0), (LEASE_RES.HANDLE, 0, 1), (LEASE_RES.PORT, 0, 0),
     (LEASE_RES.KIND, 0, 1), (LEASE_RES.INDEX, 0, 7)]) with b.lease := [(0, { expiry := 100 })] }, request 0x402 [7, 0, 0, 0] 1, [7, 0,
     0, 0], 7, by decide +kernel⟩,
   ⟨{ heard (request 0x403 [7, 0, 0, 0] 1) (dev .run [(LEASE_RES.HANDLE, 0, 1), (LEASE_RES.PORT, 0, 0), (LEASE_RES.KIND, 0, 1),
     (LEASE_RES.INDEX, 0, 7)]) with b.lease := [(0, { expiry := 100 })] }, request 0x403 [7, 0, 0, 0] 1, [7, 0, 0, 0], 7,
     by decide +kernel⟩,
   ⟨{ heard (request 0x403 [7, 1, 0, 0] 1) (dev .run [(LOOP_STATE.STATE, 7, 3), (LEASE_RES.HANDLE, 0, 1), (LEASE_RES.PORT, 0, 0),
     (LEASE_RES.KIND, 0, 1), (LEASE_RES.INDEX, 0, 7)]) with b.lease := [(0, { expiry := 100 })] }, request 0x403 [7, 1, 0, 0] 1, [7, 1,
     0, 0], 7, _, rfl, by decide +kernel⟩,
   ⟨{ heard (request 0x404 ([7] ++ List.replicate 35 0) 1) (dev .run [(ENG_LOOP_CFG.LIVE_TUNE, 7, 0), (LOOP_STATE.STATE, 7, 0),
     (LEASE_RES.HANDLE, 0, 1), (LEASE_RES.PORT, 0, 0), (LEASE_RES.KIND, 0, 1), (LEASE_RES.INDEX, 0, 7)]) with b.lease := [(0, { expiry := 100 })] },
     request 0x404 ([7] ++ List.replicate 35 0) 1, ([7] ++ List.replicate 35 0), 7, _, rfl, by decide +kernel⟩,
   ⟨{ heard (request 0x404 ([7] ++ List.replicate 35 0) 1) (dev .run [(ENG_LOOP_CFG.LIVE_TUNE, 7, 0), (LOOP_STATE.STATE, 7, 2),
     (LEASE_RES.HANDLE, 0, 1), (LEASE_RES.PORT, 0, 0), (LEASE_RES.KIND, 0, 1), (LEASE_RES.INDEX, 0, 7)]) with b.lease := [(0, { expiry := 100 })] },
     request 0x404 ([7] ++ List.replicate 35 0) 1, ([7] ++ List.replicate 35 0), 7, _, rfl, by decide +kernel⟩,
   ⟨{ heard (request 0x404 ([7] ++ List.replicate 35 0) 1) (dev .run [(ENG_LOOP_CFG.LIVE_TUNE, 7, 0), (LOOP_STATE.STATE, 7, 1),
     (LEASE_RES.HANDLE, 0, 1), (LEASE_RES.PORT, 0, 0), (LEASE_RES.KIND, 0, 1), (LEASE_RES.INDEX, 0, 7)]) with b.lease := [(0, { expiry := 100 })] },
     request 0x404 ([7] ++ List.replicate 35 0) 1, ([7] ++ List.replicate 35 0), 7, _, rfl, by decide +kernel⟩,
   ⟨{ heard (request 0x404 ([7] ++ List.replicate 35 0) 1) (dev .run [(ENG_LOOP_CFG.LIVE_TUNE, 7, 1), (LEASE_RES.HANDLE, 0, 1),
     (LEASE_RES.PORT, 0, 0), (LEASE_RES.KIND, 0, 1), (LEASE_RES.INDEX, 0, 7)]) with b.lease := [(0, { expiry := 100 })] }, request 0x404
     ([7] ++ List.replicate 35 0) 1, ([7] ++ List.replicate 35 0), 7, _, rfl, by decide +kernel⟩,
   ⟨{ dev .run [] with b.wait := some ⟨true, 7, 1, true⟩, b.msg := some (request 0 []) }, request 0 [], [], 0, 0, { dev := .run, devEdge := .run, wait := some ⟨true, 7, 1, true⟩, msg := some (request 0 []) },
     ⟨true, 7, 1, true⟩, by decide +kernel⟩,
   ⟨{ dev .run [] with b.wait := some ⟨true, 7, 0, true⟩, b.msg := some (request 0 []) }, request 0 [], [], 0, 0, { dev := .run, devEdge := .run, wait := some ⟨true, 7, 0, true⟩, msg := some (request 0 []) },
     ⟨true, 7, 0, true⟩, by decide +kernel⟩,
   ⟨heard (request 0x500 [0, 7, 1, 0, 0, 0, 0, 0]) (dev .run []), request 0x500 [0, 7, 1, 0, 0, 0, 0, 0], [0, 7, 1, 0, 0, 0, 0, 0], 7,
     _, rfl, by decide +kernel⟩,
   ⟨heard (request 0x500 [0, 7, 0, 0, 192, 39, 9, 0]) (dev .run []), request 0x500 [0, 7, 0, 0, 192, 39, 9, 0], [0, 7, 0, 0, 192, 39, 9,
     0], 7, 240, by decide +kernel⟩,
   ⟨heard (request 0x500 [1, 5, 0, 0, 0, 53, 12, 0]) (dev .run []), request 0x500 [1, 5, 0, 0, 0, 53, 12, 0], [1, 5, 0, 0, 0, 53, 12,
     0], 5, 0, by decide +kernel⟩,
   ⟨heard (request 0x500 [1, 5, 1, 0, 0, 0, 0, 0]) (dev .run [(LDO_STATE.STATE, 5, 0), (LDO_CTL.CODE, 5, 168)]), request 0x500 [1, 5, 1,
     0, 0, 0, 0, 0], [1, 5, 1, 0, 0, 0, 0, 0], 5, by decide +kernel⟩,
   ⟨heard (request 0x500 [0, 8, 0, 0, 0, 0, 0, 0]) (dev .run []), request 0x500 [0, 8, 0, 0, 0, 0, 0, 0], [0, 8, 0, 0, 0, 0, 0, 0], 0,
     by decide +kernel⟩⟩

theorem test_GroupAndBatteryCommandsAct :
    (∃ (s : State) (r : Req) (p : List Nat) (n : Nat) (o : Nat), p = msgPay r.msg ∧ n = pU8 p 0 ∧ o = portClass s.b r.port ∧ n < 8 ∧
      Leased s r 2 n ∧ s.b.safeNow = false ∧ Asked s r 0x600 4 1 ∧ (s.b.gst n ≠ gIDLE ∨ s.b.f SEQ_GRP_STEPS.COUNT n = 0)) ∧
    (∃ (s : State) (r : Req) (p : List Nat) (n : Nat) (o : Nat) (x : Blk), x = seqStart s.tick s.b n o ∧ p = msgPay r.msg ∧ n = pU8 p 0
      ∧ o = portClass s.b r.port ∧ n < 8 ∧ Leased s r 2 n ∧ s.b.safeNow = false ∧ Asked s r 0x600 4 1 ∧ s.b.gst n = gIDLE ∧ s.b.f
      SEQ_GRP_STEPS.COUNT n ≠ 0) ∧
    (∃ (s : State) (r : Req) (p : List Nat) (n : Nat) (o : Nat) (x : Blk), x = seqStop s.tick s.b n 1 ∧ p = msgPay r.msg ∧ n = pU8 p 0 ∧
      o = portClass s.b r.port ∧ n < 8 ∧ Leased s r 2 n ∧ Asked s r 0x601 4 1) ∧
    (∃ (s : State) (r : Req) (p : List Nat) (n : Nat) (o : Nat), p = msgPay r.msg ∧ n = pU8 p 0 ∧ o = portClass s.b r.port ∧ n < 8 ∧
      Leased s r 2 n ∧ s.b.safeNow = false ∧ Asked s r 0x602 4 1 ∧ s.b.f SEQ_GRP_STEPS.COUNT n = 0) ∧
    (∃ (s : State) (r : Req) (p : List Nat) (n : Nat) (o : Nat), p = msgPay r.msg ∧ n = pU8 p 0 ∧ o = portClass s.b r.port ∧ n < 8 ∧
      Leased s r 2 n ∧ s.b.safeNow = false ∧ Asked s r 0x602 4 1 ∧ s.b.f SEQ_GRP_STEPS.COUNT n ≠ 0 ∧ s.b.gst n = gALLOFF ∧ (s.b.gr
      n).offAt + tOff s.b n ≤ s.tick ∧ s.b.dev = .run ∧ Fresh s (.grp n) ∧ (s.b.gr n).pendAt ≠ s.tick + 1) ∧
    (∃ (s : State) (r : Req) (p : List Nat) (n : Nat) (o : Nat), p = msgPay r.msg ∧ n = pU8 p 0 ∧ o = portClass s.b r.port ∧ n < 8 ∧
      Leased s r 2 n ∧ s.b.safeNow = false ∧ Asked s r 0x602 4 1 ∧ s.b.f SEQ_GRP_STEPS.COUNT n ≠ 0 ∧ (s.b.gst n ≠ gALLOFF ∨ s.tick <
      (s.b.gr n).offAt + tOff s.b n ∨ s.b.dev ≠ .run)) ∧
    (∃ (s : State) (r : Req) (p : List Nat) (n : Nat) (o : Nat), p = msgPay r.msg ∧ n = pU8 p 0 ∧ o = portClass s.b r.port ∧ n < 8 ∧
      Leased s r 2 n ∧ Asked s r 0x603 4 1 ∧ inDomain s.b n = false) ∧
    (∃ (s : State) (r : Req) (p : List Nat) (n : Nat) (o : Nat) (x : Blk), x = seqAllOffReq s.tick s.b n ∧ p = msgPay r.msg ∧ n = pU8 p
      0 ∧ o = portClass s.b r.port ∧ n < 8 ∧ Leased s r 2 n ∧ Asked s r 0x603 4 1 ∧ inDomain s.b n = true) ∧
    (∃ (s : State) (r : Req) (p : List Nat) (n : Nat) (o : Nat), p = msgPay r.msg ∧ n = pU8 p 0 ∧ o = portClass s.b r.port ∧ Asked s r
      0x800 12 1 ∧ Leased s r 3 0 ∧ n = 0 ∧ s.b.cst = cFAULT) ∧
    (∃ (s : State) (r : Req) (p : List Nat) (n : Nat) (o : Nat) (i : Nat) (v : Nat), p = msgPay r.msg ∧ n = pU8 p 0 ∧ o = portClass s.b
      r.port ∧ Asked s r 0x800 12 1 ∧ Leased s r 3 0 ∧ i ≤ 8191 ∧ 3000 ≤ v ∧ v ≤ 4400 ∧ pI32 p 4 = 1000 * (i : Int) ∧ pI32 p 8 = 1000 *
      (v : Int) ∧ n ≤ 1 ∧ pU8 p 1 = 0 ∧ s.b.safeNow = false ∧ s.b.cst ≠ cFAULT ∧ Fresh s .chg) ∧
    (∃ (s : State) (r : Req) (p : List Nat) (n : Nat) (o : Nat), p = msgPay r.msg ∧ n = pU8 p 0 ∧ o = portClass s.b r.port ∧ Asked s r
      0x802 0 1 ∧ s.b.f KEEP_STATUS.PACK_PRESENT 0 ≠ 1) ∧
    (∃ (s : State) (r : Req) (p : List Nat) (n : Nat) (o : Nat), p = msgPay r.msg ∧ n = pU8 p 0 ∧ o = portClass s.b r.port ∧ Asked s r
      0x802 0 1 ∧ s.b.f KEEP_STATUS.PACK_PRESENT 0 = 1 ∧ s.b.auth.run = false) ∧
    (∃ (s : State) (r : Req) (p : List Nat) (n : Nat) (o : Nat) (e : Nat), e = commitErr s.b p (leAt p 60 4) ∧ p = msgPay r.msg ∧ n =
      pU8 p 0 ∧ o = portClass s.b r.port ∧ p.length = 64 ∧ (∀ x ∈ p, x < 256) ∧ Asked s r 0x902 64 1) :=
  ⟨⟨{ heard (request 0x600 [7, 0, 0, 0] 1) (dev .run [(SEQ_GRP_STATE.STATE, 7, 1), (LEASE_RES.HANDLE, 0, 1), (LEASE_RES.PORT, 0, 0),
     (LEASE_RES.KIND, 0, 2), (LEASE_RES.INDEX, 0, 7)]) with b.lease := [(0, { expiry := 100 })] }, request 0x600 [7, 0, 0, 0] 1, [7, 0,
     0, 0], 7, 2, by decide +kernel⟩,
   ⟨{ heard (request 0x600 [7, 0, 0, 0] 1) (dev .run [(SEQ_GRP_STATE.STATE, 7, 0), (SEQ_GRP_STEPS.COUNT, 7, 1), (LEASE_RES.HANDLE, 0,
     1), (LEASE_RES.PORT, 0, 0), (LEASE_RES.KIND, 0, 2), (LEASE_RES.INDEX, 0, 7)]) with b.lease := [(0, { expiry := 100 })] }, request
     0x600 [7, 0, 0, 0] 1, [7, 0, 0, 0], 7, 2, _, rfl, by decide +kernel⟩,
   ⟨{ heard (request 0x601 [7, 0, 0, 0] 1) (dev .run [(LEASE_RES.HANDLE, 0, 1), (LEASE_RES.PORT, 0, 0), (LEASE_RES.KIND, 0, 2),
     (LEASE_RES.INDEX, 0, 7)]) with b.lease := [(0, { expiry := 100 })] }, request 0x601 [7, 0, 0, 0] 1, [7, 0, 0, 0], 7, 2, _, rfl,
     by decide +kernel⟩,
   ⟨{ heard (request 0x602 [7, 0, 0, 0] 1) (dev .run [(SEQ_GRP_STEPS.COUNT, 7, 0), (LEASE_RES.HANDLE, 0, 1), (LEASE_RES.PORT, 0, 0),
     (LEASE_RES.KIND, 0, 2), (LEASE_RES.INDEX, 0, 7)]) with b.lease := [(0, { expiry := 100 })] }, request 0x602 [7, 0, 0, 0] 1, [7, 0,
     0, 0], 7, 2, by decide +kernel⟩,
   ⟨{ heard (request 0x602 [7, 0, 0, 0] 1) (dev .run [(SEQ_GRP_STEPS.COUNT, 7, 1), (SEQ_GRP_STATE.STATE, 7, 4), (SEQ_GRP_CFG.T_OFF_MIN,
     7, 0), (LEASE_RES.HANDLE, 0, 1), (LEASE_RES.PORT, 0, 0), (LEASE_RES.KIND, 0, 2), (LEASE_RES.INDEX, 0, 7)] 1000000) with b.grp := [(7, { offAt := 3 })], b.lease := [(0, { expiry := 100 })] },
     request 0x602 [7, 0, 0, 0] 1, [7, 0, 0, 0], 7, 2, by decide +kernel⟩,
   ⟨{ heard (request 0x602 [7, 0, 0, 0] 1) (dev .run [(SEQ_GRP_STEPS.COUNT, 7, 1), (SEQ_GRP_STATE.STATE, 7, 5), (LEASE_RES.HANDLE, 0,
     1), (LEASE_RES.PORT, 0, 0), (LEASE_RES.KIND, 0, 2), (LEASE_RES.INDEX, 0, 7)]) with b.lease := [(0, { expiry := 100 })] }, request
     0x602 [7, 0, 0, 0] 1, [7, 0, 0, 0], 7, 2, by decide +kernel⟩,
   ⟨{ heard (request 0x603 [7, 0, 0, 0] 1) (dev .run [(LEASE_RES.HANDLE, 0, 1), (LEASE_RES.PORT, 0, 0), (LEASE_RES.KIND, 0, 2),
     (LEASE_RES.INDEX, 0, 7)]) with b.lease := [(0, { expiry := 100 })] }, request 0x603 [7, 0, 0, 0] 1, [7, 0, 0, 0], 7, 2,
     by decide +kernel⟩,
   ⟨{ heard (request 0x603 [7, 0, 0, 0] 1) (dev .run [(SEQ_GRP_CFG.DOMAIN, 7, 1), (LEASE_RES.HANDLE, 0, 1), (LEASE_RES.PORT, 0, 0),
     (LEASE_RES.KIND, 0, 2), (LEASE_RES.INDEX, 0, 7)]) with b.lease := [(0, { expiry := 100 })] }, request 0x603 [7, 0, 0, 0] 1, [7, 0,
     0, 0], 7, 2, _, rfl, by decide +kernel⟩,
   ⟨{ heard (request 0x800 [0, 0, 0, 0, 0, 0, 0, 0, 0, 0, 0, 0] 1) (dev .run [(CHG_STATE.STATE, 0, 4), (LEASE_RES.HANDLE, 0, 1),
     (LEASE_RES.PORT, 0, 0), (LEASE_RES.KIND, 0, 3), (LEASE_RES.INDEX, 0, 0)]) with b.lease := [(0, { expiry := 100 })] }, request 0x800
     [0, 0, 0, 0, 0, 0, 0, 0, 0, 0, 0, 0] 1, [0, 0, 0, 0, 0, 0, 0, 0, 0, 0, 0, 0], 0, 2, by decide +kernel⟩,
   ⟨{ heard (request 0x800 [1, 0, 0, 0, 24, 252, 124, 0, 128, 35, 67, 0] 1) (dev .run [(CHG_STATE.STATE, 0, 5), (LEASE_RES.HANDLE, 0,
     1), (LEASE_RES.PORT, 0, 0), (LEASE_RES.KIND, 0, 3), (LEASE_RES.INDEX, 0, 0)]) with b.lease := [(0, { expiry := 100 })] }, request
     0x800 [1, 0, 0, 0, 24, 252, 124, 0, 128, 35, 67, 0] 1, [1, 0, 0, 0, 24, 252, 124, 0, 128, 35, 67, 0], 1, 2, 8191, 4400,
     by decide +kernel⟩,
   ⟨heard (request 0x802 []) (dev .run [(KEEP_STATUS.PACK_PRESENT, 0, 0)]), request 0x802 [], [], 0, 2, by decide +kernel⟩,
   ⟨{ heard (request 0x802 []) (dev .run [(KEEP_STATUS.PACK_PRESENT, 0, 1)]) with b.auth := { run := false } }, request 0x802 [], [], 0,
     2, by decide +kernel⟩,
   ⟨heard (request 0x902 (List.replicate 64 0)) (dev .run []), request 0x902 (List.replicate 64 0), (List.replicate 64 0), 0, 2, _, rfl,
     by decide +kernel⟩⟩

theorem test_BivouacAndRecordCommandsAct_BivouacCommandsAct :
    (∃ (s : State) (r : Req) (p : List Nat) (c : Cal), c = ⟨pU8 p 0 % 64, pU8 p 1 % 64, pU8 p 2 % 32, pU8 p 3 % 32, pU8 p 4 % 16, pU8 p
      5 % 128, pU8 p 6 % 8⟩ ∧ p = msgPay r.msg ∧ Asked s r 0xA01 8 1 ∧ s.b.biv.sets = [] ∧ s.b.biv.osc = true ∧ c.valid = true) ∧
    (∃ (s : State) (r : Req) (p : List Nat) (c : Cal), c = ⟨pU8 p 0 % 64, pU8 p 1 % 64, pU8 p 2 % 32, pU8 p 3 % 32, pU8 p 4 % 16, pU8 p
      5 % 128, pU8 p 6 % 8⟩ ∧ p = msgPay r.msg ∧ Asked s r 0xA01 8 1 ∧ s.b.biv.sets = [] ∧ s.b.biv.osc = true ∧ c.valid = false) ∧
    (∃ (s : State) (r : Req) (p : List Nat) (c : Cal), c = ⟨pU8 p 0 % 64, pU8 p 1 % 64, pU8 p 2 % 32, pU8 p 3 % 32, pU8 p 4 % 16, pU8 p
      5 % 128, pU8 p 6 % 8⟩ ∧ p = msgPay r.msg ∧ Asked s r 0xA01 8 1 ∧ s.b.biv.sets = [] ∧ s.b.biv.osc = false) ∧
    (∃ (s : State) (r : Req) (p : List Nat), p = msgPay r.msg ∧ Asked s r 0xA02 8 1) ∧
    (∃ (s : State) (r : Req) (p : List Nat), p = msgPay r.msg ∧ Asked s r 0xA03 4 2 ∧ pU8 p 2 = 0) ∧
    (∃ (s : State) (r : Req) (p : List Nat), p = msgPay r.msg ∧ Asked s r 0xA03 4 2 ∧ pU8 p 2 = 1 ∧ s.b.f CLK_STATUS.TICK_SRC 0 = 1) ∧
    (∃ (s : State) (r : Req) (p : List Nat), p = msgPay r.msg ∧ Asked s r 0xA03 4 2 ∧ pU8 p 2 = 1 ∧ s.b.f CLK_STATUS.TICK_SRC 0 = 0 ∧
      s.b.dev = .run) ∧
    (∃ (s : State) (r : Req) (p : List Nat) (i : Nat) (n : Nat), p = msgPay r.msg ∧ i = pU8 p 1 ∧ n = pU8 p 2 ∧ 1 ≤ n ∧ i + n ≤ 64 ∧
      s.b.biv.ram.length = 256 ∧ pU8 p 0 = 0 ∧ Asked s r 0xA04 4 0) ∧
    (∃ (s : State) (r : Req) (p : List Nat) (i : Nat) (n : Nat), p = msgPay r.msg ∧ i = pU8 p 1 ∧ n = pU8 p 2 ∧ 1 ≤ n ∧ i + n ≤ 64 ∧
      s.b.biv.ram.length = 256 ∧ pU8 p 0 = 1 ∧ Asked s r 0xA04 (4 + n) 1) ∧
    (∃ (s : State) (r : Req) (p : List Nat), p = msgPay r.msg ∧ pU8 p 0 = 0 ∧ 64 < pU8 p 1 + pU8 p 2 ∧ Asked s r 0xA04 4 0) ∧
    (∃ (s : State) (r : Req) (p : List Nat), p = msgPay r.msg ∧ Asked s r 0xA05 4 1) :=
  ⟨⟨{ heard (request 0xa01 [0, 0, 23, 31, 12, 99, 0, 0]) (dev .run []) with b.biv := { sets := [], osc := true } }, request 0xa01 [0, 0,
     23, 31, 12, 99, 0, 0], [0, 0, 23, 31, 12, 99, 0, 0], _, rfl, by decide +kernel⟩,
   ⟨{ heard (request 0xa01 [0, 0, 0, 0, 0, 0, 0, 0]) (dev .run []) with b.biv := { sets := [], osc := true } }, request 0xa01 [0, 0, 0,
     0, 0, 0, 0, 0], [0, 0, 0, 0, 0, 0, 0, 0], _, rfl, by decide +kernel⟩,
   ⟨{ heard (request 0xa01 [0, 0, 0, 0, 0, 0, 0, 0]) (dev .run []) with b.biv := { sets := [], osc := false } }, request 0xa01 [0, 0, 0,
     0, 0, 0, 0, 0], [0, 0, 0, 0, 0, 0, 0, 0], _, rfl, by decide +kernel⟩,
   ⟨heard (request 0xa02 [0, 0, 0, 0, 0, 0, 0, 0]) (dev .run []), request 0xa02 [0, 0, 0, 0, 0, 0, 0, 0], [0, 0, 0, 0, 0, 0, 0, 0],
     by decide +kernel⟩,
   ⟨heard (request 0xa03 [0, 0, 0, 0]) (dev .run []), request 0xa03 [0, 0, 0, 0], [0, 0, 0, 0], by decide +kernel⟩,
   ⟨heard (request 0xa03 [0, 0, 1, 0]) (dev .run [(CLK_STATUS.TICK_SRC, 0, 1)]), request 0xa03 [0, 0, 1, 0], [0, 0, 1, 0],
     by decide +kernel⟩,
   ⟨heard (request 0xa03 [0, 0, 1, 0]) (dev .run [(CLK_STATUS.TICK_SRC, 0, 0)]), request 0xa03 [0, 0, 1, 0], [0, 0, 1, 0],
     by decide +kernel⟩,
   ⟨{ heard (request 0xa04 [0, 0, 1, 0]) (dev .run []) with b.biv := { ram := List.replicate 256 0 } }, request 0xa04 [0, 0, 1, 0], [0,
     0, 1, 0], 0, 1, by decide +kernel⟩,
   ⟨{ heard (request 0xa04 [1, 0, 1, 0, 0]) (dev .run []) with b.biv := { ram := List.replicate 256 0 } }, request 0xa04 [1, 0, 1, 0,
     0], [1, 0, 1, 0, 0], 0, 1, by decide +kernel⟩,
   ⟨heard (request 0xa04 [0, 64, 1, 0]) (dev .run []), request 0xa04 [0, 64, 1, 0], [0, 64, 1, 0], by decide +kernel⟩,
   ⟨heard (request 0xa05 [0, 0, 0, 0]) (dev .run []), request 0xa05 [0, 0, 0, 0], [0, 0, 0, 0], by decide +kernel⟩⟩

theorem test_BivouacAndRecordCommandsAct_RecordAndRelayCommandsAct :
    (∃ (s : State) (r : Req) (p : List Nat), p = msgPay r.msg ∧ Asked s r 0xB01 12 1) ∧
    (∃ (s : State) (r : Req) (p : List Nat), p = msgPay r.msg ∧ Asked s r 0xC02 0 1 ∧ s.b.f LOG_STATUS.DROP_RUN 0 = 1) ∧
    (∃ (s : State) (r : Req) (p : List Nat) (x : Blk), x = logSnap s.tick s.b (msgTag r.msg) r.port ∧ p = msgPay r.msg ∧ Asked s r 0xC02
      0 1 ∧ s.b.f LOG_STATUS.DROP_RUN 0 ≠ 1) ∧
    (∃ (s : State) (r : Req) (p : List Nat), p = msgPay r.msg ∧ Asked s r 0xC03 64 2 ∧ s.b.clearWait = true) ∧
    (∃ (s : State) (r : Req) (p : List Nat), p = msgPay r.msg ∧ Asked s r 0xC03 64 2 ∧ s.b.clearWait = false ∧ s.b.counter 2 = 255) ∧
    (∃ (s : State) (r : Req) (p : List Nat), p = msgPay r.msg ∧ Asked s r 0xC03 64 2 ∧ s.b.clearWait = false ∧ s.b.counter 2 ≠ 255 ∧
      s.b.log.clearing = true) ∧
    (∃ (s : State) (r : Req) (p : List Nat), p = msgPay r.msg ∧ Asked s r 0xC03 64 2 ∧ s.b.clearWait = false ∧ s.b.counter 2 < 255 ∧
      s.b.log.clearing = false ∧ (∀ c < 3, s.b.sig (.otpFail c) = 0)) ∧
    (∃ (s : State) (r : Req) (p : List Nat) (L : Nat), p = msgPay r.msg ∧ 8 ≤ L ∧ L ≤ 492 ∧ Asked s r 0x1101 L 1 ∧ (pU16 p 0 = 0 ∨ 4096
      ≤ pU16 p 0 ∨ 4 ≤ pU8 p 2)) ∧
    (∃ (s : State) (r : Req) (p : List Nat) (L : Nat), p = msgPay r.msg ∧ 8 ≤ L ∧ L ≤ 492 ∧ Asked s r 0x1101 L 1 ∧ 1 ≤ pU16 p 0 ∧ pU16 p
      0 < 4096 ∧ pU8 p 2 < 4 ∧ s.b.hw.relay.isSome = true) ∧
    (∃ (s : State) (r : Req) (p : List Nat) (L : Nat), p = msgPay r.msg ∧ 8 ≤ L ∧ L ≤ 492 ∧ Asked s r 0x1101 L 1 ∧ 1 ≤ pU16 p 0 ∧ pU16 p
      0 < 4096 ∧ pU8 p 2 < 4 ∧ s.b.hw.relay = none) ∧
    (∃ (s : State) (r : Req) (p : List Nat), p = msgPay r.msg ∧ Asked s r 0x1102 4 1 ∧ heldOf s.b r.port = none) ∧
    (∃ (s : State) (r : Req) (p : List Nat) (h : Held), p = msgPay r.msg ∧ Asked s r 0x1102 4 1 ∧ heldOf s.b r.port = some h ∧
      h.msg.length ≤ pU16 p 0) ∧
    (∃ (s : State) (r : Req) (p : List Nat) (h : Held), p = msgPay r.msg ∧ Asked s r 0x1102 4 1 ∧ heldOf s.b r.port = some h ∧ pU16 p 0
      < h.msg.length) :=
  ⟨⟨heard (request 0xb01 [0, 0, 0, 0, 0, 0, 0, 0, 0, 0, 0, 0]) (dev .run []), request 0xb01 [0, 0, 0, 0, 0, 0, 0, 0, 0, 0, 0, 0], [0, 0,
     0, 0, 0, 0, 0, 0, 0, 0, 0, 0], by decide +kernel⟩,
   ⟨heard (request 0xc02 []) (dev .run [(LOG_STATUS.DROP_RUN, 0, 1)]), request 0xc02 [], [], by decide +kernel⟩,
   ⟨heard (request 0xc02 []) (dev .run [(LOG_STATUS.DROP_RUN, 0, 0)]), request 0xc02 [], [], _, rfl, by decide +kernel⟩,
   ⟨{ heard (request 0xc03 (List.replicate 64 0)) (dev .run []) with b.clearWait := true }, request 0xc03 (List.replicate 64 0),
     (List.replicate 64 0), by decide +kernel⟩,
   ⟨{ heard (request 0xc03 (List.replicate 64 0)) (dev .run []) with b.clearWait := false, b.otp := [(1047, 0x80000000), (5143, 0x80000000), (9239, 0x80000000)] },
     request 0xc03 (List.replicate 64 0), (List.replicate 64 0), by decide +kernel⟩,
   ⟨{ heard (request 0xc03 (List.replicate 64 0)) (dev .run []) with b.clearWait := false, b.log := { clearing := true } }, request
     0xc03 (List.replicate 64 0), (List.replicate 64 0), by decide +kernel⟩,
   ⟨{ heard (request 0xc03 (List.replicate 64 0)) (dev .run []) with b.clearWait := false, b.log := { clearing := false } }, request
     0xc03 (List.replicate 64 0), (List.replicate 64 0), by decide +kernel⟩,
   ⟨heard (request 0x1101 (List.replicate 492 0)) (dev .run []), request 0x1101 (List.replicate 492 0), (List.replicate 492 0), 492,
     by decide +kernel⟩,
   ⟨{ heard (request 0x1101 [1, 0, 0, 0, 0, 0, 0, 0]) (dev .run []) with b.hw := { relay := some (0, 5, 0, 9) } }, request 0x1101 [1, 0,
     0, 0, 0, 0, 0, 0], [1, 0, 0, 0, 0, 0, 0, 0], 8, by decide +kernel⟩,
   ⟨{ heard (request 0x1101 [1, 0, 0, 0, 0, 0, 0, 0]) (dev .run []) with b.hw := { relay := none } }, request 0x1101 [1, 0, 0, 0, 0, 0,
     0, 0], [1, 0, 0, 0, 0, 0, 0, 0], 8, by decide +kernel⟩,
   ⟨heard (request 0x1102 [0, 0, 0, 0]) (dev .run []), request 0x1102 [0, 0, 0, 0], [0, 0, 0, 0], by decide +kernel⟩,
   ⟨{ heard (request 0x1102 [2, 0, 0, 0]) (dev .run []) with b.hw := { held := [(0, some ⟨[1, 2], none⟩)] } }, request 0x1102 [2, 0, 0,
     0], [2, 0, 0, 0], ⟨[1, 2], none⟩, by decide +kernel⟩,
   ⟨{ heard (request 0x1102 [1, 0, 0, 0]) (dev .run []) with b.hw := { held := [(0, some ⟨[1, 2], none⟩)] } }, request 0x1102 [1, 0, 0,
     0], [1, 0, 0, 0], ⟨[1, 2], none⟩, by decide +kernel⟩⟩

theorem test_ImageCommandsAct :
    (∃ (s : State) (r : Req) (p : List Nat), p = msgPay r.msg ∧ Leased s r 4 0 ∧ Asked s r 0xD01 8 2 ∧ s.b.f BOOT_STATUS.NOCFG 0 = 0 ∧
      (pU32 p 0 ≤ cfgSeq s.b ∨ pU32 p 0 = 0xFFFFFFFF)) ∧
    (∃ (s : State) (r : Req) (p : List Nat), p = msgPay r.msg ∧ Leased s r 4 0 ∧ Asked s r 0xD01 8 2 ∧ s.b.f BOOT_STATUS.NOCFG 0 = 0 ∧
      cfgSeq s.b < pU32 p 0 ∧ pU32 p 0 ≠ 0xFFFFFFFF ∧ (pU32 p 4 < 36 ∨ 65536 < pU32 p 4 ∨ pU32 p 4 % 8 ≠ 4)) ∧
    (∃ (s : State) (r : Req) (p : List Nat) (k : Nat), k = 1 - s.b.f BOOT_STATUS.CFG_SLOT 0 ∧ p = msgPay r.msg ∧ Leased s r 4 0 ∧ Asked
      s r 0xD01 8 2 ∧ s.b.f BOOT_STATUS.NOCFG 0 = 0 ∧ cfgSeq s.b < pU32 p 0 ∧ pU32 p 0 ≠ 0xFFFFFFFF ∧ 36 ≤ pU32 p 4 ∧ pU32 p 4 ≤ 65536 ∧
      pU32 p 4 % 8 = 4) ∧
    (∃ (s : State) (r : Req) (p : List Nat), p = msgPay r.msg ∧ Leased s r 4 0 ∧ Asked s r 0xE01 4 2 ∧ 0x200000 < pU32 p 0) ∧
    (∃ (s : State) (r : Req) (p : List Nat) (k : Nat), k = 1 - fwActive s.b ∧ p = msgPay r.msg ∧ Leased s r 4 0 ∧ Asked s r 0xE01 4 2 ∧
      pU32 p 0 ≤ 0x200000) ∧
    (∃ (s : State) (r : Req) (p : List Nat) (c : Instr) (code : Nat) (n : Nat) (fw : Bool), p = msgPay r.msg ∧ Leased s r 4 0 ∧ (c =
      .cfgChunk ∧ code = 0xD02 ∧ fw = false ∨ c = .fwChunk ∧ code = 0xE02 ∧ fw = true) ∧ p.length = n + 4 ∧ n % 8 = 0 ∧ 8 ≤ n ∧ n ≤ 488
      ∧ Asked s r code (n + 4) 2 ∧ s.b.upload = none) ∧
    (∃ (s : State) (r : Req) (p : List Nat) (c : Instr) (code : Nat) (n : Nat) (fw : Bool) (u : Upload), p = msgPay r.msg ∧ Leased s r 4
      0 ∧ (c = .cfgChunk ∧ code = 0xD02 ∧ fw = false ∨ c = .fwChunk ∧ code = 0xE02 ∧ fw = true) ∧ p.length = n + 4 ∧ n % 8 = 0 ∧ 8 ≤ n ∧
      n ≤ 488 ∧ Asked s r code (n + 4) 2 ∧ s.b.upload = some u ∧ u.fw ≠ fw) ∧
    (∃ (s : State) (r : Req) (p : List Nat) (c : Instr) (code : Nat) (n : Nat) (fw : Bool) (u : Upload), p = msgPay r.msg ∧ Leased s r 4
      0 ∧ (c = .cfgChunk ∧ code = 0xD02 ∧ fw = false ∨ c = .fwChunk ∧ code = 0xE02 ∧ fw = true) ∧ p.length = n + 4 ∧ n % 8 = 0 ∧ 8 ≤ n ∧
      n ≤ 488 ∧ Asked s r code (n + 4) 2 ∧ s.b.upload = some u ∧ u.fw = fw ∧ u.erasing = true) ∧
    (∃ (s : State) (r : Req) (p : List Nat) (c : Instr) (code : Nat) (n : Nat) (fw : Bool) (u : Upload), p = msgPay r.msg ∧ Leased s r 4
      0 ∧ (c = .cfgChunk ∧ code = 0xD02 ∧ fw = false ∨ c = .fwChunk ∧ code = 0xE02 ∧ fw = true) ∧ p.length = n + 4 ∧ n % 8 = 0 ∧ 8 ≤ n ∧
      n ≤ 488 ∧ Asked s r code (n + 4) 2 ∧ s.b.upload = some u ∧ u.fw = fw ∧ u.erasing = false ∧ pU32 p 0 ≠ u.next) ∧
    (∃ (s : State) (r : Req) (p : List Nat) (c : Instr) (code : Nat) (n : Nat) (fw : Bool) (u : Upload), p = msgPay r.msg ∧ Leased s r 4
      0 ∧ (c = .cfgChunk ∧ code = 0xD02 ∧ fw = false ∨ c = .fwChunk ∧ code = 0xE02 ∧ fw = true) ∧ p.length = n + 4 ∧ n % 8 = 0 ∧ 8 ≤ n ∧
      n ≤ 488 ∧ Asked s r code (n + 4) 2 ∧ s.b.upload = some u ∧ u.fw = fw ∧ u.erasing = false ∧ pU32 p 0 = u.next ∧ u.next + n ≤ (u.len
      + 7) / 8 * 8 ∧ s.mem.flashTakes (u.base + u.next) (n / 8) = false) ∧
    (∃ (s : State) (r : Req) (p : List Nat) (c : Instr) (code : Nat) (n : Nat) (fw : Bool) (u : Upload), p = msgPay r.msg ∧ Leased s r 4
      0 ∧ (c = .cfgChunk ∧ code = 0xD02 ∧ fw = false ∨ c = .fwChunk ∧ code = 0xE02 ∧ fw = true) ∧ p.length = n + 4 ∧ n % 8 = 0 ∧ 8 ≤ n ∧
      n ≤ 488 ∧ Asked s r code (n + 4) 2 ∧ s.b.upload = some u ∧ u.fw = fw ∧ u.erasing = false ∧ pU32 p 0 = u.next ∧ u.next + n ≤ (u.len
      + 7) / 8 * 8 ∧ s.mem.flashTakes (u.base + u.next) (n / 8) = true ∧ s.b.sig .flashFail = 0) ∧
    (∃ (s : State) (r : Req) (p : List Nat), p = msgPay r.msg ∧ Leased s r 4 0 ∧ Asked s r 0xD03 0 2 ∧ uploadFull s.b false = none) ∧
    (∃ (s : State) (r : Req) (p : List Nat) (u : Upload) (e : Nat), e = (cfgCheck s.tick (s.mem, s.b) u.slot).1 ∧ p = msgPay r.msg ∧
      Leased s r 4 0 ∧ Asked s r 0xD03 0 2 ∧ uploadFull s.b false = some u) ∧
    (∃ (s : State) (r : Req) (p : List Nat), p = msgPay r.msg ∧ Leased s r 4 0 ∧ Asked s r 0xE03 0 2 ∧ uploadFull s.b true = none) ∧
    (∃ (s : State) (r : Req) (p : List Nat) (u : Upload) (e : Nat), e = (pilotCheck s.tick (s.mem, s.b) u.slot).1 ∧ p = msgPay r.msg ∧
      Leased s r 4 0 ∧ Asked s r 0xE03 0 2 ∧ uploadFull s.b true = some u) ∧
    (∃ (s : State) (r : Req) (p : List Nat) (k : Nat) (e : Nat), k = 1 - fwActive s.b ∧ e = (pilotCheck s.tick (s.mem, s.b) k).1 ∧ p =
      msgPay r.msg ∧ Leased s r 4 0 ∧ Asked s r 0xE04 0 2) :=
  ⟨⟨{ heard (request 0xd01 [0, 0, 0, 0, 0, 0, 0, 0] 1) (dev .run [(BOOT_STATUS.NOCFG, 0, 0), (LEASE_RES.HANDLE, 0, 1), (LEASE_RES.PORT,
     0, 0), (LEASE_RES.KIND, 0, 4), (LEASE_RES.INDEX, 0, 0)]) with b.lease := [(0, { expiry := 100 })] }, request 0xd01 [0, 0, 0, 0, 0,
     0, 0, 0] 1, [0, 0, 0, 0, 0, 0, 0, 0], by decide +kernel⟩,
   ⟨{ heard (request 0xd01 [1, 0, 0, 0, 37, 0, 0, 0] 1) (dev .run [(BOOT_STATUS.NOCFG, 0, 0), (CFG_SEQ.SEQ, 0, 0), (LEASE_RES.HANDLE, 0,
     1), (LEASE_RES.PORT, 0, 0), (LEASE_RES.KIND, 0, 4), (LEASE_RES.INDEX, 0, 0)]) with b.lease := [(0, { expiry := 100 })] }, request
     0xd01 [1, 0, 0, 0, 37, 0, 0, 0] 1, [1, 0, 0, 0, 37, 0, 0, 0], by decide +kernel⟩,
   ⟨{ heard (request 0xd01 [1, 0, 0, 0, 36, 0, 0, 0] 1) (dev .run [(BOOT_STATUS.NOCFG, 0, 0), (CFG_SEQ.SEQ, 0, 0), (LEASE_RES.HANDLE, 0,
     1), (LEASE_RES.PORT, 0, 0), (LEASE_RES.KIND, 0, 4), (LEASE_RES.INDEX, 0, 0)]) with b.lease := [(0, { expiry := 100 })] }, request
     0xd01 [1, 0, 0, 0, 36, 0, 0, 0] 1, [1, 0, 0, 0, 36, 0, 0, 0], _, rfl, by decide +kernel⟩,
   ⟨{ heard (request 0xe01 [1, 0, 32, 0] 1) (dev .run [(LEASE_RES.HANDLE, 0, 1), (LEASE_RES.PORT, 0, 0), (LEASE_RES.KIND, 0, 4),
     (LEASE_RES.INDEX, 0, 0)]) with b.lease := [(0, { expiry := 100 })] }, request 0xe01 [1, 0, 32, 0] 1, [1, 0, 32, 0],
     by decide +kernel⟩,
   ⟨{ heard (request 0xe01 [0, 0, 0, 0] 1) (dev .run [(LEASE_RES.HANDLE, 0, 1), (LEASE_RES.PORT, 0, 0), (LEASE_RES.KIND, 0, 4),
     (LEASE_RES.INDEX, 0, 0)]) with b.lease := [(0, { expiry := 100 })] }, request 0xe01 [0, 0, 0, 0] 1, [0, 0, 0, 0], _, rfl,
     by decide +kernel⟩,
   ⟨{ heard (request 0xd02 [0, 0, 0, 0, 0, 0, 0, 0, 0, 0, 0, 0] 1) (dev .run [(LEASE_RES.HANDLE, 0, 1), (LEASE_RES.PORT, 0, 0),
     (LEASE_RES.KIND, 0, 4), (LEASE_RES.INDEX, 0, 0)]) with b.lease := [(0, { expiry := 100 })], b.upload := none }, request 0xd02 [0,
     0, 0, 0, 0, 0, 0, 0, 0, 0, 0, 0] 1, [0, 0, 0, 0, 0, 0, 0, 0, 0, 0, 0, 0], .cfgChunk, 0xD02, 8, false, by decide +kernel⟩,
   ⟨{ heard (request 0xd02 [0, 0, 0, 0, 0, 0, 0, 0, 0, 0, 0, 0] 1) (dev .run [(LEASE_RES.HANDLE, 0, 1), (LEASE_RES.PORT, 0, 0),
     (LEASE_RES.KIND, 0, 4), (LEASE_RES.INDEX, 0, 0)]) with b.lease := [(0, { expiry := 100 })], b.upload := some ⟨true, 1, 0, 100,
                                                              false⟩ }, request 0xd02 [0, 0, 0, 0, 0, 0, 0, 0, 0, 0, 0, 0] 1, [0, 0, 0,
     0, 0, 0, 0, 0, 0, 0, 0, 0], .cfgChunk, 0xD02, 8, false, ⟨true, 1, 0, 100, false⟩, by decide +kernel⟩,
   ⟨{ heard (request 0xd02 [0, 0, 0, 0, 0, 0, 0, 0, 0, 0, 0, 0] 1) (dev .run [(LEASE_RES.HANDLE, 0, 1), (LEASE_RES.PORT, 0, 0),
     (LEASE_RES.KIND, 0, 4), (LEASE_RES.INDEX, 0, 0)]) with b.lease := [(0, { expiry := 100 })], b.upload := some ⟨false, 1, 0, 100,
                                                              true⟩ }, request 0xd02 [0, 0, 0, 0, 0, 0, 0, 0, 0, 0, 0, 0] 1, [0, 0, 0,
     0, 0, 0, 0, 0, 0, 0, 0, 0], .cfgChunk, 0xD02, 8, false, ⟨false, 1, 0, 100, true⟩, by decide +kernel⟩,
   ⟨{ heard (request 0xd02 [0, 0, 0, 0, 0, 0, 0, 0, 0, 0, 0, 0] 1) (dev .run [(LEASE_RES.HANDLE, 0, 1), (LEASE_RES.PORT, 0, 0),
     (LEASE_RES.KIND, 0, 4), (LEASE_RES.INDEX, 0, 0)]) with b.lease := [(0, { expiry := 100 })], b.upload := some ⟨false, 1, 8, 100,
                                                              false⟩ }, request 0xd02 [0, 0, 0, 0, 0, 0, 0, 0, 0, 0, 0, 0] 1, [0, 0, 0,
     0, 0, 0, 0, 0, 0, 0, 0, 0], .cfgChunk, 0xD02, 8, false, ⟨false, 1, 8, 100, false⟩, by decide +kernel⟩,
   ⟨{ heard (request 0xd02 [0, 0, 0, 0, 0, 0, 0, 0, 0, 0, 0, 0] 1) (dev .run [(LEASE_RES.HANDLE, 0, 1), (LEASE_RES.PORT, 0, 0),
     (LEASE_RES.KIND, 0, 4), (LEASE_RES.INDEX, 0, 0)]) with mem := ({} : Mem).flashWrite 0x10710000 [0] 8, b.lease := [(0, { expiry := 100 })],
                                                            b.upload := some ⟨false, 1, 0, 100, false⟩ }, request 0xd02 [0, 0, 0, 0, 0,
     0, 0, 0, 0, 0, 0, 0] 1, [0, 0, 0, 0, 0, 0, 0, 0, 0, 0, 0, 0], .cfgChunk, 0xD02, 8, false, ⟨false, 1, 0, 100, false⟩,
     by decide +kernel⟩,
   ⟨{ heard (request 0xd02 [0, 0, 0, 0, 0, 0, 0, 0, 0, 0, 0, 0] 1) (dev .run [(LEASE_RES.HANDLE, 0, 1), (LEASE_RES.PORT, 0, 0),
     (LEASE_RES.KIND, 0, 4), (LEASE_RES.INDEX, 0, 0)]) with b.env := envOf [(.flashFail, 0)], b.lease := [(0, { expiry := 100 })],
                                                            b.upload := some ⟨false, 1, 0, 100, false⟩ }, request 0xd02 [0, 0, 0, 0, 0,
     0, 0, 0, 0, 0, 0, 0] 1, [0, 0, 0, 0, 0, 0, 0, 0, 0, 0, 0, 0], .cfgChunk, 0xD02, 8, false, ⟨false, 1, 0, 100, false⟩,
     by decide +kernel⟩,
   ⟨{ heard (request 0xd03 [] 1) (dev .run [(LEASE_RES.HANDLE, 0, 1), (LEASE_RES.PORT, 0, 0), (LEASE_RES.KIND, 0, 4), (LEASE_RES.INDEX,
     0, 0)]) with b.lease := [(0, { expiry := 100 })] }, request 0xd03 [] 1, [], by decide +kernel⟩,
   ⟨{ heard (request 0xd03 [] 1) (dev .run [(LEASE_RES.HANDLE, 0, 1), (LEASE_RES.PORT, 0, 0), (LEASE_RES.KIND, 0, 4), (LEASE_RES.INDEX,
     0, 0)]) with b.lease := [(0, { expiry := 100 })], b.upload := some ⟨false, 1, 100, 100, false⟩ }, request 0xd03 [] 1, [], ⟨false,
     1, 100, 100, false⟩, _, rfl, by decide +kernel⟩,
   ⟨{ heard (request 0xe03 [] 1) (dev .run [(LEASE_RES.HANDLE, 0, 1), (LEASE_RES.PORT, 0, 0), (LEASE_RES.KIND, 0, 4), (LEASE_RES.INDEX,
     0, 0)]) with b.lease := [(0, { expiry := 100 })] }, request 0xe03 [] 1, [], by decide +kernel⟩,
   ⟨{ heard (request 0xe03 [] 1) (dev .run [(LEASE_RES.HANDLE, 0, 1), (LEASE_RES.PORT, 0, 0), (LEASE_RES.KIND, 0, 4), (LEASE_RES.INDEX,
     0, 0)]) with b.lease := [(0, { expiry := 100 })], b.upload := some ⟨true, 1, 100, 100, false⟩ }, request 0xe03 [] 1, [], ⟨true, 1,
     100, 100, false⟩, _, rfl, by decide +kernel⟩,
   ⟨{ heard (request 0xe04 [] 1) (dev .run [(LEASE_RES.HANDLE, 0, 1), (LEASE_RES.PORT, 0, 0), (LEASE_RES.KIND, 0, 4), (LEASE_RES.INDEX,
     0, 0)]) with b.lease := [(0, { expiry := 100 })] }, request 0xe04 [] 1, [], _, _, rfl, rfl, by decide +kernel⟩⟩

theorem test_OtpRequestCommandsAct :
    (∃ (s : State) (r : Req) (p : List Nat) (n : Nat) (w : Nat) (v : Nat) (good : Bool), good = otpSigned s.b [0x4F, 0x54, 0x50, 0x50,
      0x52, 0x4F, 0x47, 0x31] (slice p 0 2 ++ slice p 4 4) (p.drop 8) ∧ p = msgPay r.msg ∧ n = pU8 p 0 ∧ w = pU16 p 0 ∧ v = pU32 p 4 ∧ w
      < 2048 ∧ Asked s r 0xF01 72 2) ∧
    (∃ (s : State) (r : Req) (p : List Nat) (n : Nat) (tag : List Nat) (body : List Nat) (sig : List Nat), p = msgPay r.msg ∧ n = pU8 p
      0 ∧ ownerBlank s.b = true) ∧
    (∃ (s : State) (r : Req) (p : List Nat) (n : Nat) (l : List Nat) (good : Bool) (y : Blk), l = p.drop 4 ∧ good = Config.ecdsaOk
      (vendorKey s.b) (l.take 64) (l.drop 64) ∧ y = keeperProgramAll s.tick s.b (0x1E0 + 32 * n) (leWords l 32) ∧ p = msgPay r.msg ∧ n =
      pU8 p 0 ∧ n < 8 ∧ Asked s r 0xF02 132 2) ∧
    (∃ (s : State) (r : Req) (p : List Nat) (n : Nat) (good : Bool), good = otpSigned s.b [0x4F, 0x54, 0x50, 0x46, 0x49, 0x4E, 0x41,
      0x4C] [n] (p.drop 4) ∧ p = msgPay r.msg ∧ n = pU8 p 0 ∧ 1 ≤ n ∧ n ≤ 3 ∧ Asked s r 0xF03 68 2) ∧
    (∃ (s : State) (r : Req) (p : List Nat) (n : Nat) (good : Bool) (y : Blk), good = otpSigned s.b [0x4F, 0x57, 0x4E, 0x45, 0x52, 0x58,
      0x46, 0x52] (leBytes 4 (s.b.counter 3) ++ p.take 64) (p.drop 64) ∧ y = ownerTransfer s.tick s.b (p.take 64) ∧ p = msgPay r.msg ∧ n
      = pU8 p 0 ∧ Asked s r 0xF04 128 2) :=
  ⟨⟨heard (request 0xf01 ([255, 7] ++ List.replicate 70 0)) (dev .run []), request 0xf01 ([255, 7] ++ List.replicate 70 0), ([255, 7] ++
     List.replicate 70 0), 255, 2047, 0, _, rfl, by decide +kernel⟩,
   ⟨dev .run [], request 0 [], [], 0, [], [], [], by decide +kernel⟩,
   ⟨heard (request 0xf02 ([7] ++ List.replicate 131 0)) (dev .run []), request 0xf02 ([7] ++ List.replicate 131 0), ([7] ++
     List.replicate 131 0), 7, _, _, _, rfl, rfl, rfl, by decide +kernel⟩,
   ⟨heard (request 0xf03 ([3] ++ List.replicate 67 0)) (dev .run []), request 0xf03 ([3] ++ List.replicate 67 0), ([3] ++ List.replicate
     67 0), 3, _, rfl, by decide +kernel⟩,
   ⟨heard (request 0xf04 (List.replicate 128 0)) (dev .run []), request 0xf04 (List.replicate 128 0), (List.replicate 128 0), 0, _, _,
     rfl, rfl, by decide +kernel⟩⟩

theorem test_RegisterCommandsAct :
    (∃ (s : State) (r : Req) (p : List Nat) (a : Nat) (g : Nat) (u : Nat) (st : Nat) (y : MB), g = wordGiven a 0xFFFFFFFF (leAt p 8 4) ∧
      (u, y) = busWrite s.tick (s.mem, s.b) .pilot (portClass s.b r.port) a g ∧ (st = (if u = sOK ∧ g ≠ leAt p 8 4 then sLIMIT else u))
      ∧ p = msgPay r.msg ∧ a = pU32 p 0 ∧ Asked s r 0x1001 12 2 ∧ pU16 p 4 = 1 ∧ regCheck s.b r.port true [a] = sOK) ∧
    (∃ (s : State) (r : Req) (p : List Nat) (a : Nat), p = msgPay r.msg ∧ a = pU32 p 0 ∧ Asked s r 0x1001 12 2 ∧ pU16 p 4 = 1 ∧ regCheck
      s.b r.port true [a] ≠ sOK) ∧
    (∃ (s : State) (r : Req) (p : List Nat) (a : Nat) (g : Nat) (u : Nat) (st : Nat) (y : MB), g = wordGiven a 0xFFFFFFFF (leAt p 8 4) ∧
      (u, y) = busWrite s.tick (s.mem, s.b) .pilot (portClass s.b r.port) a g ∧ (st = (if u = sOK ∧ g ≠ leAt p 8 4 then sLIMIT else u))
      ∧ p = msgPay r.msg ∧ a = pU32 p 0 ∧ Asked s r 0x1001 16 2 ∧ pU16 p 4 = 2 ∧ regCheck s.b r.port true [a, a + 4] = sOK ∧ st ≠ sOK) ∧
    (∃ (s : State) (r : Req) (p : List Nat) (a : Nat), p = msgPay r.msg ∧ a = pU32 p 0 ∧ Asked s r 0x1002 12 2 ∧ regCheck s.b r.port
      true [a] ≠ sOK) ∧
    (∃ (s : State) (r : Req) (p : List Nat) (a : Nat) (v : Nat) (w : Nat) (g : Nat) (u : Nat) (st : Nat) (y : MB), v = peekWord s.tick
      s.b a ∧ w = ((v &&& (0xFFFFFFFF ^^^ pU32 p 4)) ||| (pU32 p 8 &&& pU32 p 4)) ∧ g = wordGiven a (pU32 p 4) w ∧ (u, y) = busWrite
      s.tick (s.mem, s.b) .pilot (portClass s.b r.port) a g ∧ (st = (if u = sOK ∧ g ≠ w then sLIMIT else u)) ∧ (∀ (d : RegD) (i : Nat),
      findReg a = some (d, i) → ∀ F ∈ d.flds, F.acc ≠ .rc) ∧ p = msgPay r.msg ∧ a = pU32 p 0 ∧ Asked s r 0x1002 12 2 ∧ regCheck s.b
      r.port true [a] = sOK ∧ isRom a = false ∧ isFlash a = false ∧ isSram a = false ∧ ownRead a = false) ∧
    (∃ (s : State) (r : Req) (p : List Nat) (a : Nat) (F : Fld) (lo : Nat) (hi : Nat) (per : Nat) (x : Nat), p = msgPay r.msg ∧ a = pU32
      p 0 ∧ (F, lo, hi) ∈ fieldRanges) ∧
    (∃ (s : State) (r : Req) (p : List Nat) (a : Nat), p = msgPay r.msg ∧ a = pU32 p 0 ∧ (a % 4 ≠ 0 ∨ mapped a = false)) ∧
    (∃ (s : State) (r : Req) (p : List Nat) (a : Nat), p = msgPay r.msg ∧ a = pU32 p 0 ∧ a % 4 = 0 ∧ mapped a = true ∧ regBarred a =
      true) ∧
    (∃ (s : State) (r : Req) (p : List Nat) (a : Nat), p = msgPay r.msg ∧ a = pU32 p 0 ∧ a % 4 = 0 ∧ mapped a = true ∧ regBarred a =
      false ∧ regLeased s.b r.port a = true) :=
  ⟨⟨heard (request 0x1001 [0, 0, 1, 64, 1, 0, 0, 0, 7, 0, 0, 0]) (dev .run []), request 0x1001 [0, 0, 1, 64, 1, 0, 0, 0, 7, 0, 0, 0],
     [0, 0, 1, 64, 1, 0, 0, 0, 7, 0, 0, 0], 0x40010000, _, _, _, _, rfl, rfl, rfl, by decide +kernel⟩,
   ⟨heard (request 0x1001 [2, 0, 0, 0, 1, 0, 0, 0, 0, 0, 0, 0]) (dev .run []), request 0x1001 [2, 0, 0, 0, 1, 0, 0, 0, 0, 0, 0, 0], [2,
     0, 0, 0, 1, 0, 0, 0, 0, 0, 0, 0], 2, by decide +kernel⟩,
   ⟨heard (request 0x1001 [0, 0, 13, 64, 2, 0, 0, 0, 0, 0, 0, 0, 0, 0, 0, 0]) (dev .run []), request 0x1001 [0, 0, 13, 64, 2, 0, 0, 0,
     0, 0, 0, 0, 0, 0, 0, 0], [0, 0, 13, 64, 2, 0, 0, 0, 0, 0, 0, 0, 0, 0, 0, 0], 0x400D0000, _, _, _, _, rfl, rfl, rfl,
     by decide +kernel⟩,
   ⟨heard (request 0x1002 [2, 0, 0, 0, 0, 0, 0, 0, 0, 0, 0, 0]) (dev .run []), request 0x1002 [2, 0, 0, 0, 0, 0, 0, 0, 0, 0, 0, 0], [2,
     0, 0, 0, 0, 0, 0, 0, 0, 0, 0, 0], 2, by decide +kernel⟩,
   ⟨heard (request 0x1002 [0, 0, 1, 64, 255, 0, 0, 0, 7, 0, 0, 0]) (dev .run []), request 0x1002 [0, 0, 1, 64, 255, 0, 0, 0, 7, 0, 0,
     0], [0, 0, 1, 64, 255, 0, 0, 0, 7, 0, 0, 0], 0x40010000, _, _, _, _, _, _, rfl, rfl, rfl, rfl, rfl, plain_at (by decide +kernel),
     by decide +kernel⟩,
   ⟨heard (request 0x0 [0, 0, 0, 0]) (dev .run []), request 0x0 [0, 0, 0, 0], [0, 0, 0, 0], 0, LOOP_PER.PER, 800, 5333, 0, 6000,
     by decide +kernel⟩,
   ⟨heard (request 0x0 [2, 0, 0, 0]) (dev .run []), request 0x0 [2, 0, 0, 0], [2, 0, 0, 0], 2, by decide +kernel⟩,
   ⟨heard (request 0x0 [0, 0, 18, 64]) (dev .run []), request 0x0 [0, 0, 18, 64], [0, 0, 18, 64], 0x40120000, by decide +kernel⟩,
   ⟨{ heard (request 0x0 [0, 31, 1, 64]) (dev .run [(LEASE_RES.HANDLE, 0, 1), (LEASE_RES.PORT, 0, 1), (LEASE_RES.KIND, 0, 0),
     (LEASE_RES.INDEX, 0, 31)]) with b.lease := [(0, { expiry := 9 })] }, request 0x0 [0, 31, 1, 64], [0, 31, 1, 64], 0x40011F00,
     by decide +kernel⟩⟩

theorem test_TickCounterOnlyCounts :
    (∃ (ins : List (Sig × Int)) (s t : State), exec (.tick ins) s = .next t) ∧
    (∃ (s t : State), exec .powerup s = .next t) ∧
    (∃ (c : Instr) (s t : State),
      exec c s = .next t ∧ (∀ ins, c ≠ .tick ins) ∧ c ≠ .powerup ∧ c ≠ .powerupPllTimeout) :=
  ⟨⟨[], { b := { dev := .run } }, _, rfl⟩, ⟨{ b := { dev := .powerup } }, _, rfl⟩,
   ⟨.beat, { b := { dev := .run } }, _, rfl, fun _ => nofun, nofun, nofun⟩⟩

theorem test_StepRunsTheFrontCommand :
    (∃ (c : Instr) (rest : List Instr) (s : State), s.pending = c :: rest) ∧ ∃ s : State, s.pending = [] :=
  ⟨⟨.beat, [.round], { pending := [.beat, .round] }, rfl⟩, ⟨{}, rfl⟩⟩

theorem test_NothingElseActsWithoutClock :
    ∃ (c : Instr) (s : State), running s.b = false ∧ clockless c = false :=
  ⟨.beat, { b := { dev := .off } }, by decide +kernel⟩

theorem test_MemoryFormIsKept : ∃ s t : State, SafeState s ∧ step s = .next t :=
  ⟨{ pending := [.beat], b := { dev := .run } }, _, by decide, rfl⟩

theorem test_ResetState :
    (∃ (F : Fld) (i : Nat), F.key i ≠ HOST_TW_CFG.TW0_ADDR.key 0) ∧ (∃ a, isSram a = true) ∧ ∃ a, isFlash a = true :=
  ⟨⟨HOST_TW_CFG.TW1_ADDR, 0, by decide +kernel⟩, ⟨0x2007FFFF, by decide +kernel⟩, ⟨0x107FFFFF, by decide +kernel⟩⟩

end Sys2Proof.Tests
end

section
/-! PROOFS. The tick counter (R11, R437): how each way of acting on the state leaves it, and which commands act in which way. -/
namespace Sys2Proof.Machine

/-- The end of POWERUP starts the counter at 0 or has no effect (R437). -/
theorem State.powerOn_tick_zero_or_eq_self (s : State) (ends : Bool) (f : MB → MB) :
    (s.powerOn ends f).tick = 0 ∨ s.powerOn ends f = s := by
  unfold State.powerOn
  split
  · exact .inl rfl
  · exact .inr rfl

/-- Both commands that can end POWERUP, on the lock of the PLL and at its timeout, do so by `powerOn` (R447). -/
theorem exec_powerup_tick_zero_or_eq_self {c : Instr} {s t : State} (h : exec c s = .next t)
    (hc : c = .powerup ∨ c = .powerupPllTimeout) : t.tick = 0 ∨ t = s := by
  rcases hc with rfl | rfl <;> cases h <;> exact s.powerOn_tick_zero_or_eq_self _ _

/-- A tick edge counts with the core clock alone (R11, R12). -/
theorem exec_tick_tick {ins : List (Sig × Int)} {s t : State} (h : exec (.tick ins) s = .next t) :
    t.tick = if running s.b then s.tick + 1 else s.tick := by
  cases h
  exact s.tickOn_tick _

/-- A test-port instruction that is not refused changes at most the block (R347). -/
theorem execTestPortInstruction_tick {i : Nat} {s t : State} (h : execTestPortInstruction i s = .next t) :
    t.tick = s.tick := by
  unfold execTestPortInstruction at h
  split at h
  · cases h
    split <;> rfl
  · split at h
    · cases h
    · cases h
      rfl

/-- Every command but a tick edge and the ends of POWERUP keeps the counter. But for a test-port instruction, which can be refused, each
acts on the block or on memories and block, with the core clock alone or in every device state. -/
theorem exec_keeps_tick {c : Instr} {s t : State} (h : exec c s = .next t) (hTick : ∀ ins, c ≠ .tick ins)
    (hUp : c ≠ .powerup) (hPll : c ≠ .powerupPllTimeout) : t.tick = s.tick := by
  cases c
  case tick ins => exact absurd rfl (hTick ins)
  case powerup => exact absurd rfl hUp
  case powerupPllTimeout => exact absurd rfl hPll
  case testPortInstruction i => exact execTestPortInstruction_tick h
  all_goals
    cases h
    simp only [State.act_tick, State.actX_tick, State.actAny_tick, State.actAnyX_tick]

/-- Settles O54: a tick edge is `tickOn`, the ends of POWERUP are `powerOn`, and what every other command does keeps the counter. -/
theorem tickCounterOnlyCounts : Obligations.TickCounterOnlyCounts := by
  unfold Obligations.TickCounterOnlyCounts
  intro c s t h
  refine ⟨?_, exec_powerup_tick_zero_or_eq_self h, exec_keeps_tick h⟩
  rintro ins rfl
  exact exec_tick_tick h

end Sys2Proof.Machine
end

section
/-! PROOFS. Power-good for the sequencer (R39, R125, R140): which signal stands behind an ID of the table Managed output IDs, and when
the signals of a loop and of a buck are up. -/
namespace Sys2Proof.Machine

/-- A loop is power-good in REGULATING or BURST while neither count of its window runs (R125). -/
theorem loopPg_eq_true_iff (b : Blk) (n : Nat) :
    loopPg b n = true ↔ (b.lst n = lREGULATING ∨ b.lst n = lBURST) ∧ (b.lp n).ov = 0 ∧ (b.lp n).uv = 0 := by
  simp only [loopPg, Bool.and_eq_true, Bool.or_eq_true, beq_iff_eq, and_assoc]

/-- A buck is power-good in REGULATING while no count of its window and its current runs (R140). -/
theorem buckPg_eq_true_iff (b : Blk) (n : Nat) :
    buckPg b n = true ↔ b.ist n = iREGULATING ∧ (b.bk n).ov = 0 ∧ (b.bk n).uv = 0 ∧ (b.bk n).oc = 0 := by
  simp only [buckPg, Bool.and_eq_true, beq_iff_eq, and_assoc]

/-- The IDs from 0 are the loops. -/
theorem outPg_loop (b : Blk) (n : Fin 8) : outPg b n = loopPg b n :=
  if_pos n.isLt

/-- The IDs from 8 are the bucks. -/
theorem outPg_buck (b : Blk) (n : Fin 8) : outPg b (8 + n) = buckPg b n := by
  have hLoop : ¬ 8 + n.val < 8 := by omega
  have hBuck : 8 + n.val < 16 := by omega
  rw [outPg, if_neg hLoop, if_pos hBuck, Nat.add_sub_cancel_left]

/-- The IDs from 22 are the berths, whose own signal is the state ON. -/
theorem outPg_berth (b : Blk) (nn : Fin 32) : outPg b (22 + nn) = (b.bst nn == bON) := by
  have hLoop : ¬ 22 + nn.val < 8 := by omega
  have hBuck : ¬ 22 + nn.val < 16 := by omega
  have hLdo : ¬ 22 + nn.val < 22 := by omega
  have hBerth : 22 + nn.val < 54 := by omega
  rw [outPg, if_neg hLoop, if_neg hBuck, if_neg hLdo, if_pos hBerth, Nat.add_sub_cancel_left]

/-- Settles O55: the ID selects the output's own signal, and that signal is up just as R39, R125 and R140 say. -/
theorem powerGoodIsAsStated : Obligations.PowerGoodIsAsStated := by
  unfold Obligations.PowerGoodIsAsStated
  intro b
  refine ⟨fun nn => ?berth, fun n => ?loop, fun n => ?buck⟩
  case berth => rw [outPg_berth, beq_iff_eq]
  case loop => rw [outPg_loop, loopPg_eq_true_iff]
  case buck => rw [outPg_buck, buckPg_eq_true_iff]

end Sys2Proof.Machine
end
